-- ==== Sys2Proof/Word.lean ====
section
/-! DEFINITION. The word types of the block and the unit of its timebase. -/

namespace Sys2Proof

/-- One byte of a slot, a record, a surface or host memory. -/
abbrev Byte := BitVec 8

/-- One 32-bit word: a BAR0 register (R26), an MSL or Hinge Link word (R84, R336). -/
abbrev Word := BitVec 32

/-- The 16-bit free-running counts of the rings (R28, R29). -/
abbrev Count := BitVec 16

/-- An object ID: class in bits 31:24, instance in bits 23:0 (Table 2.5). -/
abbrev ObjId := Nat

/-- An instant or a span on the device timebase, in ticks of 2⁻¹⁶ ns (R206, R325). -/
abbrev Ticks := Nat

end Sys2Proof
end

