-- ==== Sys2Proof/Syntax.lean ====
section
/-! DEFINITION. The commands of the block: one constructor for every row of the table of operations and events. -/

namespace Sys2Proof

/-- How a PCIe completion for a DMA read ends (R471). -/
inductive DmaStatus where
  | ok          -- a successful completion
  | poisoned    -- a poisoned completion
  | unsupported -- Unsupported Request status
  | aborted     -- Completer Abort status
deriving DecidableEq, Repr

/-- A host access to a location of BAR0 (R25, R26). -/
inductive RegAccess where
  | write (bytes : List Byte)
  | read (len : Nat)
deriving DecidableEq, Repr

/-- What the host unmasks (R27): one vector's mask bit, or the function's. -/
inductive MsixTarget where
  | vector (v : Fin 64)
  | function
deriving DecidableEq, Repr

/-- One ST 291-1 ancillary packet as an input carries it (Table 4.10). -/
structure AncPacket where
  line : Nat
  hoffset : Nat
  chroma : Bool
  did : Nat
  sdid : Nat
  words : List Nat      -- the user data words, then the checksum word
  sumOk : Bool
deriving DecidableEq, Repr

/-- What a lane carried between two alignment markers (R84, R85). -/
structure MarkerGap where
  words : Nat            -- from the first word of the marker before to the first of this one
  before : Nat           -- the last 58 bits before this marker, the latest in bit 0
deriving DecidableEq, Repr

/-- The words that stand on each lane of a link, in list order, since the link's command before: scrambled, and with the words
of markers among them (R84 to R87). -/
abbrev LaneWords : Type := List (List Word)

/-- The mappings of Table 4.9, supported or not. -/
inductive SdiStandard where
  | hd          -- ST 292-1
  | dualHd      -- dual-link HD
  | g3A         -- ST 424 level A
  | g3BDL       -- ST 424 level B-DL
  | g3BDS       -- ST 424 level B-DS
  | g6          -- ST 2081-1, single link
  | multi6      -- multi-link 6G
  | g12         -- ST 2082-1, single link
  | dual12      -- dual-link 12G
  | quad12      -- ST 2082-12, two-sample interleave
  | square12    -- ST 2082-12, square division
deriving DecidableEq, Repr

/-- One channel of a frame's audio packets (R289). -/
structure SdiAudio where
  samples : List Int
  pcm : Bool
  synchronous : Bool     -- with the video
  fast : Bool            -- 96 kHz packets
deriving DecidableEq, Repr

/-- What an SDI receiver finds at a frame start (R92 to R95, R99). -/
structure SdiFrame where
  standard : SdiStandard
  laneRate : Nat         -- the bits that the lane carries, in kb/s
  skew : Nat             -- how far the links of a quad-link signal lie apart, in lines
  width : Nat
  height : Nat
  format : Nat
  scan : Nat             -- 0 progressive, 1 PsF, 2 interlaced
  payloadId : Bool       -- an ST 352 payload ID is present
  bits : Nat             -- 10 or 12
  crcErrors : Nat        -- line CRC failures counted in this frame
  anc : List AncPacket
  samples : List Nat     -- the frame's samples as they arrive, plane by plane; a PsF frame's segments one after the other
  audio : List SdiAudio  -- what its audio packets carry, by channel
deriving DecidableEq, Repr

/-- One received ST 2110 packet of a flow (R97, R98). -/
structure RtpPacket where
  leg : Nat
  seq : Nat
  timestamp : Nat
  marker : Bool
  width : Nat
  height : Nat
  format : Nat
  scan : Nat
  bits : Nat
  offset : Nat           -- index of the first native sample carried, in the frame's sample order
  samples : List Nat
  audio : List (List Int)
  anc : List AncPacket
  checkFailed : Bool     -- its MAC frame failed the FCS, or a codeword of it the FEC (R96)
deriving DecidableEq, Repr

/-- What a received Ethernet MAC frame carries (R96). -/
inductive MacKind where
  | flow      -- an RTP packet whose headers match a flow of a port on this interface
  | arpQuery  -- an ARP query for the interface's address
  | igmpQuery -- an IGMPv3 query
  | ptp       -- a PTP event message
  | other     -- headers that match nothing
deriving DecidableEq, Repr

/-- The PTP messages a slave-only clock acts on (R314). -/
inductive PtpMessage where
  | announce (priority : Nat) (grandmaster : Nat) (utcOffset : Int)
  | sync (origin : Ticks) (twoStep : Bool)
  | followUp (origin : Ticks)
  | delayResp (received : Ticks)
deriving DecidableEq, Repr

/-- What DP link training finds (R257, R258). -/
structure DpResult where
  success : Bool         -- the sink locks to the configuration that the port trains
  lanes : Nat            -- the most lanes that the sink supports
  rate : Nat             -- the highest rate that it supports: 0 UHBR10, 1 UHBR13.5, 2 UHBR20
  panelReplay : Bool     -- the sink supports Panel Replay in DPCD
  resync : Ticks         -- the resynchronisation time that the sink reports
deriving DecidableEq, Repr

/-- What stands on a TDM port's pins (R271, R274): an edge of a frame clock, and RXD at each BCLK edge from there on. -/
structure TdmFrame where
  clock : Nat            -- the pin of the edge: 0 the port's FSYNC, 1 AFC0, 2 AFC1
  falling : Bool
  onRise : List Bool
  onFall : List Bool
deriving DecidableEq, Repr

/-- What an egress port finds when it copies ancillary records (R252). -/
structure AncCopy where
  port : Fin 128
  unchanged : Bool       -- the record's frame number is the same when it is read again
deriving DecidableEq, Repr

/-- One sample of a lane's read-back slicer (R260). -/
structure LaneSample where
  lane : Fin 96
  word : Nat             -- the number w of the transmit word
  sent : Word            -- the word that the lane core handed to the serializer
  seen : List Bool       -- its bit w mod 32 at the ball; of ST 292-1, in both copies
deriving DecidableEq, Repr

/-- Why a lane is declared faulty (R261). -/
inductive LaneFault where
  | pll                                                    -- its transmit PLL unlocked
  | readBack (word : Nat) (sent : Word) (seen : List Bool) -- the sample with which its window reaches the threshold
deriving DecidableEq, Repr

/-- What the keyring finds when it verifies an image (the cryptographic parts are computed on the image's bytes). -/
structure ImageBytes where
  header : List Byte
  body : List Byte
deriving DecidableEq, Repr

/-- A boundary-scan instruction (R381). -/
inductive JtagInstr where
  | bypass | idcode | sample | extest | other
deriving DecidableEq, Repr

/-- The wake sources of R427 and R428, by the bit of `system.wake_sources`. -/
inductive WakeSource where
  | wakeN | doorbell | rtcAlarm | perstRelease
deriving DecidableEq, Repr

/-- Why a control pair faults (R367). -/
inductive PairCause where
  | comparator | watchdog | sramEcc
deriving DecidableEq, Repr

/-- The eight bus masters, in the order of Table 17.1. -/
inductive BusMaster where
  | pairA | pairB | pci | dma | keyring | service | debug | chain
deriving DecidableEq, Repr

/-- A frame-store request as a client port issues it (R350, R351). -/
structure FsRequest where
  tag : Nat
  write : Bool
  addr : Nat
  data : List Byte
  port : Nat              -- class of Table 16.3 in bits 7:5, index in bits 4:0
  issue : Ticks
  deadline : Ticks
  qos : Nat
  control : Bool          -- served by the mirroring agent
deriving DecidableEq, Repr

/-- The commands of the block. An operand `t` is the instant, on the device timebase, at which the command reaches
the block; where there is none, the rule named gives the instant from the state. -/
inductive Instr where
  -- the host's register writes
  | mbDoorbellWrite (t : Ticks) (mb : Fin 16) (value : Word)
  | mbCplHeadWrite (t : Ticks) (mb : Fin 16) (value : Word)
  | evHeadWrite (t : Ticks) (ring : Fin 4) (value : Word)
  | evLostClear (t : Ticks) (ring : Fin 4) (value : Word)
  | evHoldoffWrite (t : Ticks) (ring : Fin 4) (value : Word)
  | registerWrite (t : Ticks) (offset : Nat) (access : RegAccess)
  -- requests that firmware consumes from a mailbox
  | vxNop (t : Ticks) (mb : Fin 16)
  | vxIdentify (t : Ticks) (mb : Fin 16)
  | vxPinLevel (t : Ticks) (mb : Fin 16)
  | vxGet (t : Ticks) (mb : Fin 16)
  | vxSet (t : Ticks) (mb : Fin 16)
  | vxDescribe (t : Ticks) (mb : Fin 16)
  | vxEnumerate (t : Ticks) (mb : Fin 16)
  | vxCreate (t : Ticks) (mb : Fin 16)
  | vxDestroy (t : Ticks) (mb : Fin 16)
  | vxCommit (t : Ticks) (mb : Fin 16)
  | vxCommitGroup (t : Ticks) (mb : Fin 16)
  | vxDiscard (t : Ticks) (mb : Fin 16)
  | vxSubscribe (t : Ticks) (mb : Fin 16)
  | vxAlloc (t : Ticks) (mb : Fin 16)
  | vxFree (t : Ticks) (mb : Fin 16)
  | vxLease (t : Ticks) (mb : Fin 16)
  | vxRelease (t : Ticks) (mb : Fin 16)
  | vxTrigger (t : Ticks) (mb : Fin 16)
  | vxExport (t : Ticks) (mb : Fin 16)
  | vxRestart (t : Ticks) (mb : Fin 16)
  | vxReset (t : Ticks) (mb : Fin 16)
  | vxRepairMigrate (t : Ticks) (mb : Fin 16)
  | vxRepairTest (t : Ticks) (mb : Fin 16)
  | vxRepairReturn (t : Ticks) (mb : Fin 16)
  | vxRepairRetire (t : Ticks) (mb : Fin 16)
  | vxFwUpdate (t : Ticks) (mb : Fin 16)
  | vxAttest (t : Ticks) (mb : Fin 16)
  -- writes of properties with an effect of their own
  | setMbPolicy (t : Ticks) (mb : Fin 16)
  | setRouteHead (t : Ticks) (mb : Fin 16)
  | setTapsV (t : Ticks) (mb : Fin 16)
  | setHostFrame (t : Ticks) (mb : Fin 16)
  | setCaptureMode (t : Ticks) (mb : Fin 16)
  | setCadence (t : Ticks) (mb : Fin 16)
  | setTbSet (t : Ticks) (mb : Fin 16)
  | setRtcSet (t : Ticks) (mb : Fin 16)
  | setPowerState (t : Ticks) (mb : Fin 16)
  | setRollbackFloor (t : Ticks) (mb : Fin 16)
  | setOwnerKeyHash (t : Ticks) (mb : Fin 16)
  | setVendorRevoke (t : Ticks) (mb : Fin 16)
  | setKeyslotDerive (t : Ticks) (mb : Fin 16)
  | setDebugUnlock (t : Ticks) (mb : Fin 16)
  | setPufReenrol (t : Ticks) (mb : Fin 16)
  | setFsRelease (t : Ticks) (mb : Fin 16)
  | setTallyRearm (t : Ticks) (mb : Fin 16)
  -- deadlines, events and DMA
  | requestDeadlineExpiry (t : Ticks) (mb : Fin 16) (count : Count)
  | hingeDeadlineWithdraw (t : Ticks) (mb : Fin 16) (count : Count)
  | progress (t : Ticks) (mb : Fin 16) (count : Count) (thousandths : Nat)
  | eventHoldoffEnd (t : Ticks) (ring : Fin 4)
  | dmaCompletion (t : Ticks) (tag : Nat) (status : DmaStatus) (data : List Byte)
  | dmaCompletionTimeout (t : Ticks) (tag : Nat)
  | dmaRetryBudgetEnd (t : Ticks) (mb : Fin 16) (count : Count)
  | exportComplete (t : Ticks) (ring : ObjId)
  -- commits and the raster of a head
  | commitStagingComplete (t : Ticks) (head : Fin 24) (commit : Nat)
  | hinge (head : Fin 24) (badDescriptors : List Nat)
  | headStartH0 (head : Fin 24)
  | retimeLineZero (head : Fin 24)
  | prefetchStart (head : Fin 24)
  | blankStart (head : Fin 24)
  | lineMatch (head : Fin 24)
  | frameDone (head : Fin 24)
  | underrun (head : Fin 24) (line pixel position : Nat)
  -- ingress
  | frameComplete (t : Ticks) (surface : ObjId) (validA validB : Bool)
  | laneCdrLock (t : Ticks) (lane : Fin 96)
  | laneCdrUnlock (t : Ticks) (lane : Fin 96)
  | alignmentMarker (t : Ticks) (lane : Fin 96) (w0 w1 : Word) (gap : MarkerGap) (skew : Nat)
  | markerLoss (t : Ticks) (lane : Fin 96)
  | mslFrameStart (t : Ticks) (port : Fin 128) (link : Nat) (header : LaneWords)
  | mslLine (t : Ticks) (port : Fin 128) (link : Nat) (header payload : LaneWords)
  | mslFrameEnd (t : Ticks) (port : Fin 128) (link : Nat) (header : LaneWords)
  | sdiFrameStart (t : Ticks) (port : Fin 128) (frame : SdiFrame)
  | sdiTrsLoss (t : Ticks) (port : Fin 128)
  | macFrame (t : Ticks) (port : Fin 128) (fcsOk : Bool) (badFec : Nat) (kind : MacKind)
  | rtpPacket (t : Ticks) (port : Fin 128) (packet : RtpPacket)
  | pathTimeout (t : Ticks) (port : Fin 128) (leg : Fin 2)
  | lossTimeout (t : Ticks) (port : Fin 128)
  -- stages of routes
  | shapeJobStart (t : Ticks) (route : ObjId) (stage : Fin 4)
  | shapeJobEnd (t : Ticks) (route : ObjId) (stage : Fin 4)
  | convertJobStart (route : ObjId)
  | playbackOffer (route : ObjId)
  | convertFold (t : Ticks) (route : ObjId)
  | convertFoldEnd (t : Ticks) (route : ObjId)
  | convertCutoff (route : ObjId)
  | convertFinishEnd (t : Ticks) (route : ObjId)
  | tconvLateInput (t : Ticks) (route : ObjId) (surface : ObjId)
  | routeLastJobEnd (t : Ticks) (route : ObjId)
  | bar2Access (t : Ticks) (write : Bool) (addr : Nat) (len : Nat) (data : List Byte)
  -- egress
  | ancCopy (t : Ticks) (copy : AncCopy)
  | st2110PacketSend (t : Ticks) (port : Fin 128) (line packet : Nat)
  | dpHpdRise (t : Ticks) (pins : Fin 16)
  | dpHpdLow (t : Ticks) (pins : Fin 16)
  | dpIrqHpd (t : Ticks) (pins : Fin 16)
  | dpLink (t : Ticks) (port : Fin 128) (result : DpResult)
  | dpTrainingRetry (t : Ticks) (port : Fin 128)
  | laneMismatch (t : Ticks) (sample : LaneSample)
  | laneFaultDeclare (t : Ticks) (lane : Fin 96) (fault : LaneFault)
  | laneSpared (t : Ticks) (lane : Fin 96)
  | plannedSwitchoverEnd (t : Ticks) (lane : Fin 96)
  -- audio
  | tdmFrameClockEdge (t : Ticks) (port : Fin 8) (bclks : Nat) (rx : TdmFrame)
  | audioGlitch (t : Ticks) (port : Fin 8)
  | audioClockLost (t : Ticks) (port : Fin 8) (frameClock : Bool)
  | audioClockReturn (t : Ticks) (port : Fin 8)
  | audioClockBack (t : Ticks) (port : Fin 8)
  | mutedRateEnd (t : Ticks) (port : Fin 8)
  | asrcAcquireEnd (t : Ticks) (channel : ObjId)
  | audioSamplePeriod (t : Ticks) (dest : Fin 1024)
  | audioChangeTimeout (t : Ticks) (dest : Fin 1024)
  | achUnderrun (t : Ticks) (channel : ObjId)
  | achRejoin (t : Ticks) (channel : ObjId)
  -- capture
  | triggerPinEdge (t : Ticks) (pin : Fin 8) (rising : Bool)
  | triggerFilterAccept (t : Ticks) (trigger : Fin 32)
  | postTimeout (t : Ticks) (ring : ObjId)
  | cepraReady (t : Ticks) (ring : ObjId)
  -- references, timebase, cadence, RTC
  | refEvent (t : Ticks) (ref : Fin 17) (rateNum rateDen : Nat)
  | refLoss (t : Ticks) (ref : Fin 17)
  | refQualified (t : Ticks) (ref : Fin 17)
  | refFreqUpdate (t : Ticks) (ref : Fin 17) (vsTimebase vsHoldover : Int)
  | selectionEvaluate (t : Ticks)
  | tbPullDone (t : Ticks)
  | tbStep (t : Ticks)
  | dpllStageAdvance (t : Ticks)
  | ptpMessage (t : Ticks) (ref : Fin 17) (domain : Nat) (message : PtpMessage)
  | cadencePulse (cadence : Fin 16)
  | rtcDiscipline (t : Ticks) (rtcTicks : Nat) (driftSteps : Int)
  | rtcFree (t : Ticks)
  | timebaseCopyMismatch (t : Ticks) (copy : Fin 2)
  -- Hinge Link
  | link (t : Ticks) (hl : Fin 5) (message : List Word)
  | nak (t : Ticks) (hl : Fin 5) (message : List Word)
  | timeSync (t : Ticks) (hl : Fin 5) (message : List Word)
  | timeReq (t : Ticks) (hl : Fin 5) (message : List Word)
  | timeResp (t : Ticks) (hl : Fin 5) (message : List Word)
  | timeSyncSend (t : Ticks) (hl : Fin 5)
  | join (t : Ticks) (hl : Fin 5) (message : List Word)
  | joinAck (t : Ticks) (hl : Fin 5) (message : List Word)
  | topology (t : Ticks) (hl : Fin 5) (message : List Word)
  | groupUp (t : Ticks) (hl : Fin 5) (message : List Word)
  | groupDown (t : Ticks) (hl : Fin 5) (message : List Word)
  | groupReport (t : Ticks) (hl : Fin 5) (message : List Word)
  | groupWithdraw (t : Ticks) (hl : Fin 5) (message : List Word)
  | hlRetransmitTimer (t : Ticks) (hl : Fin 5)
  | hlKeepalive (t : Ticks) (hl : Fin 5)
  | hlSilence (t : Ticks) (hl : Fin 5)
  | hlBudgetExpiry (t : Ticks) (hl : Fin 5)
  | hlWaitingTimeout (t : Ticks)
  -- frame store
  | fsCommandSlot (t : Ticks) (pc : Fin 128) (arrivals : List FsRequest) (corrected : Bool)
  | fsRefresh (t : Ticks) (pc : Fin 128)
  | fsTempRead (t : Ticks) (stack : Fin 4) (celsius : Int)
  | fsParityFail (t : Ticks) (pc : Fin 128) (tag : Nat)
  | fsParityBudgetEnd (t : Ticks) (pc : Fin 128) (tag : Nat)
  | fsUncorrectable (t : Ticks) (pc : Fin 128) (tag : Nat) (data : List Byte)
  | fsSpareIn (t : Ticks) (pc : Fin 128)
  | fsMirror (t : Ticks) (pc : Fin 128)
  | fsMigrateCopyDone (t : Ticks) (pc : Fin 128)
  -- control complex
  | lockstepFault (t : Ticks) (pairB : Bool) (cause : PairCause)
  | ccRecovery (t : Ticks) (pairB : Bool)
  | watchdogExpiry (t : Ticks) (pairB : Bool)
  | sramScrub (t : Ticks) (corrected : List Nat)
  | masterDrainDone (t : Ticks) (master : BusMaster)
  | remapSet (t : Ticks) (master : BusMaster)
  | bHoldWrite (t : Ticks) (hold : Bool)
  | wdtEnSet (t : Ticks)
  | boot (t : Ticks) (mode : Nat) (slotA slotB : Option ImageBytes) (pufSeedOk : Bool) (corrected : Nat)
  | hostPush (t : Ticks) (read : DmaStatus) (data : List Byte)
  | serviceRead (t : Ticks) (addr len : Nat) (crcOk : Bool)
  | serviceWrite (t : Ticks) (addr : Nat) (data : List Byte) (crcOk : Bool)
  | jtagInstruction (t : Ticks) (instr : JtagInstr)
  | debugHalt (t : Ticks) (pairB : Bool) (halt : Bool)
  -- keyring
  | slotRemask (t : Ticks) (slot : Fin 32) (mask : Nat)
  | drbgReseed (t : Ticks)
  | healthTest (t : Ticks) (pass : Bool)
  | operatingDay (t : Ticks)
  -- illumination
  | chainLatch (t : Ticks) (chain : Fin 8)
  | chainShiftComplete (t : Ticks) (chain : Fin 8) (status : List Word)
  | diagPulse (t : Ticks) (chain : Fin 8)
  | strobePulse (t : Ticks) (strobe : Fin 8)
  -- resets, power, repair
  | powerOn (t : Ticks) (vbatLost : Bool) (bootMode : Nat) (failed : List Nat)
  | rstNAssert (t : Ticks)
  | perstNAssert (t : Ticks)
  | powerStateEntry (t : Ticks)
  | wake (t : Ticks) (source : WakeSource) (pufSeedOk : Bool) (corrected : Nat)
  | braceBegin (t : Ticks) (rail : Fin 16) (mv : Nat)
  | braceEnd (t : Ticks) (rail : Fin 16) (lowestMv : Nat)
  | supplyReset (t : Ticks) (rail : Fin 16) (lowestMv : Nat)
  | unitFault (t : Ticks) (kind index cause : Nat)
  | sparePrepare (t : Ticks) (kind index : Nat)
  | egressEngineSwitch (t : Ticks) (engine : Fin 64)
  | unitTested (t : Ticks) (kind index : Nat) (passed : Bool)
  | ageing (t : Ticks) (island : Fin 40) (slowdown : Nat)
  | errorTrendMigrate (t : Ticks) (kind index : Nat)
  | handoverEnd (t : Ticks)
  | handoverTimeout (t : Ticks)
  | pairBRestart (t : Ticks)
  | thermalRead (t : Ticks) (temps : List Int)
  | deviceResetStart (t : Ticks)
  | groupReleaseTime (head : Fin 24) (commit : Nat)
  | msixUnmask (t : Ticks) (target : MsixTarget)
  | reenrolmentComplete (t : Ticks) (seedOk : Bool)
  | reservedOpcodeRequest (t : Ticks) (mb : Fin 16)
deriving DecidableEq, Repr

end Sys2Proof
end

