-- ==== Sys2Proof/Config.lean ====
section
/-! DEFINITION. What an implementation fixes and what the spec leaves open: constants without a body, so that no proof
can lean on a value of them. -/

namespace Sys2Proof.Config

/-- A value that the spec leaves open, fresh for each use: applied to the count of free values used so far. -/
opaque freeValue : Nat → Nat

/-- The Completion Timeout Value of the function's Device Control 2 register, in ticks (R471). -/
opaque completionTimeout : Ticks

/-- The device serial number that OTP holds (R41). -/
opaque serial : Nat

/-- The 256-bit seed that the PUF regenerates (R385). -/
opaque seed : List Byte

/-- The four vendor root hashes of OTP (Table 18.1). -/
opaque vendorRoot : Nat → List Byte

/-- The bytes of a certificate: 1 is the identity certificate of OTP, later numbers are those the keyring issues. -/
opaque certByte : Nat → Nat → Byte

/-- The gain, in units of 2⁻¹², that a tone table answers for a LUMA basis above the largest linear value (R192). -/
opaque gainBeyond : Int → BitVec 16

/-- The 256 KiB boot ROM (R398). -/
opaque bootRom : List Byte

/-- The bits that the code of the PUF corrects (R385). -/
opaque pufCapacity : Nat

/-- The levels that the board drives on GPIO0 to GPIO15 at an instant, by bit (R468). -/
opaque gpioLevels : Ticks → Nat

/-- The MAC address that firmware derives from the serial number for an ETH port (Table 4.16). -/
opaque macAddress : Nat → Nat

end Sys2Proof.Config
end

