-- ==== Sys2Proof/Machine/Crc.lean ====
section
/-! DEFINITION. The cyclic checks: CRC-32C (R32) and the driver chain's CRC-8 (R408). -/

namespace Sys2Proof.Machine

/-- One bit of the reflected CRC-32C register; 0x82F6_3B78 is 0x1EDC_6F41 reflected (R32). -/
def crc32cBit (r : BitVec 32) : BitVec 32 :=
  if r.getLsbD 0 then (r >>> 1) ^^^ 0x82F63B78#32 else r >>> 1

/-- One byte into the register. -/
def crc32cByte (r : BitVec 32) (b : Byte) : BitVec 32 :=
  let r := r ^^^ b.setWidth 32
  crc32cBit (crc32cBit (crc32cBit (crc32cBit (crc32cBit (crc32cBit (crc32cBit (crc32cBit r)))))))

/-- CRC-32C: the register starts at 0xFFFF_FFFF and the result is XORed with 0xFFFF_FFFF (R32). -/
def crc32c (bs : List Byte) : Nat := ((bs.foldl crc32cByte 0xFFFFFFFF#32) ^^^ 0xFFFFFFFF#32).toNat

/-- One bit of the CRC-8 register, polynomial 0x07 (R408). -/
def crc8Bit (r : BitVec 8) : BitVec 8 := if r.getLsbD 7 then (r <<< 1) ^^^ 0x07#8 else r <<< 1

/-- One byte into the register. -/
def crc8Byte (r b : Byte) : Byte :=
  crc8Bit (crc8Bit (crc8Bit (crc8Bit (crc8Bit (crc8Bit (crc8Bit (crc8Bit (r ^^^ b))))))))

/-- CRC-8 of the driver chain: the register starts at 0x00, no reflection and no final XOR (R408). -/
def crc8 (bs : List Byte) : Nat := (bs.foldl crc8Byte 0#8).toNat

end Sys2Proof.Machine
end

