-- ==== Sys2Proof/Machine/Bits.lean ====
section
/-! DEFINITION. Bit fields, byte order, clamps and saturating counts (R5 to R7, R9). -/

namespace Sys2Proof.Machine

/-- Bits `hi:lo` of a number (R5). -/
def bitsOf (v hi lo : Nat) : Nat := (v / 2 ^ lo) % 2 ^ (hi + 1 - lo)

/-- Bit `n` of a number. -/
def bitOf (v n : Nat) : Bool := (v / 2 ^ n) % 2 == 1

/-- A truth value as a bit. -/
def bit01 (b : Bool) : Nat := if b then 1 else 0

/-- A truth value as a property value (R36). -/
def int01 (b : Bool) : Int := if b then 1 else 0

/-- The value of bytes in little-endian order (R6). -/
def leNat : List Byte → Nat
  | [] => 0
  | b :: bs => b.toNat + 256 * leNat bs

/-- `n` bytes of a value, least significant first (R6). -/
def toLe : Nat → Nat → List Byte
  | 0, _ => []
  | n + 1, v => BitVec.ofNat 8 v :: toLe n (v / 256)

/-- `n` bytes of a value, most significant first: the order of the published standards (R6). -/
def toBe (n v : Nat) : List Byte := (toLe n v).reverse

/-- The value of bytes, most significant first. -/
def beNat (bs : List Byte) : Nat := leNat bs.reverse

/-- `n` bytes of a list from offset `at`; bytes beyond its end read zero. -/
def slice (bs : List Byte) (start n : Nat) : List Byte :=
  let part := (bs.drop start).take n
  part ++ List.replicate (n - part.length) 0

/-- A little-endian field of `n` bytes at an offset. -/
def fieldAt (bs : List Byte) (start n : Nat) : Nat := leNat (slice bs start n)

/-- A list padded with zero bytes or cut to `n` bytes. -/
def padTo (n : Nat) (bs : List Byte) : List Byte := slice bs 0 n

/-- A value put into the nearest end of its range (R9). -/
def clampInt (lo hi v : Int) : Int := if v < lo then lo else if hi < v then hi else v

/-- A count put into the nearest end of its range (R9). -/
def clampNat (lo hi v : Nat) : Nat := if v < lo then lo else if hi < v then hi else v

/-- A 32-bit count that saturates at 4,294,967,295. -/
def satInc (v : Int) (by' : Int := 1) : Int := min (v + by') 4294967295

/-- A count that saturates at `top`. -/
def satTo (top v : Int) : Int := min v top

/-- The two's complement image of a value in `bits` bits (R36). -/
def twos (bits : Nat) (v : Int) : Nat := (v % (2 ^ bits : Int)).toNat

/-- The signed value of a `bits`-bit two's complement image (R36). -/
def signedOf (bits v : Nat) : Int :=
  if v % 2 ^ bits < 2 ^ (bits - 1) then (v % 2 ^ bits : Nat) else (v % 2 ^ bits : Nat) - (2 ^ bits : Int)

/-- Bytes of 32-bit words in order, each little-endian. -/
def wordBytes : List Nat → List Byte
  | [] => []
  | w :: ws => toLe 4 w ++ wordBytes ws

/-- The least multiple of `m` at or above `v`. -/
def roundUp (v m : Nat) : Nat := (v + m - 1) / m * m

/-- ⌈a ÷ b⌉. -/
def ceilDiv (a b : Nat) : Nat := (a + b - 1) / b

/-- ⌈a ÷ b⌉ of a signed dividend. -/
def ceilDivInt (a b : Int) : Int := -((-a).fdiv b)

/-- The quotient rounded to nearest, halves away from zero. -/
def roundDiv (a b : Int) : Int :=
  if 0 ≤ a then (2 * a + b).fdiv (2 * b) else -((2 * (-a) + b).fdiv (2 * b))

/-- The integer square root, by a descent of `fuel` halvings. -/
def isqrtGo : Nat → Nat → Nat → Nat
  | 0, _, r => r
  | k + 1, n, r => if (r + 2 ^ k) * (r + 2 ^ k) ≤ n then isqrtGo k n (r + 2 ^ k) else isqrtGo k n r

/-- ⌊√n⌋ for n < 2¹²⁸. -/
def isqrt (n : Nat) : Nat := isqrtGo 64 n 0

/-- The number of set bits of a number below 2ⁿ. -/
def popCount : Nat → Nat → Nat
  | 0, _ => 0
  | n + 1, v => v % 2 + popCount n (v / 2)

/-- The parity of a number below 2ⁿ. -/
def parity (n v : Nat) : Nat := popCount n v % 2

/-- Set or clear bit `n` of a number. -/
def setBit (v n : Nat) (b : Bool) : Nat :=
  if bitOf v n then (if b then v else v - 2 ^ n) else (if b then v + 2 ^ n else v)

/-- The element at index `i`, or a default. -/
def atD {α : Type} (l : List α) (i : Nat) (d : α) : α := (l[i]?).getD d

end Sys2Proof.Machine
end

