-- ==== Sys2Proof/Machine/Maps.lean ====
section
/-! DEFINITION. Sparse maps as lists of keys in rising order, and byte memory in canonical form. -/

namespace Sys2Proof.Machine

/-- A sparse map: key and value pairs, keys strictly rising. -/
abbrev Map (α : Type) : Type := List (Nat × α)

/-- The value under a key. -/
def mapGet {α : Type} : Map α → Nat → Option α
  | [], _ => none
  | (k, v) :: m, j => if k = j then some v else mapGet m j

/-- The value under a key, or a default. -/
def mapGetD {α : Type} (m : Map α) (j : Nat) (d : α) : α := (mapGet m j).getD d

/-- Put a value under a key, in its place. -/
def mapPut {α : Type} : Map α → Nat → α → Map α
  | [], j, w => [(j, w)]
  | (k, v) :: m, j, w =>
    if j < k then (j, w) :: (k, v) :: m
    else if j = k then (j, w) :: m
    else (k, v) :: mapPut m j w

/-- Remove a key. -/
def mapDel {α : Type} : Map α → Nat → Map α
  | [], _ => []
  | (k, v) :: m, j => if k = j then m else (k, v) :: mapDel m j

/-- Change the value under a key, starting from a default. -/
def mapUpd {α : Type} (m : Map α) (j : Nat) (d : α) (f : α → α) : Map α :=
  mapPut m j (f (mapGetD m j d))

/-- The canonical form: keys strictly rising. -/
def mapSorted {α : Type} : Map α → Bool
  | [] => true
  | (k, _) :: m =>
    (match m with
     | [] => true
     | (k', _) :: _ => decide (k < k')) && mapSorted m

/-- A byte memory. -/
abbrev Mem : Type := List Host.Cell

/-- What an unlisted byte reads as (the log names the choice). -/
def memEmptyByte : Byte := 0

/-- Read one byte. -/
def memByte (m : Mem) (a : Nat) : Byte := (mapGet m a).getD memEmptyByte

/-- Write one byte: the value an unlisted byte reads as is not listed. -/
def memPut (m : Mem) (a : Nat) (b : Byte) : Mem :=
  if b = memEmptyByte then mapDel m a else mapPut m a b

/-- Read `n` bytes. -/
def memRead (m : Mem) (a : Nat) : Nat → List Byte
  | 0 => []
  | n + 1 => memByte m a :: memRead m (a + 1) n

/-- Write bytes at an address. -/
def memWrite (m : Mem) (a : Nat) : List Byte → Mem
  | [] => m
  | b :: bs => memWrite (memPut m a b) (a + 1) bs

/-- Remove every byte of an extent. -/
def memClear (m : Mem) (a n : Nat) : Mem := m.filter fun c => decide (c.1 < a ∨ a + n ≤ c.1)

/-- The canonical form of a memory: addresses strictly rising, no entry equal to what an unlisted byte reads as. -/
def memWf (m : Mem) : Bool := mapSorted m && m.all fun c => decide (c.2 ≠ memEmptyByte)

/-- The same, under the name that statements use. -/
abbrev Memory.wf (m : Mem) : Bool := memWf m

end Sys2Proof.Machine
end

