-- ==== Sys2Proof/Machine/State.lean ====
section
/-! DEFINITION. The state of the block as plain data, and the state after reset. -/

namespace Sys2Proof.Machine

/-- Why the block stops with a fault. No command of this block ends in one: the spec gives every command an effect,
and a condition that a command's own words contradict leaves the state as it was (log entry 3). -/
inductive Fault where
  /-- Raised by no command; it keeps the type inhabited. Safe: nothing answers with it. -/
  | unused
deriving DecidableEq, Repr

/-- Why the block refuses a command. -/
inductive Refusal where
  /-- Raised by an arm of `exec` that has no meaning yet. Safe: the block stops where the hardware goes on. -/
  | notModelled (mnemonic : String)
deriving DecidableEq, Repr

/-! ### Voxus: mailboxes, event rings, requests -/

/-- One mailbox register block (Table 2.4). -/
structure Mailbox where
  reqTail : Count
  reqHead : Count
  cplTail : Count
  cplHead : Count
  control : Word
  bells : List (Count × Ticks)    -- the tails that doorbell writes set and when, oldest first, while requests of them wait (R47)
deriving DecidableEq, Repr

/-- One event ring register block (Table 2.16) with what R49 and R470 need to remember. -/
structure EvRing where
  tail : Count
  head : Count
  lost : Nat
  holdoff : Nat
  lostFlag : Bool               -- the next entry has LOST set (R49)
  lastSignal : Option Ticks     -- when the ring last signalled (R470)
  window : Nat                  -- the holdoff that governs until the next signal, µs
  owed : Bool                   -- an entry waits for the end of the holdoff
deriving DecidableEq, Repr

/-- HIF_STATUS (Table 2.3) and the MSI-X state of the function (R27, R50). -/
structure Hif where
  compat : Nat
  brace : Bool
  handover : Bool
  fwFault : Bool
  fwReady : Bool
  msixEnabled : Bool
  msixPending : Nat             -- the pending bit array
deriving DecidableEq, Repr

/-- One subscription: an event ring and a mask of 256 event numbers (R40). -/
structure Subscription where
  ring : Nat
  mask : Nat
deriving DecidableEq, Repr

/-- A request as firmware copied it at consumption (R30): its mailbox, its count, its slot, and its start. -/
structure Request where
  mb : Nat
  cnt : Nat
  slot : List Byte
  start : Ticks
  bell : Ticks                    -- the doorbell write that submitted it (R47)
  inHandover : Bool               -- consumed during a handover (R55)
deriving DecidableEq, Repr

/-- The deadline classes of R45. -/
inductive DeadlineClass where
  | immediate | hinge | long
deriving DecidableEq, Repr

/-- What a request in flight waits for. -/
inductive Waits where
  | payload                       -- its indirect payload (step 8 of R34)
  | turn (payload : List Byte)    -- with its payload at hand, an earlier request on the same object (R47)
  | commit (head id : Nat)        -- a commit or a removal of a head (R63, R67)
  | group (gid : Nat)             -- the reports of a commit group (R74)
  | free (obj : ObjId)            -- the last lease or binding of an object (R122)
  | exportOf (ring : ObjId)       -- an export (R306)
  | repair (kind index : Nat)     -- a planned move or a test (R443)
  | fwUpdate                      -- a firmware handover (R449)
  | reenrol                       -- a re-enrolment (R402)
deriving DecidableEq, Repr

/-- A request that has started and not completed. -/
structure Flight where
  req : Request
  deadline : Ticks
  cls : DeadlineClass
  left : Option Ticks             -- the time that remained when its deadline was suspended (R46)
  resumes : Option Ticks          -- when the last suspension ends, once the brace state has ended (R46)
  heads : List Nat                -- the heads involved
  waits : Waits
  lastProgress : Ticks
deriving DecidableEq, Repr

/-- What a completion carries besides the fields it echoes. -/
structure Cpl where
  status : Nat := 0
  object : Option ObjId := none
  count : Option Nat := none
  payload : List Byte := []
  results : Option (List Byte) := none   -- for the host's result buffer
  pend : Bool := false
deriving DecidableEq, Repr

/-- An event that arose while pair A was being recovered: it is written afterwards with its own time (R367). -/
structure HeldEvent where
  at' : Ticks
  code : Nat
  obj : ObjId
  arg : Nat
deriving DecidableEq, Repr

/-- A DMA read that waits for a free PCIe tag (Table 2.17). -/
structure DmaWait where
  req : Request
  budgetEnd : Ticks
deriving DecidableEq, Repr

/-- A DMA read in flight (R471). -/
structure DmaRead where
  tag : Nat
  mb : Nat
  cnt : Nat
  addr : Nat
  len : Nat
  crc : Nat
  budgetEnd : Ticks
deriving DecidableEq, Repr

/-! ### The frame store's control regions (R474) -/

/-- A control region: a run of pages of one logical pseudo-channel, from a page of it upward. -/
structure CtlRegion where
  lpc : Nat
  start : Nat
  pages : Nat
deriving DecidableEq, Repr

/-- A pair of shared record pages of standalone surfaces, and the surfaces that use them (R474). -/
structure RecPage where
  a : CtlRegion
  b : CtlRegion
  members : List ObjId
deriving DecidableEq, Repr

/-! ### Frames, surfaces and rings -/

/-- A metadata record (Table 5.2). -/
structure FrameRec where
  frame : Nat
  ts : Ticks                      -- capture timestamp
  source : ObjId
  flags : Nat                     -- Table 5.3
  rateNum : Nat
  rateDen : Nat
  hinge : Nat
  surface : ObjId
  position : Nat
deriving DecidableEq, Repr

/-- One of the two mirrored copies of a record (R114). -/
structure RecCopy where
  rcd : FrameRec
  crcOk : Bool
deriving DecidableEq, Repr

/-- Who holds a lease (ch. 5). -/
inductive Holder where
  | layer (id : ObjId)
  | job (route : ObjId) (stage : Nat)
  | capture (ring : ObjId)
  | host
deriving DecidableEq, Repr

/-- The states of a surface before FREEING is laid over them (Table 5.9). -/
inductive SurfState where
  | empty | writing | complete | lost
deriving DecidableEq, Repr

/-- Who allocated a standalone surface (R473). -/
inductive SurfOwner where
  | host | accumulator | hold | delayLine | captureAudio
deriving DecidableEq, Repr

/-- One surface. -/
structure Surf where
  base : Nat
  size : Nat
  format : Nat
  width : Nat
  height : Nat
  reqStride : Nat
  ring : ObjId
  position : Nat
  mtc : Nat
  mtcAlloc : Nat                  -- the mode it was allocated with: the property's default
  writeMtc : Nat                  -- the mode at the time it was claimed (R132)
  state : SurfState
  wasLost : Bool                  -- claimed while LOST: it leaves LOST with the frame that is being written (R123)
  freeing : Bool
  leases : List Holder
  copyA : RecCopy
  copyB : RecCopy
  pend : Option FrameRec          -- the record that its writer issues after the last sample write (R13)
  order : Nat                     -- record order: when it was last claimed, 0 never (R118)
  done : Nat                      -- order of completion, 0 never
  doneAt : Ticks                  -- when its frame became complete
  frozen : Bool                   -- a byte lies in a frozen pseudo-channel that no spare has replaced (R123)
  owner : SurfOwner
deriving DecidableEq, Repr

/-- Who writes a ring (R118). -/
inductive Writer where
  | port (id : ObjId)
  | stage (route : ObjId) (stage : Nat)
deriving DecidableEq, Repr

/-- The states of a capture (Table 13.1). -/
inductive CapState where
  | off | armed | collecting | frozen
deriving DecidableEq, Repr

/-- One ring with its capture. -/
structure Ring where
  format : Nat
  width : Nat
  height : Nat
  length : Nat
  first : ObjId                   -- the SURFACE at position 0; the others follow
  base : Nat
  size : Nat
  mtc : Nat
  mtcAlloc : Nat                  -- the mode it was allocated with: the property's default
  freeing : Bool
  writer : Option Writer
  recA : CtlRegion                -- the two copies of its record table (R474)
  recB : CtlRegion
  lastOverrun : Option Ticks      -- when RING_OVERRUN was last raised
  newestAt : Option (Ticks × Nat × Nat) -- when its newest frame became complete, and that frame's rate (R151)
  cap : CapState
  pre : List ObjId                -- held pre frames, oldest first
  post : List ObjId
  preWant : Nat                   -- ring.capture_pre and capture_post at the trigger (R295)
  postWant : Nat
  trigTime : Ticks
  trigId : ObjId
  collectEnd : Option Ticks       -- when ring.post_timeout ends the collection
  frozenAt : Ticks
  trigKind : Nat                  -- 0 pin, 1 host, 2 region crossing
  timedOut : Bool                 -- the collection ended on ring.post_timeout
  frozenRtc : Nat                 -- the RTC at the freeze, in 1/32,768 s
  frozenFlags : Nat               -- flag bits 2 and 3 of the Cepra record at the freeze
  table : List Byte               -- the frame table
  cepra : List Byte               -- the Cepra record, empty until it is built
  audioAt : List Ticks            -- instants of the audio lines written, newest first
  audioLines : Nat
  freeMark : Nat                  -- the last record order given when VX_FREE released its capture's leases (R299)
deriving DecidableEq, Repr

/-! ### Commits, heads, layers and routes -/

/-- Freed slices set aside for a reduced reservation, and the full values that they raise it to (R176, R235). -/
structure SliceGrant where
  due : Ticks                     -- 200 µs after the release
  slices : Nat
  got : Nat
  starved : Nat
  suspended : Bool
deriving DecidableEq, Repr

/-- A reservation of shared line-buffer slices: by a head, or by the units of one SHAPE stage (R174, R235). -/
structure SliceRes where
  owner : ObjId                   -- the HEAD or the ROUTE
  stage : Nat
  slices : Nat                    -- shared slices reserved, all units together
  order : Nat                     -- age of the reservation
  by' : Option Nat                -- the commit, waiting on the owner's head, whose hinge brings it into effect
  got : Nat                       -- prefetch depth or taps that they cover
  want : Nat                      -- prefetch depth or taps requested
  starved : Nat                   -- starved composition positions, by bit (heads)
  suspended : Bool                -- still mode is suspended (heads)
  grants : List SliceGrant        -- slices set aside for it at releases, oldest first
deriving DecidableEq, Repr

/-- Who submitted a commit. -/
inductive CommitSrc where
  | request (mb cnt tag : Nat) (start : Ticks)
  | removal (mb cnt tag : Nat) (start : Ticks)
  | group (gid : Nat) (mb tag : Nat)
deriving DecidableEq, Repr

/-- A sealed commit that its head has not yet applied (R56, R73). -/
structure Commit where
  id : Nat
  src : CommitSrc
  values : Map Int                -- the sealed property values
  removes : List ObjId            -- the object that a VX_DESTROY removes (R67)
  sealed : Ticks
  staged : Option Ticks           -- when staging completed
  order : Nat                     -- order of staging completion
  missed : Option Ticks           -- the first hasp line that started before its staging completed
  late : Option Nat               -- the cause, once it is late (Table 3.5)
  held : Bool                     -- pending when the brace state began, or staged during it
  release : Option Ticks          -- T of a group commit
  charges : Map Nat               -- what it reserved, by owner (R145)
  badOnce : Bool                  -- both copies of its descriptor failed once (R68)
  made : List (Nat × ObjId)       -- surfaces allocated at its admission, by what they serve
deriving DecidableEq, Repr

/-- What a layer composes. -/
inductive Shown where
  | nothing                       -- nothing composed since it was created
  | frame (surface : ObjId) (number : Nat) (ts : Ticks) (route : ObjId)
  | fallback
deriving DecidableEq, Repr

/-- One layer's hidden state (R146 to R153). -/
structure LayerRt where
  shown : Shown
  leased : Option ObjId           -- the surface it holds a lease on
  switchNext : Option Bool        -- a failover (true) or revert decided at the previous hinge
  switchCause : Nat
  good : List Nat                 -- revert counts of primary and backup
  reported : Bool                 -- LAYER_STALE or LAYER_FALLBACK was raised in this run
  fell : Bool                     -- LAYER_FALLBACK was raised in this run
  prevVisible : Bool
  prevStarved : Bool
  area : Option (Nat × Nat)       -- size of its last composed fetch rectangle: none before it composed one (R228)
  headFixed : Bool                -- a commit has applied the layer (R157, R227)
  lastTs : Map Ticks              -- the capture timestamp last composed, by route (R146)
deriving DecidableEq, Repr

/-- What a group VX_COMMIT or a VX_DISCARD whose payload is still to come took out of a head at its start (R65, R73). -/
structure Taken where
  mb : Nat
  cnt : Nat
  before : Nat                    -- commits with a lower ID were sealed before it
  values : Map Int                -- the staging bank at its start
deriving DecidableEq, Repr

/-- One raster's hidden state. -/
structure HeadRt where
  staging : Map Int               -- the staging bank
  taken : List Taken              -- what requests that await their payload took at their start (R56, R65, R73)
  commits : List Commit           -- sealed and not applied, in order of sealing
  nextCommit : Nat
  nextOrder : Nat
  lineZero : Ticks                -- F: the start of line 0 of the frame under way or, before it, of the next (R223)
  nextHinge : Ticks
  lastHinge : Option Ticks
  heldUntil : Option Ticks        -- t_r plus one frame period (R76)
  frameHinge : Nat                -- low count of the hinge that preceded the frame's active video (R240)
  underLines : Nat                -- lines with underrun in the frame
  fromHold : Bool                 -- the frame comes from the hold surface
  quietBreak : Bool               -- something at this hinge was not quiet
  captureUnder : Bool             -- the captured frame had an underrun
  capturing : Bool                -- the frame under way is being written into the hold surface
  prefetched : Bool               -- prefetch of the next frame has started
  shownLayers : List ObjId        -- the layers composed in the frame, in order
  startedAt : Ticks               -- when the commit that started it applied (R225)
  holdSurf : ObjId
  underAt : List (Nat × Nat)      -- line and first repeated pixel of each underrun of the frame (R241)
  prevZero : Option Ticks         -- the start of line 0 of the frame before
  prevHinge : Nat                 -- its `frameHinge`
  picture : List (List (List Int)) -- the components of the frame last handed to egress
  pictureUnder : List (Nat × Nat) -- its underruns
  suspended : Bool                -- still mode is suspended (R235)
  lines : Map Ticks               -- the instants of BLANK_START and LINE_MATCH last raised, by bit (R240)
deriving DecidableEq, Repr

/-- What a job of a SHAPE stage is doing (R138). -/
structure ShapeJob where
  input : ObjId
  output : ObjId
  rcd : FrameRec                  -- the input's record
  hinge : Nat
  start : Ticks
  unit : ObjId                    -- the first unit
  params : Map Int                -- its properties at the start
  taps : Nat
  lost : Bool                     -- its unit moved to a spare (R155)
deriving DecidableEq, Repr

/-- An input of a convert job. -/
structure ConvIn where
  surf : ObjId
  frame : Nat
  ts : Ticks
  leased : Bool
  order : Nat                     -- order of completion
  folded : Bool                   -- its sub-window is decided (R217)
  used : Bool                     -- its fold has run
deriving DecidableEq, Repr

/-- An input that completed in a stage's sequence. -/
structure SeenIn where
  surf : ObjId
  ts : Ticks
  order : Nat                     -- order of completion
  counted : Bool                  -- it was overwritten before a job could lease it (R209)
deriving DecidableEq, Repr

/-- What a job of a CONVERT stage is doing (R206 to R219). -/
structure ConvJob where
  hinge : Nat
  tk : Ticks                      -- T_k
  tNext : Ticks                   -- T_{k+1} as predicted
  tOut : Int
  tCut : Int
  w0 : Int                        -- start of the hold window
  mode : Nat
  pNum : Nat                      -- P_in = pDen ÷ pNum seconds; 0 while not latched
  pDen : Nat
  norm : List Nat
  inputs : List ConvIn            -- inputs leased or used
  foldingNow : Option Nat         -- index in `queue` of the fold under way
  queue : List (ObjId × Nat × Nat)  -- decided folds: surface, position, weight
  folded : List (ObjId × Nat × Nat) -- folds that ran
  accSum : Nat                    -- S
  finishing : Bool
  cut : Bool                      -- t_cut has passed
  decided : Bool
  output : Option ObjId
  lost : Bool
  ended : Bool
  after : List ConvIn             -- inputs of the sequence that completed after t_cut (R211)
  unit : ObjId                    -- the first unit
  params : Map Int                -- its properties at the start (R210)
  ring : ObjId                    -- its input ring
  decidedTo : Int                 -- sub-windows decided, from the first (R217)
deriving DecidableEq, Repr

/-- One stage of a running route. -/
structure StageRt where
  waiting : Option ObjId          -- the waiting input frame of a source-paced stage
  waitOrder : Nat
  job : Option ShapeJob
  conv : Option ConvJob
  past : List ConvJob             -- the jobs before it, against which an input may still be late, oldest first (R211)
  lastIn : Nat                    -- order of the newest input taken
  seqHinge : Ticks                -- the hinge at which the input sequence began (R209)
  seqOrder : Nat                  -- frames completed after this order belong to the sequence
  seen : List SeenIn              -- the sequence's inputs, in order of completion (R209, R217)
  prevOut : Option Int            -- t_out of the previous job (R208)
  prevWin : Option Int            -- where the next hold window of the sequence begins (R217)
  latched : Option (Nat × Nat)    -- the P_in last latched
  acc : ObjId                     -- the accumulator surface
  lateSince : Nat
  lastLate : Option Ticks
  tonePeak : Nat                  -- measured source peak for the next job (R194)
  toneLs : Nat                    -- the source peak that the last job applied (R195)
  published : Bool                -- a publish started a job since the last hinge (R138)
  toneReset : Bool                -- the next job applies `shaper.tone_src_peak` (R195)
deriving DecidableEq, Repr

/-- One route's hidden state. -/
structure RouteRt where
  held : Map Int                  -- AT_HINGE writes held while route.head is 0 (R141)
  stages : List StageRt
  startHinge : Ticks              -- when it started running
  stopHinge : Nat                 -- hinge count at which it entered STOPPING
  playStart : Int                 -- c₀ of the cursor (R307)
  playHinges : Nat                -- k
  selected : Option ObjId         -- the held frame selected at the last hinge
  offered : Option ObjId          -- the held frame offered to stage 0 last
  removed : Bool                  -- VX_DESTROY applied; the object goes with its last job
  units : List (List ObjId)       -- units held, by stage
  ringsHeld : List ObjId          -- stage rings bound
deriving DecidableEq, Repr

/-! ### Ingress -/

/-- A frame that a port is receiving. -/
structure OpenFrame where
  number : Nat
  surface : Option ObjId          -- none: its lines are not written
  tfs : Option Ticks
  header : List Nat
  starts : Nat                    -- links that delivered FRAME_START, by bit
  ends : Nat
  lines : List Nat                -- lines written
  width : Nat
  height : Nat
  flags : Nat
  got : Nat                       -- samples received (ST 2110)
  captured : Ticks                -- capture timestamp
  anc : List AncPacket
  rows : Map (List Nat)           -- samples received, by offset in the frame's sample order
  tc : Option Nat                 -- its timecode
  params : Map Int                -- the port's properties when it started (Table 4.14)
  gap : Bool                      -- a packet of it is missing (ST 2110)
  turn : Nat                      -- the frame starts since RUNNING before it: f of R81
deriving DecidableEq, Repr

/-- The states of Table 4.5 for a lane. -/
inductive LaneState where
  | down | hunt | locked
deriving DecidableEq, Repr

/-- One serial lane's receive half. -/
structure Lane where
  state : LaneState
  cdr : Bool                      -- its CDR is locked
  good : Bool                     -- a marker with valid check was found and the next is awaited
  inverted : Bool
  link : Nat
  lane : Nat
  lanes : Nat
  count : Nat
  marks : Nat                     -- markers, found or missed, since deskew
  skew : Nat
  missed : Nat
  shift : Nat                     -- the last 58 bits received, the latest in bit 0 (R84)
  words : Nat                     -- words received since the start of a marker interval (R85)
deriving DecidableEq, Repr

/-- One port's hidden receive state. -/
structure PortIn where
  opened : Option OpenFrame
  engines : List Nat              -- engines bound, by gang position
  linkUp : Nat                    -- links in LINK_UP, by bit
  synced : Nat                    -- links whose receiver is synchronised, by bit
  frames : Nat                    -- f of R81: frame starts since RUNNING
  number : Nat                    -- SDI and 2110 frame number
  lastCounter : Option Nat        -- the MSL frame counter of the last frame opened
  skipFrom : Option Nat           -- the counter from which a skip counts: none after a loss
  lastStart : Option Ticks        -- the previous accepted frame start
  starts : List Ticks             -- arrivals of the last frame starts, newest first
  rateOut : Bool                  -- the period is outside 0.1 %
  lastDropEvt : Option Ticks
  drops : Nat                     -- drops since the previous FRAME_DROPPED
  timestamp : Option Nat          -- RTP timestamp of the open frame
  legSeen : List (Option Ticks)   -- the last packet of each leg
  roi : List (Option Bool)        -- the state of each region: above or below
  charge : Nat                    -- admitted frame-store charge
  audioCh : Nat
  mac : Nat
  runs : List (List Nat)          -- the lanes of each link or group, as bound
  closing : List (ObjId × Option Nat × Map Int) -- frames whose records are issued: timecode and properties
  lost : Bool                     -- a loss was declared and no signal has followed
  buffer : List (Ticks × RtpPacket) -- packets that wait for missing ones of the other leg (R98)
  held : List (Ticks × List (List Int)) -- audio of the last packets, each with the instant at which it is due (R290)
  nextSeq : Option Nat            -- the next RTP sequence number
deriving DecidableEq, Repr

/-! ### Egress -/

/-- An ST 12-1 time address with its drop-frame flag and the frame-pair flag of ST 12-2 (R253). -/
structure TimeAddr where
  hours : Nat
  minutes : Nat
  seconds : Nat
  frames : Nat
  drop : Bool
  second : Bool                   -- the second frame of a pair
deriving DecidableEq, Repr

/-- One egress port's hidden state. -/
structure PortOut where
  lastAnc : Option Nat            -- the number of the last frame inserted (R252)
  anc : List AncPacket            -- packets to insert in the next frame
  time : Option TimeAddr
  ancRing : ObjId                 -- `port_out.anc_ring` as it governs since the last hinge (R266)
  hinge : Ticks                   -- T_H of the frame that follows
  lastHinge : Ticks               -- T_H of the frame before it
  seq : Nat                       -- the next RTP sequence number, with the 16 bits that extend it
  why : Nat                       -- the cause that the training under way was started with
  engines : List Nat              -- engines bound, by gang position
  lastPixel : List Nat            -- the last sample of each plane of the last frame sent (R241)
  sent : Nat                      -- frames sent since it entered RUNNING (R247)
  gaps : List (Ticks × Nat × Nat) -- by frame start, lines whose rest repeats because an engine of this port was replaced (R441)
  silentTo : Ticks                -- the end of the span in which embedded audio is silent (R441)
  crcs : List Nat                 -- the line CRC registers, by SDI stream (R251)
  audioSent : Nat                 -- samples embedded in SDI
  resume : Bool                   -- Panel Replay ends at H+1L (R259)
  failedAt : Option Ticks         -- when the last training failed (R258)
deriving DecidableEq, Repr

/-- One pin set DPAUX and DPHPD, with what the sink on it reported last (R258). -/
structure DpPins where
  hpd : Bool                      -- hot-plug detect is high
  sink : Option (Nat × Nat)       -- the most lanes and the highest rate code that the sink supports
  sinkReplay : Bool               -- the sink supports Panel Replay
  resync : Ticks                  -- the resynchronisation time that the sink reports
deriving DecidableEq, Repr

/-- One lane's transmit half and its read-back. -/
structure LaneTx where
  since : Nat                     -- mismatches since the last LANE_MISMATCH
  lastEvt : Option Ticks
  sparing : Option (Nat × Nat)    -- the spare core that takes it over and the cause of Table 11.11
  waits : Bool                    -- faulty, waiting for a spare (R264)
  faulty : Bool
  cause : Nat                     -- of its fault: 0 read-back, 1 PLL unlock
  window : Nat                    -- the window of 256 samples that it is in
  hits : Nat                      -- mismatches in that window
  declared : Option Ticks         -- when it was declared faulty without a spare in hand
deriving DecidableEq, Repr

/-! ### What leaves the block -/

/-- One line of an SDI signal: the words of each stream, from its EAV to its last active word (R251). -/
structure SdiLine where
  number : Nat
  streams : List (List Nat)
deriving DecidableEq, Repr

/-- The MSA timing of a DisplayPort stream, from `head.raster` and `head.sync` (R257). -/
structure MsaTiming where
  hTotal : Nat
  vTotal : Nat
  hStart : Nat                    -- from the start of sync to the first active pixel
  vStart : Nat
  hSync : Nat
  vSync : Nat
  width : Nat
  height : Nat
deriving DecidableEq, Repr

/-- The headers of an ST 2110 packet (R254). -/
structure NetHeader where
  mac : Nat
  source : Nat
  group : Nat
  udpPort : Nat
  payloadType : Nat
  dscp : Nat
  ttl : Nat
deriving DecidableEq, Repr

/-- What the block sends to the outside. -/
inductive Output where
  | msix (vector : Nat)
  | dmaRead (tag addr len : Nat)
  | hostWrite (addr : Nat) (bytes : List Byte)
  | bar0Read (addr : Nat) (bytes : List Byte)
  | bar2Read (addr : Nat) (bytes : List Byte)
  | hlMessage (link : Nat) (words : List Nat)
  | tdmFrame (port : Nat) (falling : Bool) (bits : List (Option Bool))
  | sdi (port : ObjId) (lines : List SdiLine)
  | video (port : ObjId) (msa : MsaTiming) (planes : List (List (List Nat))) (audio : List (List Int))
  | panelReplay (port : ObjId) (enter : Bool)
  | packet (port : ObjId) (leg : Nat) (header : NetHeader) (seq timestamp : Nat) (marker : Bool) (payload : List Byte)
  | netReply (port : ObjId) (igmp : Bool)
  | delayReq (port : ObjId) (domain : Nat) (unicast : Bool)
  | fetch (head addr len : Nat) (deadline : Ticks)
  | chainLatch (chain : Nat)
  | chainShift (chain : Nat) (words : List Nat)
  | diagLatch (chain : Nat)
  | strobe (n : Nat) (start stop : Ticks) (activeLow : Bool)
  | service (bytes : List Byte)
  | idcode (value : Nat)
deriving DecidableEq, Repr

/-! ### Commit groups and the Hinge Link -/

/-- One member of a group commit (R74). -/
structure GroupMember where
  entry : Nat                     -- the u64 of `group.members`
  via : Option Nat                -- the downward link whose subtree holds it; none for this device
  outcome : Option Nat            -- Table 3.8, once reported
  hinge : Nat
  at' : Option Ticks
deriving DecidableEq, Repr

/-- A group commit that this device submitted, released or carries. -/
structure GroupRun where
  gid : Nat
  release : Ticks                 -- T as applied
  sent : Ticks                    -- the root's release time
  origin : Bool                   -- submitted here
  members : List GroupMember
  req : Option Request
  viaUp : Bool                    -- its originator lies outside this subtree
deriving DecidableEq, Repr

/-- A sequenced message that its peer has not acknowledged. -/
structure HlSent where
  seq : Nat
  typ : Nat
  payload : List Nat
  firstRetry : Option Ticks
  budget : Ticks
  sentAt : Ticks
deriving DecidableEq, Repr

/-- The content of a fragmented message that is being collected (R342). -/
structure HlPart where
  typ : Nat
  gid : Nat
  next : Nat
  head : List Nat                 -- the words before the fragment word
  words : List Nat
deriving DecidableEq, Repr

/-- One Hinge Link's hidden state. -/
structure HlLink where
  txSeq : Nat
  rxSeq : Nat
  window : List HlSent            -- unacknowledged, oldest first, at most 64
  stalled : List (Nat × List Nat × Ticks)
  nakFor : Option Nat             -- the number for which NAK was sent
  lastValid : Ticks
  parts : List HlPart
  peerFace : Option Nat
  peerState : Nat
  peerDepth : Nat
  reqNo : Nat                     -- TIME_REQ number
  t1 : Option Ticks
  t2 : Ticks
  t3 : Ticks
  delay : Option Ticks            -- the mean path delay of the latest exchange
  locked : Nat                    -- lanes locked, by bit
  traceable : Bool
  rootState : Nat
  rootUtc : Int
  asked : Bool                    -- a JOIN awaits its answer
  waitSince : Option Ticks        -- when the device began to wait; none once HL_DOMAIN has said so
deriving DecidableEq, Repr

/-! ### Audio -/

/-- One audio path: the buffer of its AUDIO_CH. -/
structure AudioPath where
  fifo : List Int                 -- samples received, oldest first
  last : Int                      -- the last sample that it delivered
  starved : Nat                   -- destination samples since its source delivered one
  inside : Nat                    -- consecutive destination samples with the ratio inside 1:4 to 4:1
  wasActive : Bool
  under : Bool
deriving DecidableEq, Repr

/-- An outgoing path as it was before a change of its own AUDIO_CH. -/
structure OldPath where
  source : Nat
  delay : Nat                     -- µs
  asrc : Bool
  aligned : Bool
  path : AudioPath
deriving DecidableEq, Repr

/-- A pending change of a destination channel (R283). -/
structure AudioChange where
  tc : Ticks
  incoming : Option ObjId
  begun : Bool                    -- n₀ has come
  stopped : Bool                  -- the outgoing signal has stopped
  prevOut : Option Int            -- the sample before, of each signal
  prevIn : Option Int
  fadeOut : Option Nat            -- the next index of a running fade
  fadeIn : Option Nat
  old : Option OldPath            -- the outgoing path, when one AUDIO_CH follows itself
deriving DecidableEq, Repr

/-- One destination channel. -/
structure AudioDest where
  playing : Option ObjId
  change : Option AudioChange
  value : Int                     -- the sample it carries
  prev : Int                      -- the sample before
  tail : Option (Int × Nat)       -- a sample repeated and faded out (R277, R287)
  sent : List Int                 -- samples that its egress port has not sent yet
deriving DecidableEq, Repr

/-- One source channel. -/
structure AudioSrc where
  last : Int
  lost : Bool                     -- its TDM port is in LOST: a faded repeat, then zeros (R277)
deriving DecidableEq, Repr

/-- One TDM port's hidden state. -/
structure TdmPort where
  edges : List Ticks              -- frame-clock edges, newest first, at most 65
  frames : Nat                    -- frames since the port began to measure
  lastRate : Option Nat           -- the rate in the last AUDIO_RATE
  glitchAt : Option Ticks
  glitches : Nat                  -- since the last AUDIO_GLITCH
  gaps : List Nat                 -- BCLK periods of the last frames, newest first, at most 64
  len : Nat                       -- BCLK periods of one frame, 0 while not known
  since : Nat                     -- BCLK periods from the start of a frame to the last edge: 0 on the port's frame position (R276)
  data : List Bool                -- RXD from the last edge on
  muting : Bool                   -- its channels stop before MUTED_RATE (R278)
  wasLost : Bool
deriving DecidableEq, Repr

/-! ### Keyring (ch. 18) -/

/-- What a key slot holds: a derived key stands for the label that its derivation takes (R387, R388). -/
inductive SlotKey where
  | empty
  | signing (label : List Byte)   -- a P-384 private key
  | secret (label : List Byte)    -- 48 bytes
  | verify (point : List Byte)    -- a public key, uncompressed SEC 1
deriving DecidableEq, Repr

/-- One key slot. -/
structure KeySlot where
  key : SlotKey
  cert : Nat                      -- which certificate it carries: 0 none, 1 the identity's, else by number of issue
  mask : Nat                      -- the mask its value is held under (R390)
  due : Ticks                     -- when the next re-mask is due
deriving DecidableEq, Repr

/-- The OTP fields that can change (Table 18.1, R384). -/
structure Otp where
  revoke : Nat                    -- vendor root revoke bits
  owner : Nat                     -- owner key hash as burnt
  ownerDone : Bool                -- its completion bit
  rollback : Nat                  -- bits burnt of the anti-rollback counter
  banks : Nat                     -- helper banks begun, by bit
  bankDone : Nat                  -- bank completion bits
  days : Nat                      -- operating days
  bankDay : Nat                   -- operating days when the newest bank was completed
deriving DecidableEq, Repr

/-- The keyring. -/
structure Keyring where
  otp : Otp
  slots : Map KeySlot
  seed : Bool                     -- the seed was regenerated at the last start
  zeroised : Bool
  unlocked : Bool                 -- the debug access port is unlocked
  unlockReset : Bool              -- a reset of the keyring has followed a debug unlock (R402)
  degraded : Bool
  passes : Nat                    -- consecutive health tests passed
  drbg : Nat                      -- the state the DRBG was last seeded with
  challenge : List Byte
  quotes : Nat
  certs : Nat                     -- certificates issued
  measured : List Byte            -- the firmware measurement recorded
  scramble : Nat                  -- the key that scrambles slot addresses (R390)
  reenrolling : Bool
deriving DecidableEq, Repr

/-! ### Control complex and boot (ch. 17) -/

/-- What a bus matrix transaction asks of its target (R111, R380). -/
inductive MatrixAct where
  | bar2Read (addr len : Nat)
  | bar2Write (addr : Nat) (data : List Byte)
  | serviceRead (addr len : Nat)
  | serviceWrite (addr : Nat) (data : List Byte)
  | remap
deriving DecidableEq, Repr

/-- A transaction that its master has issued and its target has not served (R372). -/
structure MatrixTx where
  master : BusMaster
  port : Nat                      -- the target, by row of Table 17.1
  bursts : Nat                    -- of 1 to 16 beats of 16 bytes, a tag each
  since : Ticks
  act : MatrixAct
deriving DecidableEq, Repr

/-- The control complex. -/
structure Ctl where
  remap : Bool
  wdtEn : Bool
  bHold : Bool
  stage : Nat                     -- CC_STATUS fields (Table 17.3)
  source : Nat
  fail : Nat
  recoveries : Nat
  aFault : Bool
  bFault : Bool
  stopped : Bool
  faults : List Ticks             -- lockstep faults, newest first
  recovering : Option (Bool × PairCause) -- the pair under recovery (true: B) and why
  haltedA : Bool
  haltedB : Bool
  draining : List BusMaster       -- masters whose ports are isolated (R373)
  sram : Mem
  flash : Mem                     -- the xSPI flash, Table 17.5
  image : List Byte               -- header of the running image, or empty
  root : Nat                      -- the vendor root that verified it
  mode : Nat                      -- boot mode
  pushWait : Bool                 -- the ROM waits for a host push
  pin : Nat                       -- the compatibility level in the configuration block
  booted : Bool                   -- a BOOT has followed the last reset
  eccRows : Map Nat               -- corrected errors by SRAM row
  sramRepairs : List Nat          -- SRAM rows replaced by spare rows (R448)
  matrix : List MatrixTx          -- bus matrix transactions that wait, in order of issue (R372)
  granted : Map Nat               -- the last master granted at each target port (R372), by row of Table 17.1
deriving DecidableEq, Repr

/-! ### References, timebase and RTC (ch. 14) -/

/-- A PTP slave clock (R314). -/
structure PtpClock where
  master : Option (Nat × Nat)     -- priority and identity of the grandmaster it follows
  pending : Option Ticks          -- arrival of the two-step Sync whose Follow_Up it awaits
  t1 : Ticks                      -- origin and arrival of the latest Sync
  t2 : Ticks
  t3 : Ticks                      -- when Delay_Req left
  path : Option Int               -- the mean path delay
deriving DecidableEq, Repr

/-- One reference's hidden state. -/
structure RefRt where
  lastEvent : Option Ticks
  since : Option Ticks            -- when it began to qualify
  errs : List (Ticks × Int)       -- phase errors of the last second, newest first
  ptp : PtpClock
deriving DecidableEq, Repr

/-- The timebase's hidden state. -/
structure Timebase where
  ever : Bool                     -- locked since the timebase started
  pullAt : Ticks                  -- when Δ was last set or updated
  pull : Int                      -- Δ at that instant
  dwell : Option Ticks            -- since when the loop error lies below the stage's threshold
  stepWait : Bool                 -- a step waits for the heads to stop (R320)
  pairs : List (ObjId × ObjId)    -- disagreements reported (R318)
  gloved : Option Nat             -- the timebase copy that was gloved (R438)
  rtcTicks : Nat                  -- the RTC in 1/32,768 s at `rtcAt`
  rtcAt : Ticks
  lastDisc : Option Ticks
  pulses : Map Ticks              -- the last pulse of each cadence
  retiming : Option Ticks         -- the last step that retimed heads
deriving DecidableEq, Repr

/-! ### Frame store (ch. 16) -/

/-- An entry of a diagnostic snapshot (Table 16.5). -/
structure FsEntry where
  time : Nat
  kind : Nat
  place : Nat
  row : Nat
  col : Nat
  port : Nat
  urgency : Nat
  tries : Nat
  tag : Nat
deriving DecidableEq, Repr

/-- A queued operation. -/
structure FsOp where
  req : FsRequest
  order : Nat                     -- order of arrival at the pseudo-channel
  arrived : Ticks                 -- when it arrived, or when its command first failed
  tries : Nat
deriving DecidableEq, Repr

/-- One physical pseudo-channel's hidden state. -/
structure PcRt where
  log : List FsEntry              -- the last 64 commands, newest first
  reads : List FsOp
  writes : List FsOp              -- both in order of arrival
  stalled : List FsOp             -- requests that stall their ports (R350)
  failing : List FsOp             -- operations whose command is being reissued (R355)
  rows : Map Nat                  -- open row of each bank
  fails : Nat                     -- consecutive failed attempts
  dead : List Nat                 -- tags completed as abandoned
  count : Nat                     -- requests that have arrived
  refreshed : Option Ticks
  trained : Option Ticks          -- the last visit of timing tracking (R354)
deriving DecidableEq, Repr

/-- A diagnostic snapshot (Table 16.4). -/
structure FsSnap where
  pc : Nat
  cause : Nat
  at' : Ticks
  log : List FsEntry
  reads : List FsEntry
  writes : List FsEntry
deriving DecidableEq, Repr

/-- A frozen logical pseudo-channel, or one whose planned copy runs. -/
structure FsMove where
  lpc : Nat
  old : Nat
  spare : Option Nat
  mapped : Bool                   -- the map names the spare
  planned : Bool
  marked : Bool                   -- surfaces were marked LOST and FS_FREEZE raised
  cause : Nat
  kept : Bool                     -- the snapshot was kept
deriving DecidableEq, Repr

/-! ### Illumination (ch. 19) -/

/-- One chain's hidden state. -/
structure ChainRt where
  lastLatch : Option Ticks
  srcCount : Nat                  -- hinges or pulses of its source since the last latch
  periods : Nat                   -- latch periods
  shifted : List (List Nat)       -- programs in the registers, by driver: header, then 24 channel words
  latched : List (List Nat)       -- programs that the drivers run since the last latch
  ended : List (List Nat)         -- programs that they ran in the period before it
  shiftFrom : Option Ticks        -- when the shift under way began
  counting : Bool                 -- a restart counts the drivers that answer (R413)
  sample : Nat
  gaps : List Ticks               -- where diagnostic pulses may rise, in order of prediction (R415)
  pulsed : Bool                   -- this period's diagnostic pulse was issued
  resumeAt : Option Ticks         -- latching resumes here after a brace state (R412)
  tsd : List Nat                  -- drivers whose last status reports thermal shutdown
deriving DecidableEq, Repr

/-- One lamp's hidden state. -/
structure LampRt where
  cond : Nat                      -- what is known of it: 1 OK, 2 UNVERIFIED, 3 OPEN, 4 SHORT, 5 SHORT_NEIGHBOUR
  measured : Option Nat           -- the latch period of the last measurement
  lastPulse : Option Nat          -- the latch period of the last diagnostic pulse
  evidence : Nat                  -- evidences with the next channel (R416)
  forced : Bool                   -- a fault rule forces it off until a commit writes its duty
deriving DecidableEq, Repr

/-- One strobe's hidden state. -/
structure StrobeRt where
  plan : List (Ticks × Ticks)     -- computed pulses: start and end
  lastEnd : Option Ticks
  skipped : Nat                   -- since the last STROBE_SKIPPED
  lastEvt : Option Ticks
deriving DecidableEq, Repr

/-! ### Triggers, resets, power and repair (ch. 13, 20) -/

/-- One trigger's hidden state. -/
structure TrigRt where
  edge : Option (Ticks × Bool)    -- the edge whose filter runs
  lastFired : Option Ticks
  ignored : Nat                   -- since the last TRIGGER_IGNORED
  lastEvt : Option Ticks
deriving DecidableEq, Repr

/-- A unit whose work moves to a spare, or that is being tested. -/
structure UnitWork where
  kind : Nat                      -- Table 20.5
  index : Nat                     -- the physical unit
  spare : Option Nat
  planned : Bool
  test : Bool                     -- its self-test is to run or runs
  req : Option (Nat × Nat)        -- mailbox and count of the VX_REPAIR behind it
  action : Nat
  hinge : Nat
  declared : Option Ticks         -- when the fault behind it was declared
deriving DecidableEq, Repr

/-- A firmware handover or a recovery of pair A. -/
structure Handover where
  begun : Ticks
  update : Bool                   -- a new image (R449); otherwise a recovery (R367)
  req : Option (Nat × Nat)
  slot : Nat                      -- the slot that holds the new image
deriving DecidableEq, Repr

/-- Resets, power, the brace state and the pins. -/
structure Power where
  inReset : Bool                  -- a reset of class P or D is in progress
  cause : Nat                     -- its first source
  mode : Nat                      -- the power state in force: CORE_REQ is low in 3
  entry : Option (Nat × Ticks)    -- a power state to enter, and when
  resetAt : Option Ticks          -- when the reset of VX_RESET begins
  braceAt : Option Ticks          -- when the brace state began
  lowMv : Nat                     -- the lowest voltage in it, and its rail
  lowRail : Nat
  backupMark : Bool
  tripped : Bool                  -- THERM_TRIP_N is driven low
  warnIslands : List Nat          -- islands that have raised THERMAL_WARN since the last end of the warning
  tjRead : Bool                   -- temperatures have been read since the last reset
  resume : List ObjId             -- the ports that an entry to standby stopped
  taken : Bool                    -- boundary scan has the balls
  handover : Option Handover
  bRestart : Bool                 -- pair B is still to restart on the new image (R449)
  ageMoves : List (Nat × Nat)     -- units that an ageing island still has to move: kind and index (R447)
deriving DecidableEq, Repr

-- STATE-TYPES-END

/-- The state of the block. -/
structure State where
  now : Ticks                     -- the device timebase
  hif : Hif
  msixMask : Nat                  -- the mask bits of the MSI-X table, by vector
  functionMask : Bool
  mbs : Map Mailbox
  evs : Map EvRing
  bar0 : Mem                      -- slots, ring entries and the MSI-X table
  props : Map Int                 -- properties that differ from their defaults, by `propKey`
  stored : Map Int                -- stored AT_RESTART values (R37)
  objs : List ObjId               -- created objects, surfaces and rings
  nextInst : Map Nat              -- the next instance number of a class (R35)
  objSubs : Map Subscription
  classSubs : Map Subscription
  flights : List Flight
  waiting : List Request          -- consumed requests that a fence holds back
  heldEvents : List HeldEvent     -- in order of arising
  heldCpls : List (Request × Cpl) -- completions that the recovered pair A posts, in order
  dma : List DmaRead
  dmaDead : List Nat              -- tags in use whose request was completed without them (R52)
  dmaLate : List Nat              -- tags free again after a timeout, whose completion may still come
  dmaQueue : List DmaWait         -- reads that wait for a free tag, oldest first
  nextTag : Nat
  surfs : Map Surf
  rings : Map Ring
  ctl : List CtlRegion
  recPages : List RecPage
  orders : Nat                    -- the last record order given
  frame : Mem                     -- the bytes of the frame store
  heads : Map HeadRt
  layers : Map LayerRt
  routes : Map RouteRt
  charges : Map Nat               -- charges in force, by owner: route, port or head (R145)
  slices : List SliceRes
  ports : Map PortIn
  lanes : Map Lane
  groups : List GroupRun
  groupCount : Nat                -- this device's count of group commits
  hls : Map HlLink
  hlGrants : Map Nat              -- numbers granted, by serial (R335)
  hlJoins : Map Nat               -- the downward link from which a serial's JOIN came
  dests : Map AudioDest
  paths : Map AudioPath
  srcs : Map AudioSrc
  tdms : Map TdmPort
  delayLines : Map ObjId          -- surfaces of delay lines, by party × 16 + part (R288)
  delayCount : Map Nat            -- sample periods written, by party
  outs : Map PortOut
  dpPins : Map DpPins
  laneTxs : Map LaneTx
  keys : Keyring
  cc : Ctl
  refs : Map RefRt
  tb : Timebase
  pcs : Map PcRt
  snaps : List FsSnap
  fsMoves : List FsMove
  fsStale : List Nat              -- logical pseudo-channels whose control copies lack a write: the others are single (R349)
  chains : Map ChainRt
  lamps : Map LampRt
  tallyOff : List Nat             -- tally groups that are off
  strobes : Map StrobeRt
  trigs : Map TrigRt
  works : List UnitWork
  places : Map Nat                -- the unit that holds a place's work, where it is not its own (R440)
  power : Power
  out : List (Ticks × Output)     -- what has left the block, newest first
  free : Nat                      -- how many free values have been used
  pending : List Instr
deriving DecidableEq, Repr

-- STATE-END

/-! ### Reset -/

/-- The keyring before its first start. -/
def keysReset : Keyring :=
  ⟨⟨0, 0, false, 0, 1, 1, 0, 0⟩, [], false, false, false, false, false, 0, 0, [], 0, 1, [], 0, false⟩

/-- The control complex before the boot ROM starts: pair B is held (Tables 17.2 and 17.3). -/
def ccReset : Ctl where
  remap := false
  wdtEn := false
  bHold := true
  stage := 0
  source := 0
  fail := 0
  recoveries := 0
  aFault := false
  bFault := false
  stopped := false
  faults := []
  recovering := none
  haltedA := false
  haltedB := false
  draining := []
  sram := []
  flash := []
  image := []
  root := 0
  mode := 0
  pushWait := false
  pin := 0
  booted := false
  eccRows := []
  sramRepairs := []
  matrix := []
  granted := []

/-- The timebase before anything is selected; the RTC is INVALID and reads 0. -/
def tbReset : Timebase := ⟨false, 0, 0, none, false, [], none, 0, 0, none, [], none⟩

def powerReset : Power where
  inReset := false
  cause := 0
  mode := 0
  entry := none
  resetAt := none
  braceAt := none
  lowMv := 0
  lowRail := 0
  backupMark := false
  tripped := false
  warnIslands := []
  tjRead := false
  resume := []
  taken := false
  handover := none
  bRestart := false
  ageMoves := []

/-- The block after a power-on reset, before the boot ROM runs: every property at its default, no created object, the
frame store unallocated but for firmware's own regions of R474, and mailboxes and event rings empty. -/
def State.reset : State where
  now := 0
  hif := ⟨0, false, false, false, false, false, 0⟩
  msixMask := 0xFFFFFFFFFFFFFFFF
  functionMask := false
  mbs := []
  evs := []
  bar0 := []
  props := []
  stored := []
  objs := []
  nextInst := []
  objSubs := []
  classSubs := []
  flights := []
  waiting := []
  heldEvents := []
  heldCpls := []
  dma := []
  dmaDead := []
  dmaLate := []
  dmaQueue := []
  nextTag := 0
  surfs := []
  rings := []
  ctl := [⟨0, 290816, 4096⟩, ⟨1, 290816, 4096⟩]
  recPages := []
  orders := 0
  frame := []
  heads := []
  layers := []
  routes := []
  charges := []
  slices := []
  ports := []
  lanes := []
  groups := []
  groupCount := 0
  hls := []
  hlGrants := []
  hlJoins := []
  dests := []
  paths := []
  srcs := []
  tdms := []
  delayLines := []
  delayCount := []
  outs := []
  dpPins := []
  laneTxs := []
  keys := keysReset
  cc := ccReset
  refs := []
  tb := tbReset
  pcs := []
  snaps := []
  fsMoves := []
  fsStale := []
  chains := []
  lamps := []
  tallyOff := []
  strobes := []
  trigs := []
  works := []
  places := []
  power := powerReset
  out := []
  free := 0
  pending := []

end Sys2Proof.Machine
end

