-- ==== Sys2Proof/Machine/Flags.lean ====
section
/-! DEFINITION. The flag fields that software reads: HIF_STATUS, the flags of a completion and of an event entry (Tables
2.3, 2.6 and 2.15). -/

namespace Sys2Proof.Machine

/-- HIF_STATUS bits 3:0 as a number (Table 2.3). -/
def hifLow (h : Hif) : Nat := bit01 h.fwReady + 2 * bit01 h.fwFault + 4 * bit01 h.handover + 8 * bit01 h.brace

/-- The HIF_STATUS register (Table 2.3). -/
def hifStatus (h : Hif) : Nat := h.compat * 0x10000 + hifLow h

/-- Byte 3 of a completion slot: payload length, INDIRECT and PENDING (Table 2.6). -/
def cplFlags (used : Nat) (indirect pend : Bool) : Nat := min used 44 + 64 * bit01 indirect + 128 * bit01 pend

/-- The flags byte of an event entry: bit 0 is LOST (Table 2.15). -/
def eventFlags (lost : Bool) : Nat := bit01 lost

end Sys2Proof.Machine
end

