-- ==== Sys2Proof/Machine/Pids.lean ====
section
/-! DEFINITION. The property IDs of the property tables, under the manual's own names. -/

namespace Sys2Proof.Machine

/-! Properties of SYSTEM (class 0x13). -/
abbrev pSystemMbPolicy : Nat := 0x101
abbrev pSystemCompatLevel : Nat := 0x102
abbrev pSystemLateDiscards : Nat := 0x103
abbrev pSystemFsCharge : Nat := 0x110
abbrev pSystemFsBudget : Nat := 0x111
abbrev pSystemLbHeadReserve : Nat := 0x120
abbrev pSystemLbFree : Nat := 0x121
abbrev pSystemRbThreshold : Nat := 0x130
abbrev pSystemSpareAuto : Nat := 0x131
abbrev pSystemRbMismatches : Nat := 0x132
abbrev pSystemLaneCore : Nat := 0x133
abbrev pSystemCoreState : Nat := 0x134
abbrev pSystemAudioZcTimeout : Nat := 0x140
abbrev pSystemAsrcFree : Nat := 0x141
abbrev pSystemCepraCount : Nat := 0x150
abbrev pSystemRefSelected : Nat := 0x160
abbrev pSystemTbState : Nat := 0x161
abbrev pSystemTbNow : Nat := 0x162
abbrev pSystemTbSet : Nat := 0x163
abbrev pSystemTbPending : Nat := 0x164
abbrev pSystemTbSlope : Nat := 0x165
abbrev pSystemTbStepAllow : Nat := 0x166
abbrev pSystemTbStepThreshold : Nat := 0x167
abbrev pSystemDpllBw : Nat := 0x168
abbrev pSystemDpllStage : Nat := 0x169
abbrev pSystemDisagreePpm : Nat := 0x16A
abbrev pSystemHoldoverAvg : Nat := 0x16B
abbrev pSystemOscFreq : Nat := 0x16C
abbrev pSystemUtcOffset : Nat := 0x16D
abbrev pSystemRtcTime : Nat := 0x16E
abbrev pSystemRtcSet : Nat := 0x16F
abbrev pSystemRtcState : Nat := 0x170
abbrev pSystemRtcTrim : Nat := 0x171
abbrev pSystemHlLanes : Nat := 0x180
abbrev pSystemHlRate : Nat := 0x181
abbrev pSystemHlRole : Nat := 0x182
abbrev pSystemHlNumber : Nat := 0x183
abbrev pSystemHlRetryBudget : Nat := 0x184
abbrev pSystemHlState : Nat := 0x185
abbrev pSystemHlDomain : Nat := 0x186
abbrev pSystemHlMap : Nat := 0x187
abbrev pSystemHlRoot : Nat := 0x188
abbrev pSystemHlCounts : Nat := 0x189
abbrev pSystemFsBankMasks : Nat := 0x190
abbrev pSystemFsPcMap : Nat := 0x191
abbrev pSystemFsPcState : Nat := 0x192
abbrev pSystemFsLatencyTarget : Nat := 0x193
abbrev pSystemFsRdProb : Nat := 0x194
abbrev pSystemFsRdSpan : Nat := 0x195
abbrev pSystemFsPasrKeep : Nat := 0x196
abbrev pSystemFsTemp : Nat := 0x197
abbrev pSystemFsHot : Nat := 0x198
abbrev pSystemFsParityRetries : Nat := 0x199
abbrev pSystemFsEccCorrected : Nat := 0x19A
abbrev pSystemFsRdRefreshes : Nat := 0x19B
abbrev pSystemFsDiagSelect : Nat := 0x19C
abbrev pSystemFsDiag : Nat := 0x19D
abbrev pSystemFsRelease : Nat := 0x19E
abbrev pSystemFsFree : Nat := 0x19F
abbrev pSystemWdtTimeout : Nat := 0x1A0
abbrev pSystemBootSource : Nat := 0x1A1
abbrev pSystemCcRecoveries : Nat := 0x1A2
abbrev pSystemCcEcc : Nat := 0x1A3
abbrev pSystemCcDecodeErrors : Nat := 0x1A4
abbrev pSystemCcQos : Nat := 0x1A5
abbrev pSystemKeyringState : Nat := 0x1B0
abbrev pSystemOwnerContext : Nat := 0x1B1
abbrev pSystemOwnerKeyHash : Nat := 0x1B2
abbrev pSystemRollbackFloor : Nat := 0x1B3
abbrev pSystemVendorRevoke : Nat := 0x1B4
abbrev pSystemSerial : Nat := 0x1B5
abbrev pSystemFwMeasurement : Nat := 0x1B6
abbrev pSystemConfigDigest : Nat := 0x1B7
abbrev pSystemDebugChallenge : Nat := 0x1B8
abbrev pSystemDebugUnlock : Nat := 0x1B9
abbrev pSystemPufCorrected : Nat := 0x1BA
abbrev pSystemPufCapacity : Nat := 0x1BB
abbrev pSystemPufDays : Nat := 0x1BC
abbrev pSystemPufReenrol : Nat := 0x1BD
abbrev pSystemStrobePort : Nat := 0x1C0
abbrev pSystemStrobeDelay : Nat := 0x1C1
abbrev pSystemStrobeWidth : Nat := 0x1C2
abbrev pSystemStrobePolarity : Nat := 0x1C3
abbrev pSystemStrobeSkipped : Nat := 0x1C4
abbrev pSystemTallyRearm : Nat := 0x1C5
abbrev pSystemPowerState : Nat := 0x1D0
abbrev pSystemWakeSources : Nat := 0x1D1
abbrev pSystemWakeAlarm : Nat := 0x1D2
abbrev pSystemResetCause : Nat := 0x1D3
abbrev pSystemBraceLog : Nat := 0x1D4
abbrev pSystemBraceCount : Nat := 0x1D5
abbrev pSystemSpareMap : Nat := 0x1D6
abbrev pSystemRepairAuto : Nat := 0x1D7
abbrev pSystemAgeLimit : Nat := 0x1D8
abbrev pSystemAgeing : Nat := 0x1D9
abbrev pSystemGpioDir : Nat := 0x1E0
abbrev pSystemGpioOut : Nat := 0x1E1
abbrev pSystemGpioIn : Nat := 0x1E2
abbrev pSystemTj : Nat := 0x1E3
abbrev pSystemTjWarn : Nat := 0x1E4
abbrev pSystemTjPeak : Nat := 0x1E5

/-! Properties of HEAD (class 0x07). -/
abbrev pHeadHaspLine : Nat := 0x100
abbrev pHeadHingeCount : Nat := 0x101
abbrev pHeadHingeTime : Nat := 0x102
abbrev pHeadLateCommits : Nat := 0x103
abbrev pHeadCommitState : Nat := 0x104
abbrev pHeadRun : Nat := 0x105
abbrev pHeadCadence : Nat := 0x106
abbrev pHeadRaster : Nat := 0x107
abbrev pHeadSync : Nat := 0x108
abbrev pHeadPhase : Nat := 0x109
abbrev pHeadPrefetchLines : Nat := 0x10A
abbrev pHeadCompFormat : Nat := 0x10B
abbrev pHeadBackground : Nat := 0x10C
abbrev pHeadMatchLine : Nat := 0x10D
abbrev pHeadDisplayEvents : Nat := 0x10E
abbrev pHeadStillAfter : Nat := 0x10F
abbrev pHeadRasterState : Nat := 0x110
abbrev pHeadStillState : Nat := 0x111
abbrev pHeadStillRun : Nat := 0x112
abbrev pHeadHoldSurface : Nat := 0x113
abbrev pHeadStillCharge : Nat := 0x114
abbrev pHeadUnderrunCount : Nat := 0x115
abbrev pHeadPrefetchApplied : Nat := 0x116
abbrev pHeadSlices : Nat := 0x117
abbrev pHeadLayers : Nat := 0x118
abbrev pHeadLoad : Nat := 0x119

/-! Properties of GROUP (class 0x12). -/
abbrev pGroupMembers : Nat := 0x100
abbrev pGroupMemberCount : Nat := 0x101
abbrev pGroupReleaseLead : Nat := 0x102

/-! Properties of PORT_IN (class 0x01). -/
abbrev pPortInKind : Nat := 0x100
abbrev pPortInLanes : Nat := 0x101
abbrev pPortInLinks : Nat := 0x102
abbrev pPortInLaneRate : Nat := 0x103
abbrev pPortInEngines : Nat := 0x104
abbrev pPortInEngineMap : Nat := 0x105
abbrev pPortInRing : Nat := 0x106
abbrev pPortInFormat : Nat := 0x107
abbrev pPortInGeometry : Nat := 0x108
abbrev pPortInRate : Nat := 0x109
abbrev pPortInLinkLatency : Nat := 0x10A
abbrev pPortInPartialPolicy : Nat := 0x10B
abbrev pPortInLossTimeout : Nat := 0x10C
abbrev pPortInState : Nat := 0x10D
abbrev pPortInMeasured : Nat := 0x10E
abbrev pPortInFramePeriod : Nat := 0x10F
abbrev pPortInFrames : Nat := 0x110
abbrev pPortInDropped : Nat := 0x111
abbrev pPortInHdrErrors : Nat := 0x112
abbrev pPortInStdCheckErrors : Nat := 0x113
abbrev pPortInTimecode : Nat := 0x114
abbrev pPortInPathState : Nat := 0x115
abbrev pPortInAncRing : Nat := 0x116
abbrev pPortInAncFilter : Nat := 0x117
abbrev pPortInParent : Nat := 0x118
abbrev pPortInEthMode : Nat := 0x119
abbrev pPortInIpConfig : Nat := 0x11A
abbrev pPortInFlow : Nat := 0x11B
abbrev pPortInPathSkew : Nat := 0x11C
abbrev pPortInRoiRect : Nat := 0x120
abbrev pPortInRoiStat : Nat := 0x121
abbrev pPortInRoiPlane : Nat := 0x122
abbrev pPortInRoiLevel : Nat := 0x123
abbrev pPortInRoiThreshold : Nat := 0x124
abbrev pPortInRoiHyst : Nat := 0x125
abbrev pPortInRoiEdge : Nat := 0x126
abbrev pPortInRoiTrigger : Nat := 0x127
abbrev pPortInRoiValue : Nat := 0x128
abbrev pPortInAudioChannels : Nat := 0x140
abbrev pPortInAudioFormat : Nat := 0x141
abbrev pPortInAudioBase : Nat := 0x142

/-! Properties of SURFACE (class 0x03). -/
abbrev pSurfaceFormat : Nat := 0x100
abbrev pSurfaceGeometry : Nat := 0x101
abbrev pSurfaceStride : Nat := 0x102
abbrev pSurfaceAddress : Nat := 0x103
abbrev pSurfaceSize : Nat := 0x104
abbrev pSurfaceState : Nat := 0x105
abbrev pSurfaceLeases : Nat := 0x106
abbrev pSurfaceHostLeases : Nat := 0x107
abbrev pSurfaceRing : Nat := 0x108
abbrev pSurfacePosition : Nat := 0x109
abbrev pSurfaceMtcMode : Nat := 0x10A
abbrev pSurfaceRecord : Nat := 0x10B
abbrev pSurfaceHostFrame : Nat := 0x10C

/-! Properties of RING (class 0x04). -/
abbrev pRingLength : Nat := 0x100
abbrev pRingFormat : Nat := 0x101
abbrev pRingGeometry : Nat := 0x102
abbrev pRingSurfaces : Nat := 0x103
abbrev pRingWriter : Nat := 0x104
abbrev pRingNewest : Nat := 0x105
abbrev pRingNewestFrame : Nat := 0x106
abbrev pRingOverruns : Nat := 0x107
abbrev pRingState : Nat := 0x108
abbrev pRingMtcMode : Nat := 0x109
abbrev pRingRecordPcs : Nat := 0x10A
abbrev pRingCaptureMode : Nat := 0x110
abbrev pRingCapturePre : Nat := 0x111
abbrev pRingCapturePost : Nat := 0x112
abbrev pRingPostTimeout : Nat := 0x113
abbrev pRingCepraKey : Nat := 0x114
abbrev pRingCaptureAudio : Nat := 0x115
abbrev pRingCaptureState : Nat := 0x116
abbrev pRingCaptureHeld : Nat := 0x117
abbrev pRingCaptureTrigger : Nat := 0x118
abbrev pRingCaptureIgnored : Nat := 0x119
abbrev pRingCepra : Nat := 0x11A
abbrev pRingAudioSurface : Nat := 0x11B

/-! Properties of ROUTE (class 0x05). -/
abbrev pRouteHead : Nat := 0x100
abbrev pRouteSource : Nat := 0x101
abbrev pRouteStageKind : Nat := 0x102
abbrev pRouteStageUnits : Nat := 0x103
abbrev pRouteStageRings : Nat := 0x104
abbrev pRoutePreroll : Nat := 0x105
abbrev pRouteState : Nat := 0x106
abbrev pRouteOutput : Nat := 0x107
abbrev pRouteCharge : Nat := 0x108
abbrev pRouteUnitLoad : Nat := 0x109
abbrev pRouteSkipped : Nat := 0x10A
abbrev pRoutePlay : Nat := 0x110
abbrev pRoutePlayPos : Nat := 0x111
abbrev pRoutePlaySpeed : Nat := 0x112
abbrev pRoutePlayEnd : Nat := 0x113
abbrev pRoutePlayCursor : Nat := 0x114

/-! Properties of LAYER (class 0x06). -/
abbrev pLayerHead : Nat := 0x100
abbrev pLayerRoute : Nat := 0x101
abbrev pLayerBackup : Nat := 0x102
abbrev pLayerSelect : Nat := 0x103
abbrev pLayerFailoverFrames : Nat := 0x104
abbrev pLayerRevertFrames : Nat := 0x105
abbrev pLayerHoldLimit : Nat := 0x106
abbrev pLayerFallbackColour : Nat := 0x107
abbrev pLayerStaleReport : Nat := 0x108
abbrev pLayerStale : Nat := 0x109
abbrev pLayerStaleCount : Nat := 0x10A
abbrev pLayerStaleRun : Nat := 0x10B
abbrev pLayerOnBackup : Nat := 0x10C
abbrev pLayerMissCount : Nat := 0x10D
abbrev pLayerFrame : Nat := 0x10E
abbrev pLayerFailovers : Nat := 0x10F
abbrev pLayerZ : Nat := 0x110
abbrev pLayerVisible : Nat := 0x111
abbrev pLayerSrcRect : Nat := 0x112
abbrev pLayerDest : Nat := 0x113
abbrev pLayerAlphaMode : Nat := 0x114
abbrev pLayerGlobalAlpha : Nat := 0x115
abbrev pLayerChromaSiting : Nat := 0x116
abbrev pLayerCovered : Nat := 0x117
abbrev pLayerStarved : Nat := 0x118
abbrev pLayerFetchBytes : Nat := 0x119
abbrev pLayerUnderruns : Nat := 0x11A

/-! Properties of SHAPER (class 0x08). -/
abbrev pShaperCrop : Nat := 0x100
abbrev pShaperFlip : Nat := 0x101
abbrev pShaperCfaBlack : Nat := 0x102
abbrev pShaperCfaGain : Nat := 0x103
abbrev pShaperDemosaic : Nat := 0x104
abbrev pShaperCoefH : Nat := 0x105
abbrev pShaperCoefV : Nat := 0x106
abbrev pShaperTapsV : Nat := 0x107
abbrev pShaperTapsApplied : Nat := 0x108
abbrev pShaperSlices : Nat := 0x109
abbrev pShaperAids : Nat := 0x10A
abbrev pShaperAidLuma : Nat := 0x10B
abbrev pShaperFcCount : Nat := 0x10C
abbrev pShaperFcTable : Nat := 0x10D
abbrev pShaperZebra : Nat := 0x10E
abbrev pShaperPeak : Nat := 0x10F
abbrev pShaperRoute : Nat := 0x110
abbrev pShaperState : Nat := 0x111
abbrev pShaperJobs : Nat := 0x112
abbrev pShaperColourSteps : Nat := 0x130
abbrev pShaperInEncoding : Nat := 0x131
abbrev pShaperOutEncoding : Nat := 0x132
abbrev pShaperInGamut : Nat := 0x133
abbrev pShaperOutGamut : Nat := 0x134
abbrev pShaperInRange : Nat := 0x135
abbrev pShaperOutRange : Nat := 0x136
abbrev pShaperInYcc : Nat := 0x137
abbrev pShaperOutYcc : Nat := 0x138
abbrev pShaperPreLut : Nat := 0x139
abbrev pShaperPostLut : Nat := 0x13A
abbrev pShaperGamutMatrix : Nat := 0x13B
abbrev pShaperLut3d : Nat := 0x13C
abbrev pShaperToneMode : Nat := 0x13D
abbrev pShaperToneBasis : Nat := 0x13E
abbrev pShaperToneLuma : Nat := 0x13F
abbrev pShaperToneTarget : Nat := 0x140
abbrev pShaperToneKnee : Nat := 0x141
abbrev pShaperToneSrcPeak : Nat := 0x142
abbrev pShaperToneMeasure : Nat := 0x143
abbrev pShaperTonePct : Nat := 0x144
abbrev pShaperToneSpeed : Nat := 0x145
abbrev pShaperToneTable : Nat := 0x146
abbrev pShaperHlgPeak : Nat := 0x147
abbrev pShaperSdrWhite : Nat := 0x148
abbrev pShaperLinearPeak : Nat := 0x149
abbrev pShaperInChromaSiting : Nat := 0x14A
abbrev pShaperOutChromaSiting : Nat := 0x14B
abbrev pShaperToneMeasured : Nat := 0x14C
abbrev pShaperToneApplied : Nat := 0x14D
abbrev pShaperClipCounts : Nat := 0x14E

/-! Properties of TCONV (class 0x09). -/
abbrev pTconvMode : Nat := 0x100
abbrev pTconvDelay : Nat := 0x101
abbrev pTconvAccPositions : Nat := 0x102
abbrev pTconvAccWeights : Nat := 0x103
abbrev pTconvHoldSamples : Nat := 0x104
abbrev pTconvMcRange : Nat := 0x105
abbrev pTconvMcSadLimit : Nat := 0x106
abbrev pTconvMcCut : Nat := 0x107
abbrev pTconvAccNorm : Nat := 0x108
abbrev pTconvAccSurface : Nat := 0x109
abbrev pTconvDelayApplied : Nat := 0x10A
abbrev pTconvGuard : Nat := 0x10B
abbrev pTconvInputPeriod : Nat := 0x10C
abbrev pTconvLastOut : Nat := 0x10D
abbrev pTconvLastInputs : Nat := 0x10E
abbrev pTconvLateInputs : Nat := 0x10F
abbrev pTconvMissedInputs : Nat := 0x110
abbrev pTconvMcFallbacks : Nat := 0x111
abbrev pTconvCoverage : Nat := 0x112
abbrev pTconvRoute : Nat := 0x113
abbrev pTconvState : Nat := 0x114
abbrev pTconvJobs : Nat := 0x115

/-! Properties of PORT_OUT (class 0x02). -/
abbrev pPortOutKind : Nat := 0x100
abbrev pPortOutHead : Nat := 0x101
abbrev pPortOutLanes : Nat := 0x102
abbrev pPortOutEngines : Nat := 0x103
abbrev pPortOutEngineMap : Nat := 0x104
abbrev pPortOutParent : Nat := 0x105
abbrev pPortOutSdiStd : Nat := 0x106
abbrev pPortOutSampling : Nat := 0x107
abbrev pPortOutPsf : Nat := 0x108
abbrev pPortOutChromaSiting : Nat := 0x109
abbrev pPortOutAncRing : Nat := 0x10A
abbrev pPortOutTimecode : Nat := 0x10B
abbrev pPortOutTcOffset : Nat := 0x10C
abbrev pPortOutFlow : Nat := 0x10D
abbrev pPortOutSenderType : Nat := 0x10E
abbrev pPortOutPacketSize : Nat := 0x10F
abbrev pPortOutDpMax : Nat := 0x110
abbrev pPortOutPanelReplay : Nat := 0x111
abbrev pPortOutAux : Nat := 0x112
abbrev pPortOutState : Nat := 0x113
abbrev pPortOutDpLink : Nat := 0x114
abbrev pPortOutPrState : Nat := 0x115
abbrev pPortOutTro : Nat := 0x116
abbrev pPortOutAncSkipped : Nat := 0x117
abbrev pPortOutFrames : Nat := 0x118
abbrev pPortOutAudioChannels : Nat := 0x140
abbrev pPortOutAudioFormat : Nat := 0x141
abbrev pPortOutAudioBase : Nat := 0x142

/-! Properties of AUDIO_PORT (class 0x0A). -/
abbrev pAudioPortSlots : Nat := 0x100
abbrev pAudioPortSlotBits : Nat := 0x101
abbrev pAudioPortWordBits : Nat := 0x102
abbrev pAudioPortOffset : Nat := 0x103
abbrev pAudioPortFsync : Nat := 0x104
abbrev pAudioPortGroup : Nat := 0x105
abbrev pAudioPortRxMask : Nat := 0x106
abbrev pAudioPortTxMask : Nat := 0x107
abbrev pAudioPortTxIdle : Nat := 0x108
abbrev pAudioPortRxBase : Nat := 0x109
abbrev pAudioPortTxBase : Nat := 0x10A
abbrev pAudioPortState : Nat := 0x10B
abbrev pAudioPortRate : Nat := 0x10C
abbrev pAudioPortRateClass : Nat := 0x10D
abbrev pAudioPortBclkPeriod : Nat := 0x10E
abbrev pAudioPortGlitches : Nat := 0x10F
abbrev pAudioPortFramingErrors : Nat := 0x110

/-! Properties of AUDIO_CH (class 0x0B). -/
abbrev pAudioChSource : Nat := 0x100
abbrev pAudioChDest : Nat := 0x101
abbrev pAudioChRoute : Nat := 0x102
abbrev pAudioChEnable : Nat := 0x103
abbrev pAudioChAsrc : Nat := 0x104
abbrev pAudioChDelay : Nat := 0x105
abbrev pAudioChState : Nat := 0x106
abbrev pAudioChAsrcRatio : Nat := 0x107
abbrev pAudioChLatency : Nat := 0x108
abbrev pAudioChUnderruns : Nat := 0x109
abbrev pAudioChSlips : Nat := 0x10A
abbrev pAudioChFades : Nat := 0x10B

/-! Properties of TRIGGER (class 0x10). -/
abbrev pTriggerPin : Nat := 0x100
abbrev pTriggerEdge : Nat := 0x101
abbrev pTriggerFilter : Nat := 0x102
abbrev pTriggerHoldoff : Nat := 0x103
abbrev pTriggerDelay : Nat := 0x104
abbrev pTriggerTargets : Nat := 0x105
abbrev pTriggerEnable : Nat := 0x106
abbrev pTriggerLast : Nat := 0x107
abbrev pTriggerCount : Nat := 0x108
abbrev pTriggerIgnored : Nat := 0x109

/-! Properties of REF (class 0x0C). -/
abbrev pRefKind : Nat := 0x100
abbrev pRefFreq : Nat := 0x101
abbrev pRefPort : Nat := 0x102
abbrev pRefPtpDomain : Nat := 0x103
abbrev pRefPtpMode : Nat := 0x104
abbrev pRefEnable : Nat := 0x105
abbrev pRefRank : Nat := 0x106
abbrev pRefQualTime : Nat := 0x107
abbrev pRefLimitPpm : Nat := 0x108
abbrev pRefPhaseLimit : Nat := 0x109
abbrev pRefDelay : Nat := 0x10A
abbrev pRefTraceable : Nat := 0x10B
abbrev pRefState : Nat := 0x10C
abbrev pRefPhaseError : Nat := 0x10D
abbrev pRefFreqOffset : Nat := 0x10E
abbrev pRefDetected : Nat := 0x10F
abbrev pRefQualLeft : Nat := 0x110

/-! Properties of CADENCE (class 0x0D). -/
abbrev pCadenceRate : Nat := 0x100
abbrev pCadenceOffset : Nat := 0x101
abbrev pCadencePeriod : Nat := 0x102
abbrev pCadenceNextPulse : Nat := 0x103
abbrev pCadenceUsers : Nat := 0x104

/-! Properties of KEYSLOT (class 0x11). -/
abbrev pKeyslotPolicy : Nat := 0x100
abbrev pKeyslotPublic : Nat := 0x101
abbrev pKeyslotKeyId : Nat := 0x102
abbrev pKeyslotCert : Nat := 0x103
abbrev pKeyslotDerive : Nat := 0x104
abbrev pKeyslotLastQuote : Nat := 0x105

/-! Properties of CHAIN (class 0x0E). -/
abbrev pChainDrivers : Nat := 0x100
abbrev pChainSck : Nat := 0x101
abbrev pChainSource : Nat := 0x102
abbrev pChainPwmDivLog2 : Nat := 0x103
abbrev pChainBinTrim : Nat := 0x104
abbrev pChainExposurePort : Nat := 0x105
abbrev pChainDiagPeriod : Nat := 0x106
abbrev pChainShortConfirm : Nat := 0x107
abbrev pChainDerateKnee : Nat := 0x108
abbrev pChainDerateRate : Nat := 0x109
abbrev pChainState : Nat := 0x10A
abbrev pChainFound : Nat := 0x10B
abbrev pChainLatchEvery : Nat := 0x10C
abbrev pChainTemps : Nat := 0x10D
abbrev pChainCrcErrors : Nat := 0x10E

/-! Properties of LAMP (class 0x0F). -/
abbrev pLampDuty : Nat := 0x100
abbrev pLampPhase : Nat := 0x101
abbrev pLampBin : Nat := 0x102
abbrev pLampClass : Nat := 0x103
abbrev pLampGroup : Nat := 0x104
abbrev pLampState : Nat := 0x105
abbrev pLampTrimApplied : Nat := 0x106
abbrev pLampDiagPulses : Nat := 0x107

end Sys2Proof.Machine
end

