-- ==== Sys2Proof/Machine/PropTypes.lean ====
section
/-! DEFINITION. What a property table says of a property: type, elements, access, applies class, survives set,
default and range (R9, R36 to R38). -/

namespace Sys2Proof.Machine

/-- The value types of R36. -/
inductive PropTy where
  | u8 | u16 | u32 | u64 | s16 | s32 | s64 | enum | bool | objid
deriving DecidableEq, Repr

/-- The applies classes of R37. -/
inductive Applies where
  | immediate | atHinge | atRestart | atBoot
deriving DecidableEq, Repr

/-- The default of a property: one value, a value for each element, or a rule of the object and element. -/
inductive Dflt where
  | const (v : Int)
  | list (vs : List Int)   -- later elements are 0
  | dyn                    -- computed by `dynDefault`
deriving DecidableEq, Repr

/-- What the range of a property does with a written value (R9). -/
inductive VRule where
  | any                              -- every value of the type
  | clamp (lo hi : Int)              -- the nearer end of the range
  | aboveAs (hi applied : Int)       -- a value above `hi` is applied as `applied`
  | mask (bits : Nat)                -- other bits applied as 0
  | flag                             -- a bool: any non-zero value is 1
  | objOf (classes : List Nat)       -- an existing object of a class, or 0; other IDs applied as 0
  | special (lo hi : Int)            -- the owning chapter's own rule; `lo` and `hi` are its widest limits
deriving DecidableEq, Repr

/-- One row of a property table. The survives set is a mask: bit 0 P, 1 D, 2 I, 3 S, 4 DS, 5 B (Table 2.13). -/
structure PropRow where
  pid : Nat
  ty : PropTy
  n : Nat
  arr : Bool
  ro : Bool
  applies : Applies
  surv : Nat
  dflt : Dflt
  rule : VRule
deriving DecidableEq, Repr

/-- The natural size of a value in bytes (R36). -/
def PropTy.size : PropTy → Nat
  | .u8 | .bool => 1
  | .u16 | .s16 | .enum => 2
  | .u32 | .s32 | .objid => 4
  | .u64 | .s64 => 8

/-- Whether the type is signed. -/
def PropTy.signed : PropTy → Bool
  | .s16 | .s32 | .s64 => true
  | _ => false

/-- The type code of Table 2.13. -/
def PropTy.code : PropTy → Nat
  | .u8 => 1 | .u16 => 2 | .u32 => 3 | .u64 => 4 | .s16 => 5 | .s32 => 6 | .enum => 7 | .bool => 8 | .objid => 9
  | .s64 => 10

/-- The value of an element's bytes (R36). -/
def PropTy.decode (ty : PropTy) (raw : Nat) : Int :=
  if ty.signed then
    (if raw < 2 ^ (8 * ty.size - 1) then (raw : Int) else (raw : Int) - (2 ^ (8 * ty.size) : Nat))
  else raw

/-- The bytes of an element's value as a number (R36). -/
def PropTy.encode (ty : PropTy) (v : Int) : Nat := (v % (2 ^ (8 * ty.size) : Nat)).toNat

/-- The least and greatest values of a type. -/
def PropTy.limits (ty : PropTy) : Int × Int :=
  if ty.signed then (-(2 ^ (8 * ty.size - 1) : Nat), (2 ^ (8 * ty.size - 1) : Nat) - 1)
  else if ty = .bool then (0, 1)
  else (0, (2 ^ (8 * ty.size) : Nat) - 1)

/-- The code of the applies class in Table 2.13. -/
def Applies.code : Applies → Nat
  | .immediate => 0 | .atHinge => 1 | .atRestart => 2 | .atBoot => 3

end Sys2Proof.Machine
end

