-- ==== Sys2Proof/Machine/PropTable.lean ====
section
/-! DEFINITION. The property tables of the chapters: type, elements, access, applies class, survives set, default and range of every property (R9, R36 to R38). -/

namespace Sys2Proof.Machine

def rowsSystem0 : List PropRow := [
  ⟨pSystemMbPolicy, .u8, 16, true, false, .immediate, 28, .dyn, .special 0 255⟩,
  ⟨pSystemCompatLevel, .u16, 1, false, true, .atBoot, 63, .const 0, .clamp 0 65535⟩,
  ⟨pSystemLateDiscards, .u32, 1, false, true, .immediate, 12, .const 0, .clamp 0 4294967295⟩,
  ⟨pSystemFsCharge, .u64, 1, false, true, .immediate, 0, .const 0, .clamp 0 18446744073709551615⟩,
  ⟨pSystemFsBudget, .u64, 1, false, true, .immediate, 63, .const 3675000000000, .clamp 3675000000000 3675000000000⟩,
  ⟨pSystemLbHeadReserve, .u16, 1, false, false, .immediate, 12, .const 0, .clamp 0 342⟩,
  ⟨pSystemLbFree, .u16, 1, false, true, .immediate, 0, .const 342, .clamp 0 342⟩,
  ⟨pSystemRbThreshold, .u8, 1, false, false, .immediate, 12, .const 8, .clamp 1 64⟩,
  ⟨pSystemSpareAuto, .bool, 1, false, false, .immediate, 12, .const 1, .flag⟩,
  ⟨pSystemRbMismatches, .u32, 104, true, true, .immediate, 12, .const 0, .clamp 0 4294967295⟩,
  ⟨pSystemLaneCore, .u8, 96, true, true, .immediate, 31, .dyn, .clamp 0 103⟩,
  ⟨pSystemCoreState, .u8, 104, true, true, .immediate, 31, .dyn, .clamp 0 3⟩,
  ⟨pSystemAudioZcTimeout, .u16, 1, false, false, .immediate, 12, .const 10, .clamp 1 500⟩,
  ⟨pSystemAsrcFree, .u16, 1, false, true, .immediate, 0, .const 256, .clamp 0 256⟩,
  ⟨pSystemCepraCount, .u32, 1, false, true, .immediate, 63, .const 0, .clamp 0 4294967295⟩,
  ⟨pSystemRefSelected, .objid, 1, false, true, .immediate, 0, .const 0, .clamp 0 4294967295⟩,
  ⟨pSystemTbState, .enum, 1, false, true, .immediate, 0, .const 0, .clamp 0 4⟩,
  ⟨pSystemTbNow, .u64, 2, true, true, .immediate, 0, .const 0, .clamp 0 18446744073709551615⟩,
  ⟨pSystemTbSet, .u64, 2, true, false, .immediate, 0, .list [0, 0], .special (0) 18446744073709551615⟩,
  ⟨pSystemTbPending, .s64, 1, false, true, .immediate, 0, .const 0, .clamp (-9223372036854775808) 9223372036854775807⟩,
  ⟨pSystemTbSlope, .u32, 1, false, false, .immediate, 12, .const 50, .clamp 1 10000⟩,
  ⟨pSystemTbStepAllow, .enum, 1, false, false, .immediate, 12, .const 1, .aboveAs 2 1⟩,
  ⟨pSystemTbStepThreshold, .u32, 1, false, false, .immediate, 12, .const 1000000, .clamp 1000 1000000000⟩,
  ⟨pSystemDpllBw, .u16, 1, false, false, .immediate, 12, .const 100, .clamp 1 1000⟩,
  ⟨pSystemDpllStage, .u8, 1, false, true, .immediate, 0, .const 0, .clamp 0 2⟩,
  ⟨pSystemDisagreePpm, .u32, 1, false, false, .immediate, 12, .const 200, .clamp 10 10000⟩,
  ⟨pSystemHoldoverAvg, .u16, 1, false, false, .immediate, 12, .const 300, .clamp 10 3600⟩,
  ⟨pSystemOscFreq, .enum, 1, false, false, .atBoot, 63, .const 0, .aboveAs 5 0⟩,
  ⟨pSystemUtcOffset, .s16, 1, false, false, .immediate, 12, .const 37, .clamp (-1000) 1000⟩,
  ⟨pSystemRtcTime, .u64, 2, true, true, .immediate, 63, .const 0, .clamp 0 18446744073709551615⟩]

def rowsSystem1 : List PropRow := [
  ⟨pSystemRtcSet, .u64, 2, true, false, .immediate, 0, .list [0, 0], .any⟩,
  ⟨pSystemRtcState, .enum, 1, false, true, .immediate, 63, .const 0, .clamp 0 2⟩,
  ⟨pSystemRtcTrim, .s16, 1, false, true, .immediate, 63, .const 0, .clamp (-512) 511⟩,
  ⟨pSystemHlLanes, .u8, 10, true, false, .atBoot, 63, .const 255, .special (0) 255⟩,
  ⟨pSystemHlRate, .u16, 1, false, false, .atBoot, 63, .const 25000, .special (8000) 56000⟩,
  ⟨pSystemHlRole, .enum, 1, false, false, .atBoot, 63, .const 0, .aboveAs 1 1⟩,
  ⟨pSystemHlNumber, .u16, 1, false, false, .atBoot, 63, .const 65535, .aboveAs 511 65535⟩,
  ⟨pSystemHlRetryBudget, .u32, 1, false, false, .immediate, 12, .const 100, .clamp 10 1000⟩,
  ⟨pSystemHlState, .u8, 5, true, true, .immediate, 0, .const 0, .clamp 0 255⟩,
  ⟨pSystemHlDomain, .u16, 4, true, true, .immediate, 0, .list [0, 0, 1, 0], .clamp 0 65535⟩,
  ⟨pSystemHlMap, .u32, 512, true, true, .immediate, 0, .list [8], .clamp 0 4294967295⟩,
  ⟨pSystemHlRoot, .u64, 1, false, true, .immediate, 0, .const 0, .clamp 0 18446744073709551615⟩,
  ⟨pSystemHlCounts, .u32, 15, true, true, .immediate, 12, .const 0, .clamp 0 4294967295⟩,
  ⟨pSystemFsBankMasks, .u32, 16, true, false, .atBoot, 63, .dyn, .special (0) 4294967295⟩,
  ⟨pSystemFsPcMap, .u8, 120, true, true, .immediate, 31, .dyn, .clamp 0 127⟩,
  ⟨pSystemFsPcState, .u8, 128, true, true, .immediate, 31, .dyn, .clamp 0 4⟩,
  ⟨pSystemFsLatencyTarget, .u32, 5, true, false, .immediate, 12, .list [4000, 20000, 20000, 50000, 10000], .special (1000) 1000000⟩,
  ⟨pSystemFsRdProb, .u8, 1, false, false, .immediate, 12, .const 9, .clamp 5 13⟩,
  ⟨pSystemFsRdSpan, .u8, 1, false, false, .immediate, 12, .const 1, .clamp 1 2⟩,
  ⟨pSystemFsPasrKeep, .u32, 4, true, false, .immediate, 28, .const 4294967295, .any⟩,
  ⟨pSystemFsTemp, .s16, 4, true, true, .immediate, 0, .const 0, .clamp (-32768) 32767⟩,
  ⟨pSystemFsHot, .u8, 1, false, true, .immediate, 0, .const 0, .clamp 0 255⟩,
  ⟨pSystemFsParityRetries, .u32, 128, true, true, .immediate, 12, .const 0, .clamp 0 4294967295⟩,
  ⟨pSystemFsEccCorrected, .u32, 128, true, true, .immediate, 12, .const 0, .clamp 0 4294967295⟩,
  ⟨pSystemFsRdRefreshes, .u32, 128, true, true, .immediate, 12, .const 0, .clamp 0 4294967295⟩,
  ⟨pSystemFsDiagSelect, .u8, 1, false, false, .immediate, 12, .const 0, .clamp 0 127⟩,
  ⟨pSystemFsDiag, .u8, 2880, true, true, .immediate, 12, .const 0, .clamp 0 255⟩,
  ⟨pSystemFsRelease, .u8, 1, false, false, .immediate, 0, .const 0, .clamp 0 127⟩,
  ⟨pSystemFsFree, .u64, 2, true, true, .immediate, 0, .list [144921591808, 142941880320], .clamp 0 18446744073709551615⟩,
  ⟨pSystemWdtTimeout, .u16, 1, false, false, .immediate, 12, .const 1000, .clamp 10 10000⟩]

def rowsSystem2 : List PropRow := [
  ⟨pSystemBootSource, .u8, 1, false, true, .immediate, 0, .const 0, .clamp 0 255⟩,
  ⟨pSystemCcRecoveries, .u32, 1, false, true, .immediate, 12, .const 0, .clamp 0 4294967295⟩,
  ⟨pSystemCcEcc, .u32, 1, false, true, .immediate, 12, .const 0, .clamp 0 4294967295⟩,
  ⟨pSystemCcDecodeErrors, .u32, 8, true, true, .immediate, 12, .const 0, .clamp 0 4294967295⟩,
  ⟨pSystemCcQos, .u8, 8, true, false, .immediate, 12, .dyn, .clamp 0 15⟩,
  ⟨pSystemKeyringState, .enum, 1, false, true, .immediate, 0, .const 0, .clamp 0 3⟩,
  ⟨pSystemOwnerContext, .u8, 48, true, false, .atBoot, 63, .const 0, .any⟩,
  ⟨pSystemOwnerKeyHash, .u8, 48, true, false, .immediate, 63, .const 0, .any⟩,
  ⟨pSystemRollbackFloor, .u8, 1, false, false, .immediate, 63, .const 0, .special (0) 255⟩,
  ⟨pSystemVendorRevoke, .u8, 1, false, false, .immediate, 63, .const 0, .clamp 0 3⟩,
  ⟨pSystemSerial, .u64, 1, false, true, .immediate, 63, .const 0, .clamp 0 18446744073709551615⟩,
  ⟨pSystemFwMeasurement, .u8, 48, true, true, .immediate, 0, .const 0, .clamp 0 255⟩,
  ⟨pSystemConfigDigest, .u8, 48, true, true, .immediate, 0, .const 0, .clamp 0 255⟩,
  ⟨pSystemDebugChallenge, .u8, 32, true, true, .immediate, 0, .const 0, .clamp 0 255⟩,
  ⟨pSystemDebugUnlock, .u8, 97, true, false, .immediate, 0, .const 0, .any⟩,
  ⟨pSystemPufCorrected, .u16, 1, false, true, .immediate, 0, .const 0, .clamp 0 65535⟩,
  ⟨pSystemPufCapacity, .u16, 1, false, true, .immediate, 0, .const 0, .clamp 0 65535⟩,
  ⟨pSystemPufDays, .u16, 2, true, true, .immediate, 63, .list [0, 0], .clamp 0 65535⟩,
  ⟨pSystemPufReenrol, .bool, 1, false, false, .immediate, 0, .const 0, .flag⟩,
  ⟨pSystemStrobePort, .objid, 8, true, false, .immediate, 12, .const 0, .special (0) 4294967295⟩,
  ⟨pSystemStrobeDelay, .s32, 8, true, false, .immediate, 12, .const 0, .clamp (-1000000) 1000000⟩,
  ⟨pSystemStrobeWidth, .u32, 8, true, false, .immediate, 12, .const 0, .clamp 0 1000000⟩,
  ⟨pSystemStrobePolarity, .u8, 1, false, false, .immediate, 12, .const 0, .any⟩,
  ⟨pSystemStrobeSkipped, .u32, 8, true, true, .immediate, 12, .const 0, .clamp 0 4294967295⟩,
  ⟨pSystemTallyRearm, .u8, 1, false, false, .immediate, 0, .const 0, .any⟩,
  ⟨pSystemPowerState, .enum, 1, false, false, .immediate, 0, .const 0, .aboveAs 3 0⟩,
  ⟨pSystemWakeSources, .u8, 1, false, false, .immediate, 28, .const 15, .mask 15⟩,
  ⟨pSystemWakeAlarm, .u64, 2, true, false, .immediate, 28, .list [0, 0], .any⟩,
  ⟨pSystemResetCause, .enum, 1, false, true, .immediate, 0, .const 0, .clamp 0 8⟩,
  ⟨pSystemBraceLog, .u64, 32, true, true, .immediate, 63, .const 0, .clamp 0 18446744073709551615⟩]

def rowsSystem3 : List PropRow := [
  ⟨pSystemBraceCount, .u32, 1, false, true, .immediate, 63, .const 0, .clamp 0 4294967295⟩,
  ⟨pSystemSpareMap, .u8, 217, true, true, .immediate, 31, .dyn, .clamp 0 255⟩,
  ⟨pSystemRepairAuto, .bool, 1, false, false, .immediate, 12, .const 1, .flag⟩,
  ⟨pSystemAgeLimit, .u16, 1, false, false, .immediate, 12, .const 60, .clamp 10 200⟩,
  ⟨pSystemAgeing, .u16, 40, true, true, .immediate, 0, .const 0, .clamp 0 65535⟩,
  ⟨pSystemGpioDir, .u16, 1, false, false, .immediate, 12, .const 0, .any⟩,
  ⟨pSystemGpioOut, .u16, 1, false, false, .immediate, 12, .const 0, .any⟩,
  ⟨pSystemGpioIn, .u16, 1, false, true, .immediate, 0, .const 0, .clamp 0 65535⟩,
  ⟨pSystemTj, .s16, 40, true, true, .immediate, 0, .const 0, .clamp (-32768) 32767⟩,
  ⟨pSystemTjWarn, .s16, 1, false, false, .immediate, 12, .const 100, .clamp 60 105⟩,
  ⟨pSystemTjPeak, .s16, 40, true, true, .immediate, 12, .const 0, .clamp (-32768) 32767⟩]

/-- The property table of SYSTEM. -/
def propsSystem : List PropRow := rowsSystem0 ++ rowsSystem1 ++ rowsSystem2 ++ rowsSystem3

def rowsHead0 : List PropRow := [
  ⟨pHeadHaspLine, .u16, 1, false, false, .atHinge, 12, .const 0, .special (0) 32767⟩,
  ⟨pHeadHingeCount, .u64, 1, false, true, .immediate, 12, .const 0, .clamp 0 18446744073709551615⟩,
  ⟨pHeadHingeTime, .u64, 2, true, true, .immediate, 12, .const 0, .clamp 0 18446744073709551615⟩,
  ⟨pHeadLateCommits, .u32, 1, false, true, .immediate, 12, .const 0, .clamp 0 4294967295⟩,
  ⟨pHeadCommitState, .enum, 1, false, true, .immediate, 0, .const 0, .clamp 0 4⟩,
  ⟨pHeadRun, .bool, 1, false, false, .atHinge, 12, .const 0, .flag⟩,
  ⟨pHeadCadence, .objid, 1, false, false, .atHinge, 12, .const 0, .objOf [13]⟩,
  ⟨pHeadRaster, .u16, 4, true, false, .atHinge, 12, .list [1920, 1080, 2200, 1125], .special (16) 32767⟩,
  ⟨pHeadSync, .u16, 4, true, false, .atHinge, 12, .list [88, 44, 4, 5], .special (0) 32767⟩,
  ⟨pHeadPhase, .u32, 1, false, false, .atHinge, 12, .const 0, .clamp 0 999999999⟩,
  ⟨pHeadPrefetchLines, .u8, 1, false, false, .atHinge, 12, .const 8, .clamp 1 64⟩,
  ⟨pHeadCompFormat, .enum, 1, false, false, .atHinge, 12, .const 0, .aboveAs 1 1⟩,
  ⟨pHeadBackground, .u16, 3, true, false, .atHinge, 12, .list [0, 0, 0], .clamp 0 4095⟩,
  ⟨pHeadMatchLine, .u16, 1, false, false, .immediate, 12, .const 0, .special (0) 32766⟩,
  ⟨pHeadDisplayEvents, .u8, 1, false, false, .immediate, 12, .const 0, .mask 7⟩,
  ⟨pHeadStillAfter, .u16, 1, false, false, .atHinge, 12, .const 4, .any⟩,
  ⟨pHeadRasterState, .enum, 1, false, true, .immediate, 0, .const 0, .clamp 0 3⟩,
  ⟨pHeadStillState, .enum, 1, false, true, .immediate, 0, .const 0, .clamp 0 2⟩,
  ⟨pHeadStillRun, .u16, 1, false, true, .immediate, 0, .const 0, .clamp 0 65535⟩,
  ⟨pHeadHoldSurface, .objid, 1, false, true, .immediate, 0, .const 0, .clamp 0 4294967295⟩,
  ⟨pHeadStillCharge, .u64, 1, false, true, .immediate, 0, .const 0, .clamp 0 18446744073709551615⟩,
  ⟨pHeadUnderrunCount, .u32, 1, false, true, .immediate, 12, .const 0, .clamp 0 4294967295⟩,
  ⟨pHeadPrefetchApplied, .u8, 1, false, true, .immediate, 0, .const 8, .clamp 1 64⟩,
  ⟨pHeadSlices, .u16, 1, false, true, .immediate, 0, .const 0, .clamp 0 342⟩,
  ⟨pHeadLayers, .objid, 16, true, true, .immediate, 0, .const 0, .clamp 0 4294967295⟩,
  ⟨pHeadLoad, .u64, 3, true, true, .immediate, 0, .list [0, 0, 0], .clamp 0 18446744073709551615⟩]

/-- The property table of HEAD. -/
def propsHead : List PropRow := rowsHead0

def rowsGroup0 : List PropRow := [
  ⟨pGroupMembers, .u64, 256, true, false, .immediate, 12, .const 0, .special (0) 18446744073709551615⟩,
  ⟨pGroupMemberCount, .u16, 1, false, false, .immediate, 12, .const 0, .clamp 0 256⟩,
  ⟨pGroupReleaseLead, .u32, 1, false, false, .immediate, 12, .const 100, .clamp 74 1000000⟩]

/-- The property table of GROUP. -/
def propsGroup : List PropRow := rowsGroup0

def rowsPortIn0 : List PropRow := [
  ⟨pPortInKind, .enum, 1, false, false, .atRestart, 12, .const 0, .aboveAs 6 0⟩,
  ⟨pPortInLanes, .u8, 64, true, false, .atRestart, 12, .const 255, .special (0) 255⟩,
  ⟨pPortInLinks, .u8, 1, false, false, .atRestart, 12, .const 1, .special (1) 4⟩,
  ⟨pPortInLaneRate, .u32, 1, false, false, .atRestart, 12, .const 32000, .clamp 8000 32000⟩,
  ⟨pPortInEngines, .u8, 1, false, false, .atRestart, 12, .const 0, .special (0) 32⟩,
  ⟨pPortInEngineMap, .u8, 32, true, true, .immediate, 0, .const 255, .clamp 0 255⟩,
  ⟨pPortInRing, .objid, 1, false, false, .atRestart, 12, .const 0, .objOf [4]⟩,
  ⟨pPortInFormat, .enum, 1, false, false, .atRestart, 12, .const 0, .special (0) 65535⟩,
  ⟨pPortInGeometry, .u16, 2, true, false, .atRestart, 12, .list [1920, 1080], .clamp 1 32768⟩,
  ⟨pPortInRate, .u32, 2, true, false, .atRestart, 12, .list [24, 1], .special (1) 4294967295⟩,
  ⟨pPortInLinkLatency, .u32, 1, false, false, .immediate, 12, .const 0, .clamp 0 1000000⟩,
  ⟨pPortInPartialPolicy, .enum, 1, false, false, .immediate, 12, .const 0, .aboveAs 1 0⟩,
  ⟨pPortInLossTimeout, .u32, 1, false, false, .immediate, 12, .const 100000, .clamp 2 1000000⟩,
  ⟨pPortInState, .enum, 1, false, true, .immediate, 0, .const 0, .clamp 0 4⟩,
  ⟨pPortInMeasured, .u32, 4, true, true, .immediate, 0, .const 0, .clamp 0 4294967295⟩,
  ⟨pPortInFramePeriod, .u64, 1, false, true, .immediate, 0, .const 0, .clamp 0 18446744073709551615⟩,
  ⟨pPortInFrames, .u64, 1, false, true, .immediate, 12, .const 0, .clamp 0 18446744073709551615⟩,
  ⟨pPortInDropped, .u32, 1, false, true, .immediate, 12, .const 0, .clamp 0 4294967295⟩,
  ⟨pPortInHdrErrors, .u32, 1, false, true, .immediate, 12, .const 0, .clamp 0 4294967295⟩,
  ⟨pPortInStdCheckErrors, .u32, 4, true, true, .immediate, 12, .const 0, .clamp 0 4294967295⟩,
  ⟨pPortInTimecode, .u64, 1, false, true, .immediate, 0, .const 0, .clamp 0 18446744073709551615⟩,
  ⟨pPortInPathState, .u8, 2, true, true, .immediate, 0, .list [0, 0], .clamp 0 1⟩,
  ⟨pPortInAncRing, .objid, 1, false, false, .atRestart, 12, .const 0, .objOf [4]⟩,
  ⟨pPortInAncFilter, .u16, 16, true, false, .atRestart, 12, .const 0, .any⟩,
  ⟨pPortInParent, .objid, 2, true, false, .atRestart, 12, .list [0, 0], .special (0) 4294967295⟩,
  ⟨pPortInEthMode, .enum, 1, false, false, .atRestart, 12, .const 1, .clamp 0 3⟩,
  ⟨pPortInIpConfig, .u32, 5, true, false, .atRestart, 12, .const 0, .special (0) 4294967295⟩,
  ⟨pPortInFlow, .u32, 6, true, false, .atRestart, 12, .const 0, .special (0) 4294967295⟩,
  ⟨pPortInPathSkew, .u32, 1, false, false, .atRestart, 12, .const 10000, .clamp 0 150000⟩,
  ⟨pPortInRoiRect, .u16, 16, true, false, .immediate, 12, .const 0, .special (0) 32768⟩]

def rowsPortIn1 : List PropRow := [
  ⟨pPortInRoiStat, .u8, 4, true, false, .immediate, 12, .const 0, .aboveAs 4 0⟩,
  ⟨pPortInRoiPlane, .u8, 4, true, false, .immediate, 12, .const 0, .aboveAs 4 0⟩,
  ⟨pPortInRoiLevel, .u32, 4, true, false, .immediate, 12, .const 0, .clamp 0 16777215⟩,
  ⟨pPortInRoiThreshold, .u64, 4, true, false, .immediate, 12, .const 0, .any⟩,
  ⟨pPortInRoiHyst, .u64, 4, true, false, .immediate, 12, .const 0, .any⟩,
  ⟨pPortInRoiEdge, .u8, 4, true, false, .immediate, 12, .const 0, .clamp 0 2⟩,
  ⟨pPortInRoiTrigger, .objid, 4, true, false, .immediate, 12, .const 0, .objOf [16]⟩,
  ⟨pPortInRoiValue, .u64, 4, true, true, .immediate, 0, .const 0, .clamp 0 18446744073709551615⟩,
  ⟨pPortInAudioChannels, .u8, 1, false, false, .atRestart, 12, .const 0, .special (0) 64⟩,
  ⟨pPortInAudioFormat, .u8, 1, false, false, .atRestart, 12, .const 16, .special (0) 255⟩,
  ⟨pPortInAudioBase, .u16, 1, false, true, .immediate, 12, .const 65535, .clamp 0 65535⟩]

/-- The property table of PORT_IN. -/
def propsPortIn : List PropRow := rowsPortIn0 ++ rowsPortIn1

def rowsSurface0 : List PropRow := [
  ⟨pSurfaceFormat, .u16, 1, false, true, .immediate, 12, .const 0, .clamp 0 65535⟩,
  ⟨pSurfaceGeometry, .u32, 2, true, true, .immediate, 12, .const 0, .clamp 0 4294967295⟩,
  ⟨pSurfaceStride, .u32, 4, true, true, .immediate, 12, .const 0, .clamp 0 4294967295⟩,
  ⟨pSurfaceAddress, .u64, 8, true, true, .immediate, 12, .const 0, .clamp 0 18446744073709551615⟩,
  ⟨pSurfaceSize, .u64, 1, false, true, .immediate, 12, .const 0, .clamp 0 18446744073709551615⟩,
  ⟨pSurfaceState, .enum, 1, false, true, .immediate, 12, .const 0, .clamp 0 4⟩,
  ⟨pSurfaceLeases, .u16, 1, false, true, .immediate, 12, .const 0, .clamp 0 65535⟩,
  ⟨pSurfaceHostLeases, .u8, 1, false, true, .immediate, 12, .const 0, .clamp 0 255⟩,
  ⟨pSurfaceRing, .objid, 1, false, true, .immediate, 12, .const 0, .clamp 0 4294967295⟩,
  ⟨pSurfacePosition, .u32, 1, false, true, .immediate, 12, .const 0, .clamp 0 4294967295⟩,
  ⟨pSurfaceMtcMode, .enum, 1, false, false, .immediate, 12, .const 0, .aboveAs 2 0⟩,
  ⟨pSurfaceRecord, .u8, 64, true, true, .immediate, 12, .const 0, .clamp 0 255⟩,
  ⟨pSurfaceHostFrame, .u64, 1, false, false, .immediate, 12, .const 0, .clamp 0 18446744073709551614⟩]

/-- The property table of SURFACE. -/
def propsSurface : List PropRow := rowsSurface0

def rowsRing0 : List PropRow := [
  ⟨pRingLength, .u32, 1, false, true, .immediate, 12, .const 0, .clamp 2 1048576⟩,
  ⟨pRingFormat, .u16, 1, false, true, .immediate, 12, .const 0, .clamp 0 65535⟩,
  ⟨pRingGeometry, .u16, 2, true, true, .immediate, 12, .const 0, .clamp 0 65535⟩,
  ⟨pRingSurfaces, .objid, 1048576, true, true, .immediate, 12, .const 0, .clamp 0 4294967295⟩,
  ⟨pRingWriter, .objid, 1, false, true, .immediate, 12, .const 0, .clamp 0 4294967295⟩,
  ⟨pRingNewest, .u32, 1, false, true, .immediate, 12, .const 4294967295, .clamp 0 4294967295⟩,
  ⟨pRingNewestFrame, .u64, 1, false, true, .immediate, 12, .const 18446744073709551615, .clamp 0 18446744073709551615⟩,
  ⟨pRingOverruns, .u32, 1, false, true, .immediate, 12, .const 0, .clamp 0 4294967295⟩,
  ⟨pRingState, .enum, 1, false, true, .immediate, 12, .const 0, .clamp 0 1⟩,
  ⟨pRingMtcMode, .enum, 1, false, false, .immediate, 12, .const 0, .aboveAs 2 0⟩,
  ⟨pRingRecordPcs, .u8, 2, true, true, .immediate, 12, .const 0, .clamp 0 127⟩,
  ⟨pRingCaptureMode, .enum, 1, false, false, .immediate, 12, .const 0, .aboveAs 1 1⟩,
  ⟨pRingCapturePre, .u32, 1, false, false, .immediate, 12, .const 0, .special (0) 1048575⟩,
  ⟨pRingCapturePost, .u32, 1, false, false, .immediate, 12, .const 0, .special (1) 1048576⟩,
  ⟨pRingPostTimeout, .u32, 1, false, false, .immediate, 12, .const 0, .clamp 0 3600000⟩,
  ⟨pRingCepraKey, .objid, 1, false, false, .immediate, 12, .const 0, .objOf [17]⟩,
  ⟨pRingCaptureAudio, .u16, 2, true, false, .immediate, 12, .list [0, 0], .special (0) 1023⟩,
  ⟨pRingCaptureState, .enum, 1, false, true, .immediate, 12, .const 0, .clamp 0 3⟩,
  ⟨pRingCaptureHeld, .u32, 2, true, true, .immediate, 12, .list [0, 0], .clamp 0 4294967295⟩,
  ⟨pRingCaptureTrigger, .u64, 2, true, true, .immediate, 12, .list [0, 0], .clamp 0 18446744073709551615⟩,
  ⟨pRingCaptureIgnored, .u32, 1, false, true, .immediate, 12, .const 0, .clamp 0 4294967295⟩,
  ⟨pRingCepra, .u8, 512, true, true, .immediate, 12, .const 0, .clamp 0 255⟩,
  ⟨pRingAudioSurface, .objid, 1, false, true, .immediate, 12, .const 0, .clamp 0 4294967295⟩]

/-- The property table of RING. -/
def propsRing : List PropRow := rowsRing0

def rowsRoute0 : List PropRow := [
  ⟨pRouteHead, .objid, 1, false, false, .immediate, 12, .const 0, .objOf [7]⟩,
  ⟨pRouteSource, .objid, 1, false, false, .atHinge, 12, .const 0, .special (0) 4294967295⟩,
  ⟨pRouteStageKind, .u8, 4, true, false, .atHinge, 12, .const 0, .aboveAs 2 0⟩,
  ⟨pRouteStageUnits, .objid, 32, true, false, .atHinge, 12, .const 0, .objOf [8, 9]⟩,
  ⟨pRouteStageRings, .objid, 4, true, false, .atHinge, 12, .const 0, .special (0) 4294967295⟩,
  ⟨pRoutePreroll, .bool, 1, false, false, .atHinge, 12, .const 0, .flag⟩,
  ⟨pRouteState, .enum, 1, false, true, .immediate, 0, .const 0, .clamp 0 2⟩,
  ⟨pRouteOutput, .objid, 1, false, true, .immediate, 0, .const 0, .clamp 0 4294967295⟩,
  ⟨pRouteCharge, .u64, 1, false, true, .immediate, 0, .const 0, .clamp 0 18446744073709551615⟩,
  ⟨pRouteUnitLoad, .u64, 4, true, true, .immediate, 0, .const 0, .clamp 0 18446744073709551615⟩,
  ⟨pRouteSkipped, .u32, 1, false, true, .immediate, 12, .const 0, .clamp 0 4294967295⟩,
  ⟨pRoutePlay, .bool, 1, false, false, .atHinge, 12, .const 0, .flag⟩,
  ⟨pRoutePlayPos, .u32, 1, false, false, .atHinge, 12, .const 0, .special (0) 4294967295⟩,
  ⟨pRoutePlaySpeed, .s32, 2, true, false, .atHinge, 12, .list [1, 1], .special (-65535) 65535⟩,
  ⟨pRoutePlayEnd, .enum, 1, false, false, .atHinge, 12, .const 0, .aboveAs 1 0⟩,
  ⟨pRoutePlayCursor, .u32, 1, false, true, .immediate, 0, .const 0, .clamp 0 4294967295⟩]

/-- The property table of ROUTE. -/
def propsRoute : List PropRow := rowsRoute0

def rowsLayer0 : List PropRow := [
  ⟨pLayerHead, .objid, 1, false, false, .immediate, 12, .const 0, .objOf [7]⟩,
  ⟨pLayerRoute, .objid, 1, false, false, .atHinge, 12, .const 0, .special (0) 4294967295⟩,
  ⟨pLayerBackup, .objid, 1, false, false, .atHinge, 12, .const 0, .special (0) 4294967295⟩,
  ⟨pLayerSelect, .enum, 1, false, false, .atHinge, 12, .const 0, .aboveAs 2 0⟩,
  ⟨pLayerFailoverFrames, .u8, 1, false, false, .atHinge, 12, .const 3, .clamp 1 255⟩,
  ⟨pLayerRevertFrames, .u16, 1, false, false, .atHinge, 12, .const 0, .any⟩,
  ⟨pLayerHoldLimit, .u16, 1, false, false, .atHinge, 12, .const 8, .any⟩,
  ⟨pLayerFallbackColour, .u16, 4, true, false, .atHinge, 12, .list [0, 0, 0, 4095], .clamp 0 4095⟩,
  ⟨pLayerStaleReport, .u8, 1, false, false, .atHinge, 12, .const 2, .clamp 1 255⟩,
  ⟨pLayerStale, .bool, 1, false, true, .immediate, 0, .const 0, .clamp 0 1⟩,
  ⟨pLayerStaleCount, .u32, 1, false, true, .immediate, 12, .const 0, .clamp 0 4294967295⟩,
  ⟨pLayerStaleRun, .u16, 1, false, true, .immediate, 0, .const 0, .clamp 0 65535⟩,
  ⟨pLayerOnBackup, .bool, 1, false, true, .immediate, 12, .const 0, .clamp 0 1⟩,
  ⟨pLayerMissCount, .u8, 2, true, true, .immediate, 0, .list [0, 0], .clamp 0 255⟩,
  ⟨pLayerFrame, .u64, 2, true, true, .immediate, 0, .list [18446744073709551615, 0], .clamp 0 18446744073709551615⟩,
  ⟨pLayerFailovers, .u32, 1, false, true, .immediate, 12, .const 0, .clamp 0 4294967295⟩,
  ⟨pLayerZ, .u8, 1, false, false, .atHinge, 12, .const 0, .clamp 0 15⟩,
  ⟨pLayerVisible, .bool, 1, false, false, .atHinge, 12, .const 1, .flag⟩,
  ⟨pLayerSrcRect, .u16, 4, true, false, .atHinge, 12, .const 0, .any⟩,
  ⟨pLayerDest, .s16, 2, true, false, .atHinge, 12, .list [0, 0], .any⟩,
  ⟨pLayerAlphaMode, .enum, 1, false, false, .atHinge, 12, .const 0, .aboveAs 3 0⟩,
  ⟨pLayerGlobalAlpha, .u16, 1, false, false, .atHinge, 12, .const 4095, .clamp 0 4095⟩,
  ⟨pLayerChromaSiting, .u8, 1, false, false, .atHinge, 12, .const 2, .mask 3⟩,
  ⟨pLayerCovered, .bool, 1, false, true, .immediate, 0, .const 0, .clamp 0 1⟩,
  ⟨pLayerStarved, .bool, 1, false, true, .immediate, 0, .const 0, .clamp 0 1⟩,
  ⟨pLayerFetchBytes, .u64, 1, false, true, .immediate, 0, .const 0, .clamp 0 18446744073709551615⟩,
  ⟨pLayerUnderruns, .u32, 1, false, true, .immediate, 12, .const 0, .clamp 0 4294967295⟩]

/-- The property table of LAYER. -/
def propsLayer : List PropRow := rowsLayer0

def rowsShaper0 : List PropRow := [
  ⟨pShaperCrop, .u16, 4, true, false, .atHinge, 12, .const 0, .any⟩,
  ⟨pShaperFlip, .u8, 1, false, false, .atHinge, 12, .const 0, .mask 3⟩,
  ⟨pShaperCfaBlack, .u16, 4, true, false, .atHinge, 12, .const 0, .clamp 0 4095⟩,
  ⟨pShaperCfaGain, .u16, 4, true, false, .atHinge, 12, .const 4096, .any⟩,
  ⟨pShaperDemosaic, .enum, 1, false, false, .atHinge, 12, .const 2, .aboveAs 2 2⟩,
  ⟨pShaperCoefH, .s16, 1024, true, false, .atHinge, 12, .dyn, .special (-8192) 8191⟩,
  ⟨pShaperCoefV, .s16, 512, true, false, .atHinge, 12, .dyn, .special (-8192) 8191⟩,
  ⟨pShaperTapsV, .u8, 1, false, false, .atHinge, 12, .const 8, .special (2) 8⟩,
  ⟨pShaperTapsApplied, .u8, 1, false, true, .immediate, 0, .const 8, .clamp 2 8⟩,
  ⟨pShaperSlices, .u16, 1, false, true, .immediate, 0, .const 10, .clamp 10 26⟩,
  ⟨pShaperAids, .u8, 1, false, false, .atHinge, 12, .const 0, .mask 7⟩,
  ⟨pShaperAidLuma, .u16, 3, true, false, .atHinge, 12, .list [871, 2929, 296], .clamp 0 4096⟩,
  ⟨pShaperFcCount, .u8, 1, false, false, .atHinge, 12, .const 0, .clamp 0 16⟩,
  ⟨pShaperFcTable, .u16, 64, true, false, .atHinge, 12, .const 0, .clamp 0 4095⟩,
  ⟨pShaperZebra, .u16, 4, true, false, .atHinge, 12, .list [3891, 0, 0, 0], .clamp 0 4095⟩,
  ⟨pShaperPeak, .u16, 4, true, false, .atHinge, 12, .list [256, 4095, 0, 0], .clamp 0 4095⟩,
  ⟨pShaperRoute, .objid, 1, false, true, .immediate, 0, .const 0, .clamp 0 4294967295⟩,
  ⟨pShaperState, .enum, 1, false, true, .immediate, 0, .dyn, .clamp 0 3⟩,
  ⟨pShaperJobs, .u64, 1, false, true, .immediate, 12, .const 0, .clamp 0 18446744073709551615⟩,
  ⟨pShaperColourSteps, .u8, 1, false, false, .atHinge, 12, .const 0, .mask 31⟩,
  ⟨pShaperInEncoding, .enum, 1, false, false, .atHinge, 12, .const 1, .aboveAs 6 6⟩,
  ⟨pShaperOutEncoding, .enum, 1, false, false, .atHinge, 12, .const 1, .aboveAs 6 6⟩,
  ⟨pShaperInGamut, .enum, 1, false, false, .atHinge, 12, .const 0, .aboveAs 4 4⟩,
  ⟨pShaperOutGamut, .enum, 1, false, false, .atHinge, 12, .const 0, .aboveAs 4 4⟩,
  ⟨pShaperInRange, .enum, 1, false, false, .atHinge, 12, .const 0, .aboveAs 1 1⟩,
  ⟨pShaperOutRange, .enum, 1, false, false, .atHinge, 12, .const 0, .aboveAs 1 1⟩,
  ⟨pShaperInYcc, .enum, 1, false, false, .atHinge, 12, .const 0, .aboveAs 1 1⟩,
  ⟨pShaperOutYcc, .enum, 1, false, false, .atHinge, 12, .const 0, .aboveAs 1 1⟩,
  ⟨pShaperPreLut, .u32, 1025, true, false, .atHinge, 12, .dyn, .any⟩,
  ⟨pShaperPostLut, .u16, 3329, true, false, .atHinge, 12, .dyn, .clamp 0 65535⟩]

def rowsShaper1 : List PropRow := [
  ⟨pShaperGamutMatrix, .s32, 9, true, false, .atHinge, 12, .list [65536, 0, 0, 0, 65536, 0, 0, 0, 65536], .clamp (-524288) 524287⟩,
  ⟨pShaperLut3d, .u16, 107811, true, false, .atHinge, 12, .dyn, .clamp 0 65535⟩,
  ⟨pShaperToneMode, .enum, 1, false, false, .atHinge, 12, .const 0, .aboveAs 4 0⟩,
  ⟨pShaperToneBasis, .enum, 1, false, false, .atHinge, 12, .const 0, .aboveAs 1 0⟩,
  ⟨pShaperToneLuma, .u16, 3, true, false, .atHinge, 12, .list [17216, 44434, 3886], .clamp 0 65535⟩,
  ⟨pShaperToneTarget, .u32, 1, false, false, .atHinge, 12, .const 1048576, .clamp 65536 4294967295⟩,
  ⟨pShaperToneKnee, .u32, 1, false, false, .atHinge, 12, .const 629146, .special (0) 4294967294⟩,
  ⟨pShaperToneSrcPeak, .u32, 1, false, false, .atHinge, 12, .const 10485760, .any⟩,
  ⟨pShaperToneMeasure, .bool, 1, false, false, .atHinge, 12, .const 0, .flag⟩,
  ⟨pShaperTonePct, .u16, 1, false, false, .atHinge, 12, .const 999, .clamp 500 1000⟩,
  ⟨pShaperToneSpeed, .u16, 1, false, false, .atHinge, 12, .const 64, .clamp 1 256⟩,
  ⟨pShaperToneTable, .u16, 3329, true, false, .atHinge, 12, .const 4096, .any⟩,
  ⟨pShaperHlgPeak, .u16, 1, false, false, .atHinge, 12, .const 1000, .clamp 400 4000⟩,
  ⟨pShaperSdrWhite, .u16, 1, false, false, .atHinge, 12, .const 100, .clamp 48 1000⟩,
  ⟨pShaperLinearPeak, .u32, 1, false, false, .atHinge, 12, .const 1048576, .clamp 16384 4294967295⟩,
  ⟨pShaperInChromaSiting, .u8, 1, false, false, .atHinge, 12, .const 2, .mask 3⟩,
  ⟨pShaperOutChromaSiting, .u8, 1, false, false, .atHinge, 12, .const 2, .mask 3⟩,
  ⟨pShaperToneMeasured, .u32, 1, false, true, .immediate, 0, .const 0, .clamp 0 4294967295⟩,
  ⟨pShaperToneApplied, .u32, 1, false, true, .immediate, 0, .const 0, .clamp 0 4294967295⟩,
  ⟨pShaperClipCounts, .u32, 2, true, true, .immediate, 0, .list [0, 0], .clamp 0 4294967295⟩]

/-- The property table of SHAPER. -/
def propsShaper : List PropRow := rowsShaper0 ++ rowsShaper1

def rowsTconv0 : List PropRow := [
  ⟨pTconvMode, .enum, 1, false, false, .atHinge, 12, .const 0, .aboveAs 5 0⟩,
  ⟨pTconvDelay, .u32, 1, false, false, .atHinge, 12, .const 4294967295, .special (0) 4294967295⟩,
  ⟨pTconvAccPositions, .u16, 1, false, false, .atHinge, 12, .const 2, .clamp 2 256⟩,
  ⟨pTconvAccWeights, .u16, 256, true, false, .atHinge, 12, .const 1, .special (0) 65535⟩,
  ⟨pTconvHoldSamples, .u16, 1, false, false, .atHinge, 12, .const 64, .clamp 1 1024⟩,
  ⟨pTconvMcRange, .u8, 1, false, false, .atHinge, 12, .const 128, .clamp 8 128⟩,
  ⟨pTconvMcSadLimit, .u16, 1, false, false, .atHinge, 12, .const 256, .clamp 0 4095⟩,
  ⟨pTconvMcCut, .u16, 1, false, false, .atHinge, 12, .const 500, .clamp 0 1000⟩,
  ⟨pTconvAccNorm, .u16, 256, true, true, .immediate, 0, .list [2048, 2048], .clamp 0 65535⟩,
  ⟨pTconvAccSurface, .objid, 1, false, true, .immediate, 0, .const 0, .clamp 0 4294967295⟩,
  ⟨pTconvDelayApplied, .u32, 1, false, true, .immediate, 0, .const 0, .clamp 0 4000000000⟩,
  ⟨pTconvGuard, .u32, 1, false, true, .immediate, 0, .const 0, .clamp 0 4294967295⟩,
  ⟨pTconvInputPeriod, .u64, 1, false, true, .immediate, 0, .const 0, .clamp 0 18446744073709551615⟩,
  ⟨pTconvLastOut, .u64, 2, true, true, .immediate, 0, .list [0, 0], .clamp 0 18446744073709551615⟩,
  ⟨pTconvLastInputs, .u64, 3, true, true, .immediate, 0, .list [0, 0, 0], .clamp 0 18446744073709551615⟩,
  ⟨pTconvLateInputs, .u32, 1, false, true, .immediate, 12, .const 0, .clamp 0 4294967295⟩,
  ⟨pTconvMissedInputs, .u32, 1, false, true, .immediate, 12, .const 0, .clamp 0 4294967295⟩,
  ⟨pTconvMcFallbacks, .u32, 2, true, true, .immediate, 12, .list [0, 0], .clamp 0 4294967295⟩,
  ⟨pTconvCoverage, .u16, 1, false, true, .immediate, 0, .const 0, .clamp 0 1000⟩,
  ⟨pTconvRoute, .objid, 1, false, true, .immediate, 0, .const 0, .clamp 0 4294967295⟩,
  ⟨pTconvState, .enum, 1, false, true, .immediate, 0, .dyn, .clamp 0 3⟩,
  ⟨pTconvJobs, .u64, 1, false, true, .immediate, 12, .const 0, .clamp 0 18446744073709551615⟩]

/-- The property table of TCONV. -/
def propsTconv : List PropRow := rowsTconv0

def rowsPortOut0 : List PropRow := [
  ⟨pPortOutKind, .enum, 1, false, false, .atRestart, 12, .const 0, .aboveAs 5 0⟩,
  ⟨pPortOutHead, .objid, 1, false, false, .atRestart, 12, .const 0, .objOf [7]⟩,
  ⟨pPortOutLanes, .u8, 4, true, false, .atRestart, 12, .const 255, .special (0) 255⟩,
  ⟨pPortOutEngines, .u8, 1, false, false, .atRestart, 12, .const 0, .clamp 0 8⟩,
  ⟨pPortOutEngineMap, .u8, 8, true, true, .immediate, 0, .const 255, .clamp 0 255⟩,
  ⟨pPortOutParent, .objid, 2, true, false, .atRestart, 12, .list [0, 0], .special (0) 4294967295⟩,
  ⟨pPortOutSdiStd, .enum, 1, false, false, .atRestart, 12, .const 4, .clamp 0 5⟩,
  ⟨pPortOutSampling, .enum, 1, false, false, .atRestart, 12, .const 0, .special (0) 9⟩,
  ⟨pPortOutPsf, .bool, 1, false, false, .atRestart, 12, .const 0, .flag⟩,
  ⟨pPortOutChromaSiting, .u8, 1, false, false, .atRestart, 12, .const 0, .mask 1⟩,
  ⟨pPortOutAncRing, .objid, 1, false, false, .immediate, 12, .const 0, .special (0) 4294967295⟩,
  ⟨pPortOutTimecode, .enum, 1, false, false, .immediate, 12, .const 0, .aboveAs 1 0⟩,
  ⟨pPortOutTcOffset, .s32, 1, false, false, .immediate, 12, .const 0, .clamp (-86400) 86400⟩,
  ⟨pPortOutFlow, .u32, 4, true, false, .atRestart, 12, .const 0, .special (0) 4294967295⟩,
  ⟨pPortOutSenderType, .enum, 1, false, false, .atRestart, 12, .const 0, .aboveAs 2 0⟩,
  ⟨pPortOutPacketSize, .u16, 1, false, false, .atRestart, 12, .const 1460, .clamp 576 8960⟩,
  ⟨pPortOutDpMax, .u8, 1, false, false, .atRestart, 12, .const 36, .special (0) 255⟩,
  ⟨pPortOutPanelReplay, .bool, 1, false, false, .immediate, 12, .const 1, .flag⟩,
  ⟨pPortOutAux, .u8, 1, false, false, .atRestart, 12, .const 0, .clamp 0 15⟩,
  ⟨pPortOutState, .enum, 1, false, true, .immediate, 0, .const 0, .clamp 0 5⟩,
  ⟨pPortOutDpLink, .u8, 2, true, true, .immediate, 0, .list [0, 255], .clamp 0 255⟩,
  ⟨pPortOutPrState, .enum, 1, false, true, .immediate, 0, .const 0, .clamp 0 2⟩,
  ⟨pPortOutTro, .u32, 1, false, true, .immediate, 0, .const 0, .clamp 0 4294967295⟩,
  ⟨pPortOutAncSkipped, .u32, 1, false, true, .immediate, 12, .const 0, .clamp 0 4294967295⟩,
  ⟨pPortOutFrames, .u64, 1, false, true, .immediate, 12, .const 0, .clamp 0 18446744073709551615⟩,
  ⟨pPortOutAudioChannels, .u8, 1, false, false, .atRestart, 12, .const 0, .special (0) 64⟩,
  ⟨pPortOutAudioFormat, .u8, 1, false, false, .atRestart, 12, .const 16, .special (0) 255⟩,
  ⟨pPortOutAudioBase, .u16, 1, false, true, .immediate, 12, .const 65535, .clamp 0 65535⟩]

/-- The property table of PORT_OUT. -/
def propsPortOut : List PropRow := rowsPortOut0

def rowsAudioPort0 : List PropRow := [
  ⟨pAudioPortSlots, .u8, 1, false, false, .atRestart, 12, .const 8, .clamp 1 32⟩,
  ⟨pAudioPortSlotBits, .u8, 1, false, false, .atRestart, 12, .const 32, .clamp 8 32⟩,
  ⟨pAudioPortWordBits, .u8, 1, false, false, .atRestart, 12, .const 24, .special (8) 32⟩,
  ⟨pAudioPortOffset, .u8, 1, false, false, .atRestart, 12, .const 0, .special (0) 31⟩,
  ⟨pAudioPortFsync, .u8, 1, false, false, .atRestart, 12, .const 2, .mask 7⟩,
  ⟨pAudioPortGroup, .enum, 1, false, false, .atRestart, 12, .const 0, .aboveAs 2 0⟩,
  ⟨pAudioPortRxMask, .u32, 1, false, false, .atRestart, 12, .const 0, .special (0) 4294967295⟩,
  ⟨pAudioPortTxMask, .u32, 1, false, false, .atRestart, 12, .const 0, .special (0) 4294967295⟩,
  ⟨pAudioPortTxIdle, .enum, 1, false, false, .atRestart, 12, .const 0, .aboveAs 1 0⟩,
  ⟨pAudioPortRxBase, .u16, 1, false, true, .immediate, 12, .const 65535, .clamp 0 65535⟩,
  ⟨pAudioPortTxBase, .u16, 1, false, true, .immediate, 12, .const 65535, .clamp 0 65535⟩,
  ⟨pAudioPortState, .enum, 1, false, true, .immediate, 0, .const 0, .clamp 0 4⟩,
  ⟨pAudioPortRate, .u64, 1, false, true, .immediate, 0, .const 0, .clamp 0 18446744073709551615⟩,
  ⟨pAudioPortRateClass, .u8, 1, false, true, .immediate, 0, .const 0, .clamp 0 255⟩,
  ⟨pAudioPortBclkPeriod, .u32, 1, false, true, .immediate, 0, .const 0, .clamp 0 4294967295⟩,
  ⟨pAudioPortGlitches, .u32, 1, false, true, .immediate, 12, .const 0, .clamp 0 4294967295⟩,
  ⟨pAudioPortFramingErrors, .u32, 1, false, true, .immediate, 12, .const 0, .clamp 0 4294967295⟩]

/-- The property table of AUDIO_PORT. -/
def propsAudioPort : List PropRow := rowsAudioPort0

def rowsAudioCh0 : List PropRow := [
  ⟨pAudioChSource, .u16, 1, false, false, .atHinge, 12, .const 65535, .aboveAs 1023 65535⟩,
  ⟨pAudioChDest, .u16, 1, false, false, .atHinge, 12, .const 65535, .aboveAs 1023 65535⟩,
  ⟨pAudioChRoute, .objid, 1, false, false, .immediate, 12, .const 0, .objOf [5]⟩,
  ⟨pAudioChEnable, .bool, 1, false, false, .atHinge, 12, .const 1, .flag⟩,
  ⟨pAudioChAsrc, .enum, 1, false, false, .atHinge, 12, .const 0, .aboveAs 2 0⟩,
  ⟨pAudioChDelay, .u32, 1, false, false, .atHinge, 12, .const 0, .clamp 0 10000000⟩,
  ⟨pAudioChState, .enum, 1, false, true, .immediate, 0, .const 0, .clamp 0 7⟩,
  ⟨pAudioChAsrcRatio, .u64, 1, false, true, .immediate, 0, .const 0, .clamp 0 18446744073709551615⟩,
  ⟨pAudioChLatency, .u32, 1, false, true, .immediate, 0, .const 0, .clamp 0 4294967295⟩,
  ⟨pAudioChUnderruns, .u32, 1, false, true, .immediate, 12, .const 0, .clamp 0 4294967295⟩,
  ⟨pAudioChSlips, .u32, 1, false, true, .immediate, 12, .const 0, .clamp 0 4294967295⟩,
  ⟨pAudioChFades, .u32, 1, false, true, .immediate, 12, .const 0, .clamp 0 4294967295⟩]

/-- The property table of AUDIO_CH. -/
def propsAudioCh : List PropRow := rowsAudioCh0

def rowsTrigger0 : List PropRow := [
  ⟨pTriggerPin, .u8, 1, false, false, .immediate, 12, .dyn, .aboveAs 7 255⟩,
  ⟨pTriggerEdge, .enum, 1, false, false, .immediate, 12, .const 0, .clamp 0 2⟩,
  ⟨pTriggerFilter, .u32, 1, false, false, .immediate, 12, .const 0, .clamp 0 1000000⟩,
  ⟨pTriggerHoldoff, .u32, 1, false, false, .immediate, 12, .const 0, .clamp 0 10000000⟩,
  ⟨pTriggerDelay, .s32, 1, false, false, .immediate, 12, .const 0, .clamp (-1000000000) 1000000000⟩,
  ⟨pTriggerTargets, .objid, 8, true, false, .immediate, 12, .const 0, .objOf [4]⟩,
  ⟨pTriggerEnable, .bool, 1, false, false, .immediate, 12, .const 1, .flag⟩,
  ⟨pTriggerLast, .u64, 2, true, true, .immediate, 0, .list [0, 0], .clamp 0 18446744073709551615⟩,
  ⟨pTriggerCount, .u32, 1, false, true, .immediate, 12, .const 0, .clamp 0 4294967295⟩,
  ⟨pTriggerIgnored, .u32, 1, false, true, .immediate, 12, .const 0, .clamp 0 4294967295⟩]

/-- The property table of TRIGGER. -/
def propsTrigger : List PropRow := rowsTrigger0

def rowsRef0 : List PropRow := [
  ⟨pRefKind, .enum, 1, false, false, .atRestart, 12, .const 0, .special (0) 7⟩,
  ⟨pRefFreq, .u64, 1, false, false, .atRestart, 12, .const 10000000000, .clamp 1000000 100000000000⟩,
  ⟨pRefPort, .objid, 1, false, false, .atRestart, 12, .const 0, .special (0) 4294967295⟩,
  ⟨pRefPtpDomain, .u8, 1, false, false, .atRestart, 12, .const 127, .clamp 0 127⟩,
  ⟨pRefPtpMode, .enum, 1, false, false, .atRestart, 12, .const 0, .aboveAs 1 0⟩,
  ⟨pRefEnable, .bool, 1, false, false, .immediate, 12, .const 1, .flag⟩,
  ⟨pRefRank, .u8, 1, false, false, .immediate, 12, .const 8, .clamp 0 15⟩,
  ⟨pRefQualTime, .u16, 1, false, false, .immediate, 12, .const 10, .clamp 1 600⟩,
  ⟨pRefLimitPpm, .u32, 1, false, false, .immediate, 12, .const 2000, .clamp 10 100000⟩,
  ⟨pRefPhaseLimit, .u32, 1, false, false, .immediate, 12, .const 1000, .clamp 10 1000000⟩,
  ⟨pRefDelay, .s32, 1, false, false, .immediate, 12, .const 0, .clamp (-1000000) 1000000⟩,
  ⟨pRefTraceable, .bool, 1, false, false, .immediate, 12, .const 0, .flag⟩,
  ⟨pRefState, .enum, 1, false, true, .immediate, 0, .const 0, .clamp 0 4⟩,
  ⟨pRefPhaseError, .s64, 1, false, true, .immediate, 0, .const 0, .clamp (-9223372036854775808) 9223372036854775807⟩,
  ⟨pRefFreqOffset, .s32, 2, true, true, .immediate, 0, .list [0, 0], .clamp (-2147483648) 2147483647⟩,
  ⟨pRefDetected, .u32, 2, true, true, .immediate, 0, .list [0, 0], .clamp 0 4294967295⟩,
  ⟨pRefQualLeft, .u16, 1, false, true, .immediate, 0, .const 0, .clamp 0 65535⟩]

/-- The property table of REF. -/
def propsRef : List PropRow := rowsRef0

def rowsCadence0 : List PropRow := [
  ⟨pCadenceRate, .u32, 2, true, false, .immediate, 12, .list [24, 1], .special (1) 4294967295⟩,
  ⟨pCadenceOffset, .s32, 1, false, false, .immediate, 12, .const 0, .special (-1000000000) 1000000000⟩,
  ⟨pCadencePeriod, .u64, 1, false, true, .immediate, 0, .const 2730666666666, .clamp 0 18446744073709551615⟩,
  ⟨pCadenceNextPulse, .u64, 2, true, true, .immediate, 0, .const 0, .clamp 0 18446744073709551615⟩,
  ⟨pCadenceUsers, .u8, 1, false, true, .immediate, 0, .const 0, .clamp 0 255⟩]

/-- The property table of CADENCE. -/
def propsCadence : List PropRow := rowsCadence0

def rowsKeyslot0 : List PropRow := [
  ⟨pKeyslotPolicy, .enum, 1, false, true, .immediate, 0, .dyn, .clamp 0 5⟩,
  ⟨pKeyslotPublic, .u8, 97, true, true, .immediate, 0, .const 0, .clamp 0 255⟩,
  ⟨pKeyslotKeyId, .u8, 48, true, true, .immediate, 0, .const 0, .clamp 0 255⟩,
  ⟨pKeyslotCert, .u8, 2048, true, true, .immediate, 0, .const 0, .clamp 0 255⟩,
  ⟨pKeyslotDerive, .u8, 33, true, false, .immediate, 28, .const 0, .any⟩,
  ⟨pKeyslotLastQuote, .u8, 512, true, true, .immediate, 0, .const 0, .clamp 0 255⟩]

/-- The property table of KEYSLOT. -/
def propsKeyslot : List PropRow := rowsKeyslot0

def rowsChain0 : List PropRow := [
  ⟨pChainDrivers, .u8, 1, false, false, .atRestart, 12, .const 0, .clamp 0 64⟩,
  ⟨pChainSck, .u32, 1, false, false, .atRestart, 12, .const 25000, .clamp 1000 50000⟩,
  ⟨pChainSource, .objid, 1, false, false, .atRestart, 12, .const 0, .special (0) 4294967295⟩,
  ⟨pChainPwmDivLog2, .u8, 1, false, false, .atHinge, 12, .const 0, .clamp 0 7⟩,
  ⟨pChainBinTrim, .u8, 256, true, false, .atHinge, 12, .const 255, .clamp 0 255⟩,
  ⟨pChainExposurePort, .objid, 1, false, false, .immediate, 12, .const 0, .special (0) 4294967295⟩,
  ⟨pChainDiagPeriod, .u16, 1, false, false, .immediate, 12, .const 64, .clamp 1 65535⟩,
  ⟨pChainShortConfirm, .u8, 1, false, false, .immediate, 12, .const 3, .clamp 1 16⟩,
  ⟨pChainDerateKnee, .s16, 1, false, false, .immediate, 12, .const 85, .clamp 25 125⟩,
  ⟨pChainDerateRate, .u8, 1, false, false, .immediate, 12, .const 2, .clamp 0 50⟩,
  ⟨pChainState, .enum, 1, false, true, .immediate, 0, .const 0, .clamp 0 2⟩,
  ⟨pChainFound, .u8, 1, false, true, .immediate, 0, .const 0, .clamp 0 64⟩,
  ⟨pChainLatchEvery, .u16, 1, false, true, .immediate, 0, .const 0, .clamp 0 65535⟩,
  ⟨pChainTemps, .s16, 64, true, true, .immediate, 0, .const 0, .clamp (-32768) 32767⟩,
  ⟨pChainCrcErrors, .u32, 2, true, true, .immediate, 12, .list [0, 0], .clamp 0 4294967295⟩]

/-- The property table of CHAIN. -/
def propsChain : List PropRow := rowsChain0

def rowsLamp0 : List PropRow := [
  ⟨pLampDuty, .u16, 1, false, false, .atHinge, 12, .const 0, .clamp 0 65535⟩,
  ⟨pLampPhase, .u8, 1, false, false, .atHinge, 12, .dyn, .clamp 0 255⟩,
  ⟨pLampBin, .u8, 1, false, false, .atHinge, 12, .const 0, .clamp 0 255⟩,
  ⟨pLampClass, .enum, 1, false, false, .atHinge, 12, .const 0, .aboveAs 1 0⟩,
  ⟨pLampGroup, .u8, 1, false, false, .atHinge, 12, .const 0, .any⟩,
  ⟨pLampState, .enum, 1, false, true, .immediate, 0, .const 0, .clamp 0 5⟩,
  ⟨pLampTrimApplied, .u8, 1, false, true, .immediate, 0, .const 255, .clamp 0 255⟩,
  ⟨pLampDiagPulses, .u32, 1, false, true, .immediate, 12, .const 0, .clamp 0 4294967295⟩]

/-- The property table of LAMP. -/
def propsLamp : List PropRow := rowsLamp0

/-- The property table of a class. -/
def propTable : Nat → List PropRow
  | 1 => propsPortIn
  | 2 => propsPortOut
  | 3 => propsSurface
  | 4 => propsRing
  | 5 => propsRoute
  | 6 => propsLayer
  | 7 => propsHead
  | 8 => propsShaper
  | 9 => propsTconv
  | 10 => propsAudioPort
  | 11 => propsAudioCh
  | 12 => propsRef
  | 13 => propsCadence
  | 14 => propsChain
  | 15 => propsLamp
  | 16 => propsTrigger
  | 17 => propsKeyslot
  | 18 => propsGroup
  | 19 => propsSystem
  | _ => []

end Sys2Proof.Machine
end

