-- ==== Sys2Proof/Machine/PropRules.lean ====
section
/-! DEFINITION. Object classes, the rows and the defaults of properties (Tables 2.9 and 2.14 and the property tables). -/

namespace Sys2Proof.Machine

/-! ### Object IDs (Table 2.9) -/

abbrev clsPortIn : Nat := 1
abbrev clsPortOut : Nat := 2
abbrev clsSurface : Nat := 3
abbrev clsRing : Nat := 4
abbrev clsRoute : Nat := 5
abbrev clsLayer : Nat := 6
abbrev clsHead : Nat := 7
abbrev clsShaper : Nat := 8
abbrev clsTconv : Nat := 9
abbrev clsAudioPort : Nat := 10
abbrev clsAudioCh : Nat := 11
abbrev clsRef : Nat := 12
abbrev clsCadence : Nat := 13
abbrev clsChain : Nat := 14
abbrev clsLamp : Nat := 15
abbrev clsTrigger : Nat := 16
abbrev clsKeyslot : Nat := 17
abbrev clsGroup : Nat := 18
abbrev clsSystem : Nat := 19

/-- The object ID of an instance of a class. -/
def objId (cls inst : Nat) : ObjId := cls * 0x1000000 + inst % 0x1000000

/-- The class of an object ID: bits 31:24. -/
def objCls (o : ObjId) : Nat := o / 0x1000000

/-- The instance of an object ID: bits 23:0. -/
def objInst (o : ObjId) : Nat := o % 0x1000000

/-- The one SYSTEM object. -/
def sysObj : ObjId := objId clsSystem 0

/-- How many fixed objects a class has; they exist from reset and are never created or destroyed. -/
def fixedCount : Nat → Nat
  | 1 => 128
  | 2 => 128
  | 7 => 24
  | 8 => 34
  | 9 => 13
  | 10 => 8
  | 12 => 17
  | 13 => 16
  | 14 => 8
  | 15 => 0x3000
  | 16 => 32
  | 17 => 32
  | 19 => 1
  | _ => 0

/-! ### Rows and defaults -/

/-- The row of a property of an object's class. -/
def propRow (cls pid : Nat) : Option PropRow := (propTable cls).find? fun r => r.pid == pid

/-- The key under which an element of a property is kept. -/
def propKey (o : ObjId) (pid idx : Nat) : Nat := (o * 0x10000 + pid) * 0x1000000 + idx

def keyObj (k : Nat) : ObjId := k / 0x10000000000
def keyPid (k : Nat) : Nat := k / 0x1000000 % 0x10000
def keyIdx (k : Nat) : Nat := k % 0x1000000

/-- Table 16.2: the default bank masks of a stack. -/
def bankMaskDefault (k : Nat) : Int :=
  match k % 4 with
  | 0 => 0x00444400
  | 1 => 0x00888800
  | 2 => 0x01111000
  | _ => 0x02222000

/-- R347: the physical pseudo-channel of a logical one at first power-on. -/
def pcMapDefault (l : Nat) : Nat := 32 * (l % 4) + l / 4

/-- The spare pseudo-channels of Table 16.1: those that the default map does not use. -/
def pcIsSpare (p : Nat) : Bool := decide (30 ≤ p % 32)

/-- R171: the default coefficients of a shaper axis with `taps` taps, 64 phases: linear interpolation. -/
def coefDefault (taps i : Nat) : Int :=
  let p := i / taps
  let t := i % taps
  if t + 1 = taps / 2 then ((64 - p) * 64 : Nat) else if t = taps / 2 then (p * 64 : Nat) else 0

/-- The linear value at a log index (R189). -/
def logValue (i : Nat) : Nat := if i < 256 then i else (128 + i % 128) * 2 ^ (i / 128 - 1)

/-- The LINEAR entries with P = 1.0 of the two 1D LUTs, and the identity of the 3D LUT (R188, R189, R196). -/
def preLutDefault (n : Nat) : Nat := (2 * 1048576 * min (64 * n) 65520 + 65520) / (2 * 65520)
def postLutDefault (i : Nat) : Nat := min ((2 * 65520 * logValue i + 1048576) / (2 * 1048576)) 65520
def lut3dDefault (i : Nat) : Nat :=
  let node := i / 3
  let n := if i % 3 = 0 then node % 33 else if i % 3 = 1 then node / 33 % 33 else node / 1089
  (2 * 65535 * n + 32) / 64

/-- The units that are free spares at first power-on, by their place in `system.spare_map` (R12). -/
def spareAtStart (i : Nat) : Bool := [32, 33, 46, 71, 72].contains i || decide (201 ≤ i ∧ i ≤ 216)

/-- The default of an element whose default differs between objects or elements. -/
def dynDefault (o : ObjId) (pid idx : Nat) : Int :=
  let n := objInst o
  match objCls o with
  | 8 =>
    if pid = pShaperCoefH then coefDefault 16 idx
    else if pid = pShaperCoefV then coefDefault 8 idx
    else if pid = pShaperState then (if 32 ≤ n then 2 else 0)
    else if pid = pShaperPreLut then preLutDefault idx
    else if pid = pShaperPostLut then postLutDefault idx
    else if pid = pShaperLut3d then lut3dDefault idx
    else 0
  | 9 => if pid = pTconvState then (if n = 12 then 2 else 0) else 0
  | 15 => if pid = pLampPhase then ((256 * (n % 24)) / 24 : Nat) else 0
  | 17 => if pid = pKeyslotPolicy then ([1, 1, 2, 3, 0, 5, 4].getD n 0 : Nat) else 0
  | 16 => if pid = pTriggerPin then (if n < 8 then n else 255) else 0
  | 19 =>
    if pid = pSystemMbPolicy then (if idx = 0 then 0xFF else 0x0F)
    else if pid = pSystemLaneCore then idx
    else if pid = pSystemCoreState then (if idx < 96 then 0 else 1)
    else if pid = pSystemFsBankMasks then bankMaskDefault idx
    else if pid = pSystemFsPcMap then pcMapDefault idx
    else if pid = pSystemFsPcState then (if pcIsSpare idx then 1 else 0)
    else if pid = pSystemSpareMap then (if spareAtStart idx then 1 else 0)
    else if pid = pSystemCcQos then ([12, 8, 6, 6, 10, 4, 2, 14].getD idx 0 : Nat)
    else 0
  | _ => 0

/-- The default of an element of a property. -/
def propDefault (o : ObjId) (pid idx : Nat) : Int :=
  match propRow (objCls o) pid with
  | none => 0
  | some r =>
    match r.dflt with
    | .const v => v
    | .list vs => atD vs idx 0
    | .dyn => dynDefault o pid idx

end Sys2Proof.Machine
end

