-- ==== Sys2Proof/Machine/Ops.lean ====
section
/-! DEFINITION. The shared operations: time, properties, objects, MSI-X, event rings, completions and free values. -/

namespace Sys2Proof.Machine

/-! ### Time -/

/-- Ticks of 2⁻¹⁶ ns in one nanosecond, microsecond, millisecond and second. -/
abbrev nsT : Nat := 65536
abbrev usT : Nat := 65536000
abbrev msT : Nat := 65536000000
abbrev secT : Nat := 65536000000000

/-- The instant at which a command reaches the block: the timebase never runs backwards. -/
def tickTo (t : Ticks) (s : State) : State := { s with now := max s.now t }

/-- An instant as the device stamps it: a resolution of 250 ps (R83, R300). -/
def stampOf (t : Ticks) : Ticks := t / 16384 * 16384

/-- Whole seconds of an instant. -/
def secOf (t : Ticks) : Nat := t / secT

/-- Whole nanoseconds within the second. -/
def nsOf (t : Ticks) : Nat := t % secT / nsT

/-- Element 1 of a time property: nanoseconds in bits 45:16, the fraction in bits 15:0 (Table 3.1). -/
def nsFracOf (t : Ticks) : Nat := t % secT

/-- The instant of a pair encoded as `head.hinge_time`. -/
def timeOfPair (sec nsf : Nat) : Ticks := sec * secT + min nsf (secT - 1)

/-- Seconds in 6 bytes and nanoseconds in 4 (Tables 2.15, 3.4, 3.7). -/
def timeBytes (t : Ticks) : List Byte := toLe 6 (secOf t) ++ toLe 4 (nsOf t)

/-! ### Free values -/

/-- A value that the spec leaves open: the next free value, and the state that has used it. -/
def freshValue (s : State) : Nat × State := (Config.freeValue s.free, { s with free := s.free + 1 })

/-! ### Objects and properties -/

/-- Whether an object exists (R35). -/
def objExists (s : State) (o : ObjId) : Bool :=
  decide (objInst o < fixedCount (objCls o)) || s.objs.contains o

/-- Whether an ID names an existing object of one of the classes. -/
def isObjOf (s : State) (cs : List Nat) (o : ObjId) : Bool := cs.contains (objCls o) && objExists s o

/-- The stored value of an element of a property. -/
def getProp (s : State) (o : ObjId) (pid : Nat) (idx : Nat := 0) : Int :=
  (mapGet s.props (propKey o pid idx)).getD (propDefault o pid idx)

/-- The same as a natural number. -/
def getPropN (s : State) (o : ObjId) (pid : Nat) (idx : Nat := 0) : Nat := (getProp s o pid idx).toNat

/-- Put a value into a property map: a default is not listed. -/
def putDelta (m : Map Int) (o : ObjId) (pid idx : Nat) (v : Int) : Map Int :=
  if v = propDefault o pid idx then mapDel m (propKey o pid idx) else mapPut m (propKey o pid idx) v

/-- Set an element of a property. -/
def setProp (s : State) (o : ObjId) (pid idx : Nat) (v : Int) : State :=
  { s with props := putDelta s.props o pid idx v }

/-- Set elements from an index on. -/
def setProps (s : State) (o : ObjId) (pid : Nat) : Nat → List Int → State
  | _, [] => s
  | i, v :: vs => setProps (setProp s o pid i v) o pid (i + 1) vs

/-- Elements of a property from an index on. -/
def getProps (s : State) (o : ObjId) (pid idx : Nat) : Nat → List Int
  | 0 => []
  | n + 1 => getProp s o pid idx :: getProps s o pid (idx + 1) n

/-- The elements of a whole array property. -/
def getPropsN (s : State) (o : ObjId) (pid n : Nat) : List Nat := (getProps s o pid 0 n).map Int.toNat

/-- Count up a saturating property. -/
def bumpProp (s : State) (o : ObjId) (pid : Nat) (idx : Nat := 0) (d : Nat := 1) : State :=
  setProp s o pid idx (satInc (getProp s o pid idx) d)

/-- Count up a property that wraps at 2⁶⁴. -/
def wrapProp (s : State) (o : ObjId) (pid : Nat) : State :=
  setProp s o pid 0 ((getProp s o pid + 1) % (2 ^ 64 : Nat))

/-- Set a pair of elements to an instant (as `head.hinge_time`). -/
def setTimeProp (s : State) (o : ObjId) (pid : Nat) (t : Ticks) : State :=
  setProp (setProp s o pid 0 (secOf t)) o pid 1 (nsFracOf t)

/-- Remove every entry of an object from a property map. -/
def dropObj (m : Map Int) (o : ObjId) : Map Int := m.filter fun e => decide (keyObj e.1 ≠ o)

/-- Insert an object ID in ascending order. -/
def insertId (o : ObjId) : List ObjId → List ObjId
  | [] => [o]
  | x :: xs => if o < x then o :: x :: xs else if o = x then x :: xs else x :: insertId o xs

/-- The objects of a class in ascending instance order (R42). -/
def objsOf (s : State) (cls : Nat) : List ObjId :=
  (List.range (fixedCount cls)).map (objId cls) ++ s.objs.filter fun o => objCls o == cls

/-- From a number on, the first of `len` numbers in a row, cyclically below 0xFF_FFFF, that no existing object of a class has;
0xFF_FFFF itself stands for a new object. Each attempt looks past the last number in use, so there are no more than objects. -/
def freeNumbers (s : State) (cls len : Nat) : Nat → Nat → Nat
  | 0, n => n
  | k + 1, n =>
    let used := s.objs.filterMap fun o =>
      let d := (objInst o + 0xFFFFFF - n) % 0xFFFFFF
      if objCls o = cls ∧ d < len then some d else none
    if used.isEmpty then n else freeNumbers s cls len k ((n + used.foldl max 0 + 1) % 0xFFFFFF)

/-- The first of `len` new instance numbers of a class (R35). They start at 0, also after a reset that removes the class's
objects (DESIGN CHOICE, log entry 171). -/
def newNumbers (s : State) (cls len : Nat) : Nat := freeNumbers s cls len s.objs.length (mapGetD s.nextInst cls 0)

/-- A new object of a class: firmware takes the next instance number that is not in use (R35). -/
def newObj (s : State) (cls : Nat) : ObjId × State :=
  let n := newNumbers s cls 1
  let o := objId cls n
  (o, { s with nextInst := mapPut s.nextInst cls ((n + 1) % 0xFFFFFF), objs := insertId o s.objs })

/-- Remove an object with its properties and its OBJECT subscription (R40). -/
def dropObject (s : State) (o : ObjId) : State :=
  { s with
    objs := s.objs.filter fun x => decide (x ≠ o)
    props := dropObj s.props o
    stored := dropObj s.stored o
    objSubs := mapDel s.objSubs o }

/-! ### Output and MSI-X -/

/-- Something leaves the block: nothing does while a boundary-scan instruction holds the balls (R381). -/
def emit (s : State) (o : Output) : State := { s with out := if s.power.taken then s.out else (s.now, o) :: s.out }

/-- Signal an MSI-X vector (R27, R50): sent, or kept pending while masked, or nothing while MSI-X is disabled. -/
def signalVector (s : State) (v : Nat) : State :=
  if !s.hif.msixEnabled then s
  else if s.functionMask || bitOf s.msixMask v then
    { s with hif := { s.hif with msixPending := setBit s.hif.msixPending v true } }
  else emit s (.msix v)

/-- Send the messages of pending vectors that are no longer masked. -/
def flushMsix : List Nat → State → State
  | [], s => s
  | v :: vs, s =>
    if s.hif.msixEnabled && !s.functionMask && !bitOf s.msixMask v && bitOf s.hif.msixPending v then
      flushMsix vs (emit { s with hif := { s.hif with msixPending := setBit s.hif.msixPending v false } } (.msix v))
    else flushMsix vs s

/-- Change HIF_STATUS: any change of bits 3:0 signals vector 20 (R27). -/
def setHif (s : State) (f : Hif → Hif) : State :=
  let h := f s.hif
  let s' := { s with hif := h }
  if hifLow h = hifLow s.hif then s' else signalVector s' 20

/-! ### Event rings -/

def mbReset : Mailbox := ⟨0, 0, 0, 0, 1, []⟩
def evReset : EvRing := ⟨0, 0, 0, 0, false, none, 0, false⟩

def mbOf (s : State) (n : Nat) : Mailbox := mapGetD s.mbs n mbReset
def evOf (s : State) (n : Nat) : EvRing := mapGetD s.evs n evReset
def setMb (s : State) (n : Nat) (m : Mailbox) : State := { s with mbs := mapPut s.mbs n m }
def setEv (s : State) (n : Nat) (e : EvRing) : State := { s with evs := mapPut s.evs n e }

/-- Where the rings lie in BAR0 (Table 2.1). -/
def reqSlotAddr (mb : Nat) (c : Nat) : Nat := 0x100000 + mb * 0x1000 + c % 32 * 64
def cplSlotAddr (mb : Nat) (c : Nat) : Nat := 0x100800 + mb * 0x1000 + c % 32 * 64
def evEntryAddr (r : Nat) (c : Nat) : Nat := 0x200000 + r * 0x8000 + c % 1024 * 32

/-- Every event enabled. -/
def allEvents : Nat := 2 ^ 256 - 1

/-- The subscription that governs an event (R40). -/
def subFor (s : State) (code : Nat) (o : ObjId) : Subscription :=
  let cls := code / 256
  let o := if cls = clsSystem then sysObj else o
  match mapGet s.objSubs o with
  | some x => x
  | none => mapGetD s.classSubs cls ⟨0, allEvents⟩

/-- Whether an event is enabled; the command interface's own cannot be disabled (R40). -/
def eventEnabled (sub : Subscription) (code : Nat) : Bool :=
  bitOf sub.mask (code % 256) || decide (0x1301 ≤ code ∧ code ≤ 0x1304)

/-- An event entry (Table 2.15). -/
def eventEntry (code : Nat) (lost : Bool) (o : ObjId) (t : Ticks) (seq arg : Nat) : List Byte :=
  let body := toLe 2 code ++ toLe 1 (eventFlags lost) ++ toLe 1 0 ++ toLe 4 o ++ timeBytes t ++ toLe 2 seq ++ toLe 8 arg
  body ++ toLe 4 (crc32c body)

/-- A ring signals at once, or owes a signal at the end of the holdoff (R470). -/
def ringSignal (s : State) (r : Nat) : State :=
  let e := evOf s r
  let due : Bool := match e.lastSignal with
    | none => true
    | some l => decide (l + e.window * usT ≤ s.now)
  if due then
    signalVector (setEv s r { e with lastSignal := some s.now, window := e.holdoff, owed := false }) (16 + r)
  else setEv s r { e with owed := true }

/-- Pair A is being recovered: what it would write waits (R367). -/
def recoveringA (s : State) : Bool := match s.cc.recovering with | some (false, _) => true | _ => false

/-- Firmware runs: it has started, and the pairs are not both stopped (R368, R377). -/
def firmwareRuns (s : State) : Bool := s.cc.stage == 4 && !s.cc.stopped

/-- Write an event into the ring that its subscription names, or drop and count it (R40, R49). -/
def writeEvent (s : State) (at' : Ticks) (code : Nat) (o : ObjId) (arg : Nat) : State :=
  let sub := subFor s code o
  if !eventEnabled sub code then s
  else
    -- the events that bracket a handover go to ring 0 (R55)
    let r := if code = 0x1302 ∨ code = 0x1303 then 0 else sub.ring
    let e := evOf s r
    if (e.tail - e.head).toNat = 1024 then
      setEv s r { e with lost := min (e.lost + 1) 0xFFFFFFFF, lostFlag := true }
    else
      let entry := eventEntry code e.lostFlag o at' e.tail.toNat arg
      ringSignal
        (setEv { s with bar0 := memWrite s.bar0 (evEntryAddr r e.tail.toNat) entry } r
          { e with tail := e.tail + 1, lostFlag := false }) r

/-- An event arises: firmware writes it, or writes it after a recovery of pair A with the time at which it arose. -/
def postEvent (s : State) (code : Nat) (o : ObjId) (arg : Nat) : State :=
  if !firmwareRuns s then s
  else if recoveringA s then { s with heldEvents := s.heldEvents ++ [⟨s.now, code, o, arg⟩] }
  else writeEvent s s.now code o arg

/-! ### Requests -/

def reqOpcode (r : Request) : Nat := fieldAt r.slot 0 2
def reqFlags (r : Request) : Nat := fieldAt r.slot 2 1
def reqTag (r : Request) : Nat := fieldAt r.slot 4 2
def reqSeq (r : Request) : Nat := fieldAt r.slot 6 2
def reqObj (r : Request) : Nat := fieldAt r.slot 8 4
def reqPid (r : Request) : Nat := fieldAt r.slot 12 2
def reqCount (r : Request) : Nat := fieldAt r.slot 14 2
def reqNoIrq (r : Request) : Bool := bitOf (reqFlags r) 3
def reqStaged (r : Request) : Bool := bitOf (reqFlags r) 2
def reqFence (r : Request) : Bool := bitOf (reqFlags r) 1
def reqIndirect (r : Request) : Bool := bitOf (reqFlags r) 0

/-- The payload bytes used: payload_len clamped to 44 (Table 2.5). -/
def reqPayloadLen (r : Request) : Nat := min (fieldAt r.slot 3 1) 44

/-- The payload of a direct request: bytes beyond payload_len read zero. -/
def reqPayload (r : Request) : List Byte := padTo 44 ((r.slot.drop 16).take (reqPayloadLen r))

/-- Fields of the indirect descriptor (Table 2.8, R33). -/
def reqSrcAddr (r : Request) : Nat := fieldAt r.slot 16 8 / 4 * 4
def reqSrcCrc (r : Request) : Nat := fieldAt r.slot 28 4
def reqDstAddr (r : Request) : Nat := fieldAt r.slot 32 8 / 4 * 4
def reqDstLen (r : Request) : Nat := min (fieldAt r.slot 40 4) 0x100000

/-- src_len as applied: 4 to 1 MiB, or to 4 MiB for VX_FW_UPDATE (R33). -/
def reqSrcLen (r : Request) : Nat :=
  clampNat 4 (if reqOpcode r = 0x0070 then 0x400000 else 0x100000) (fieldAt r.slot 24 4)

/-- Status codes (Table 2.12). -/
abbrev stOk : Nat := 0
abbrev stBadCheck : Nat := 1
abbrev stUnknown : Nat := 2
abbrev stNoObject : Nat := 3
abbrev stNotAdmitted : Nat := 4
abbrev stDenied : Nat := 5
abbrev stBusy : Nat := 6
abbrev stAbandoned : Nat := 7

/-- A completion that carries a status alone. -/
def cplStatus (st : Nat) : Cpl := { status := st }

/-- A completion slot (Table 2.6). -/
def cplSlot (r : Request) (c : Cpl) (payload : List Byte) (used : Nat) (indirect : Bool) : List Byte :=
  let body :=
    toLe 2 (reqOpcode r) ++ toLe 1 c.status ++
    toLe 1 (cplFlags used indirect c.pend) ++
    toLe 2 (reqTag r) ++ toLe 2 r.cnt ++ toLe 4 (c.object.getD (reqObj r)) ++ toLe 2 (reqPid r) ++
    toLe 2 (c.count.getD 0) ++ padTo 44 payload
  body ++ toLe 4 (crc32c body)

/-- Whether results of this request go to a result buffer (Table 2.8: an address of 0 is none). -/
def toBuffer (r : Request) : Bool := reqIndirect r && decide (reqDstAddr r ≠ 0)

/-- Write a completion (R30, R33): results to the buffer first, then the slot, the count and the vector. -/
def writeCompletion (s : State) (r : Request) (c : Cpl) : State :=
  let buffered : Option (List Byte) := if toBuffer r then c.results.map (·.take (reqDstLen r)) else none
  let s := match buffered with
    | some bs => emit s (.hostWrite (reqDstAddr r) bs)
    | none => s
  let payload := match buffered with
    | some bs => toLe 4 bs.length ++ toLe 4 (crc32c bs) ++ c.payload
    | none => c.payload
  let m := mbOf s r.mb
  let slot := cplSlot r c payload payload.length buffered.isSome
  let s := setMb { s with bar0 := memWrite s.bar0 (cplSlotAddr r.mb m.cplTail.toNat) slot } r.mb
    { m with cplTail := m.cplTail + 1 }
  if m.control.getLsbD 0 && !reqNoIrq r then signalVector s r.mb else s

/-- A completion: firmware posts it, or the recovered pair A does (R367); no request completes once both pairs have
stopped (R45). -/
def postCompletion (s : State) (r : Request) (c : Cpl) : State :=
  if !firmwareRuns s then s
  else if recoveringA s then { s with heldCpls := s.heldCpls ++ [(r, c)] }
  else writeCompletion s r c

/-- The flight of a request. -/
def flightOf (s : State) (mb cnt : Nat) : Option Flight :=
  s.flights.find? fun f => f.req.mb == mb && f.req.cnt == cnt

/-- Remove the flight of a request; DMA reads that it still awaits are discarded when they arrive (R52). -/
def endFlight (s : State) (r : Request) : State :=
  let mine := s.dma.filter fun d => d.mb == r.mb && d.cnt == r.cnt
  { s with
    flights := s.flights.filter fun f => !(f.req.mb == r.mb && f.req.cnt == r.cnt)
    dma := s.dma.filter fun d => !(d.mb == r.mb && d.cnt == r.cnt)
    dmaDead := s.dmaDead ++ mine.map (·.tag)
    dmaQueue := s.dmaQueue.filter fun w => !(w.req.mb == r.mb && w.req.cnt == r.cnt) }

/-- Complete a request that is in flight, once. -/
def completeFlight (s : State) (f : Flight) (c : Cpl) : State := postCompletion (endFlight s f.req) f.req c

/-- Complete a request whether or not it has a flight. -/
def complete (s : State) (r : Request) (c : Cpl) : State := postCompletion (endFlight s r) r c

/-- The deadline of the immediate and long classes, and a hinge-class request of no head (R45). -/
def immediateDeadline : Ticks := 100 * usT
def longDeadline : Ticks := 10 * secT
def noHeadDeadline : Ticks := msT

/-- A request begins to wait. -/
def addFlight (s : State) (f : Flight) : State := { s with flights := s.flights ++ [f] }

/-- Count a late discard (R52). -/
def lateDiscard (s : State) : State := bumpProp s sysObj pSystemLateDiscards

/-- The next free PCIe tag of 512 (Table 2.17): one that no late completion may still carry, where there is one. -/
def freeTag (s : State) : Option Nat :=
  let ts := (List.range 512).map fun k => (s.nextTag + k) % 512
  let free (t : Nat) : Bool := s.dma.all (·.tag != t) && !s.dmaDead.contains t
  (ts.find? fun t => free t && !s.dmaLate.contains t).or (ts.find? free)

/-- Issue a DMA read for an indirect payload (R471), or let it wait for a free tag (R51). -/
def issueDma (s : State) (r : Request) (budgetEnd : Ticks) : State :=
  match freeTag s with
  | none => { s with dmaQueue := s.dmaQueue ++ [⟨r, budgetEnd⟩] }
  | some tag =>
    emit { s with
      nextTag := (tag + 1) % 512
      dmaLate := s.dmaLate.erase tag
      dma := s.dma ++ [⟨tag, r.mb, r.cnt, reqSrcAddr r, reqSrcLen r, reqSrcCrc r, budgetEnd⟩] }
      (.dmaRead tag (reqSrcAddr r) (reqSrcLen r))

/-- Reads that wait are issued while a tag is free (R51). -/
def pumpDma : Nat → State → State
  | 0, s => s
  | n + 1, s =>
    match s.dmaQueue, freeTag s with
    | w :: ws, some _ => pumpDma n (issueDma { s with dmaQueue := ws } w.req w.budgetEnd)
    | _, _ => s

end Sys2Proof.Machine
end

