-- ==== Sys2Proof/Machine/HlSend.lean ====
section
/-! DEFINITION. Hinge Link messages as they are sent, routing in the tree, and the reports of commit groups
(R72, R74, R336 to R343). -/

namespace Sys2Proof.Machine

/-! ### Links and the tree -/

def hl0 : HlLink := ⟨0, 0, [], [], none, 0, [], none, 0, 0, 0, none, 0, 0, none, 0, false, 0, 0, false, none⟩
def hlOf (s : State) (n : Nat) : HlLink := mapGetD s.hls n hl0
def setHl (s : State) (n : Nat) (h : HlLink) : State := { s with hls := mapPut s.hls n h }

/-- The state of a link (Table 15.4) and of this device in its domain (Table 15.1). -/
def hlState (s : State) (n : Nat) : Nat := getPropN s sysObj pSystemHlState n
def ownNumber (s : State) : Nat := getPropN s sysObj pSystemHlDomain 0
def ownDepth (s : State) : Nat := getPropN s sysObj pSystemHlDomain 1
def domainState (s : State) : Nat := getPropN s sysObj pSystemHlDomain 3
def actsAsRoot (s : State) : Bool := [0, 3, 4].contains (domainState s)

/-- The entries of `system.hl_map`. -/
def mapEntry (s : State) (n : Nat) : Nat := getPropN s sysObj pSystemHlMap n
def mapPresent (e : Nat) : Bool := bitOf e 3
def mapDepth (e : Nat) : Nat := bitsOf e 2 0
def mapParent (e : Nat) : Nat := bitsOf e 12 4
def mapLink (e : Nat) : Nat := bitsOf e 15 13

/-- The downward link of this device whose subtree holds a device: a climb of at most six parents. -/
def climb (s : State) (own : Nat) : Nat → Nat → Option Nat
  | 0, _ => none
  | k + 1, d =>
    let e := mapEntry s d
    if !mapPresent e || d == own then none
    else if mapDepth e ≤ ownDepth s then none
    else if mapParent e = own then some (mapLink e)
    else climb s own k (mapParent e)

def linkTo (s : State) (d : Nat) : Option Nat := climb s (ownNumber s) 7 d

/-! ### Messages (Table 15.2) -/

/-- The words of a message. -/
def hlWords (typ seq ack : Nat) (payload : List Nat) : List Nat :=
  let ws := (payload.length * 65536 + typ * 256 + 0xA7) :: (ack * 65536 + seq) :: payload
  ws ++ [crc32c (wordBytes ws)]

/-- Send an unsequenced message. -/
def hlSend (s : State) (n typ : Nat) (payload : List Nat) : State :=
  emit s (.hlMessage n (hlWords typ 0 (hlOf s n).rxSeq payload))

/-- A time in the 16-byte form of Table 13.4, as words: seconds in bytes 0 to 5, nanoseconds in 6 to 9, fraction in 10
and 11. -/
def timeWords (t : Ticks) : List Nat :=
  let sec := secOf t
  let ns := nsOf t
  [sec % 2 ^ 32, sec / 2 ^ 32 % 65536 + ns % 65536 * 65536, ns / 65536 + t % 65536 * 65536, 0]
def timeOfWords (ws : List Nat) : Ticks :=
  let ns := min (atD ws 1 0 / 65536 + atD ws 2 0 % 16384 * 65536) 999999999
  (atD ws 0 0 + atD ws 1 0 % 65536 * 2 ^ 32) * secT + ns * 65536 + atD ws 2 0 / 65536 % 65536

/-- The retransmission budget of a message (R338). -/
def hlBudget (s : State) (typ : Nat) (payload : List Nat) : Ticks :=
  let b := getPropN s sysObj pSystemHlRetryBudget * usT
  if typ = 0x30 ∨ typ = 0x31 then
    min b ((timeOfWords (payload.drop 1) - timeOfWords (payload.drop 5)) / 4)
  else b

/-- Send a sequenced message, or stall at the window of 64 (R337); a link that is not UP carries nothing. -/
def hlSendSeq (s : State) (n typ : Nat) (payload : List Nat) : State :=
  let h := hlOf s n
  if hlState s n ≠ 3 then s
  else if 64 ≤ h.window.length then
    setHl s n { h with stalled := h.stalled ++ [(typ, payload, s.now)] }
  else
    let m : HlSent := ⟨h.txSeq, typ, payload, none, hlBudget s typ payload, s.now⟩
    let s := setHl s n { h with txSeq := (h.txSeq + 1) % 65536, window := h.window ++ [m] }
    emit s (.hlMessage n (hlWords typ m.seq h.rxSeq payload))

/-- Acknowledge up to a sequence number, and send what was stalled. -/
def hlDrain : Nat → State → Nat → State
  | 0, s, _ => s
  | k + 1, s, n =>
    let h := hlOf s n
    match h.stalled with
    | [] => s
    | m :: ms => if 64 ≤ h.window.length then s else hlDrain k (hlSendSeq (setHl s n { h with stalled := ms }) n m.1 m.2.1) n

def hlAck (s : State) (n ack : Nat) : State :=
  let h := hlOf s n
  let done (m : HlSent) : Bool := decide ((ack + 65536 - m.seq) % 65536 - 1 < 32768) && decide (ack % 65536 ≠ m.seq)
  hlDrain 64 (setHl s n { h with window := h.window.dropWhile done }) n

/-- Split a list into pieces of at most `n`, by fuel; an empty list is one empty piece. -/
def pieces {α : Type} (n : Nat) : Nat → List α → List (List α)
  | 0, l => [l]
  | k + 1, l => if l.length ≤ n then [l] else l.take n :: pieces n k (l.drop n)

/-- Send content in fragments (R342): `pre` before the fragment word of every fragment. -/
def hlFragments (s : State) (n typ : Nat) (pre : List Nat) (per : Nat) (items : List (List Nat)) : State :=
  let ps := pieces per 512 items
  ps.zipIdx.foldl (fun s p =>
    let last := if p.2 + 1 = ps.length then 0x8000 else 0
    hlSendSeq s n typ (pre ++ [p.2 + last] ++ p.1.flatten)) s

/-! ### Commit groups (R74) -/

def memberDevice (e : Nat) : Nat := bitsOf e 47 32
def memberObject (e : Nat) : ObjId := bitsOf e 31 0

def groupOf (s : State) (gid : Nat) : Option GroupRun := s.groups.find? fun g => g.gid == gid
def setGroup (s : State) (g : GroupRun) : State :=
  { s with groups := s.groups.map fun x => if x.gid = g.gid then g else x }
def dropGroup (s : State) (gid : Nat) : State := { s with groups := s.groups.filter fun x => decide (x.gid ≠ gid) }

/-- Whether an outcome says that the member applied the commit. -/
def outcomeApplied (o : Nat) : Bool := decide (o ≤ 3)

/-- The 16-byte result records of Table 3.8. -/
def groupRecord (m : GroupMember) : List Byte :=
  toLe 8 m.entry ++ toLe 1 (m.outcome.getD 6) ++ toLe 3 0 ++ toLe 4 m.hinge

def groupRecordWords (m : GroupMember) : List Nat :=
  [m.entry % 2 ^ 32, m.entry / 2 ^ 32 % 2 ^ 32, m.outcome.getD 6, m.hinge % 2 ^ 32]

/-- The payload of Table 3.7. -/
def groupPayload (g : GroupRun) : List Byte :=
  let n (p : Nat → Bool) : Nat := (g.members.filter fun m => p (m.outcome.getD 6)).length
  let last := (g.members.filterMap fun m => if outcomeApplied (m.outcome.getD 6) then m.at' else none).foldl max 0
  timeBytes g.release ++ toLe 2 g.members.length ++ toLe 2 (n fun o => o == 0 || o == 3) ++ toLe 2 (n (· == 1)) ++
    toLe 2 (n (· == 2)) ++ toLe 2 (n fun o => o == 4 || o == 5 || o == 6) ++ timeBytes last

/-- Complete a group commit on the device that received the request (R74). -/
def completeGroup (s : State) (g : GroupRun) : State :=
  let s := dropGroup s g.gid
  match g.req with
  | none => s
  | some r =>
    let ok := g.members.any fun m => outcomeApplied (m.outcome.getD 6)
    complete s r { status := if ok then stOk else stAbandoned, payload := groupPayload g
                   results := some (g.members.flatMap groupRecord) }

/-- Complete it once every member has reported. -/
def checkGroup (s : State) (gid : Nat) : State :=
  match groupOf s gid with
  | some g => if g.origin && g.members.all (fun m => m.outcome.isSome) then completeGroup s g else s
  | none => s

/-- The link toward the originator of a group. -/
def linkToOrigin (s : State) (gid : Nat) : Nat := (linkTo s (gid / 65536)).getD 0

/-- Send reports toward the originator, at most 62 to a fragment. -/
def sendReports (s : State) (gid : Nat) (ms : List GroupMember) : State :=
  if ms.isEmpty then s else hlFragments s (linkToOrigin s gid) 0x32 [gid] 62 (ms.map groupRecordWords)

/-- Record the outcome of a member; a report after the completion is discarded (R343). -/
def recordOutcome (s : State) (gid entry outcome hinge : Nat) (at' : Option Ticks) : State :=
  match groupOf s gid with
  | none => lateDiscard s
  | some g =>
    setGroup s { g with members := g.members.map fun m =>
      if m.entry = entry ∧ m.outcome.isNone then { m with outcome := some outcome, hinge := hinge % 2 ^ 32, at' := at' } else m }

/-- Forget a group that this device only carries, once all its members have reported. -/
def settleGroup (s : State) (gid : Nat) : State :=
  match groupOf s gid with
  | some g => if !g.origin && g.members.all (fun m => m.outcome.isSome) then dropGroup s gid else s
  | none => s

/-- A head of this device reports its outcome (R74). -/
def reportOutcome (s : State) (gid : Nat) (head : ObjId) (outcome hinge : Nat) (at' : Option Ticks) : State :=
  match groupOf s gid with
  | none => s
  | some g =>
    match g.members.find? fun m => m.via.isNone && memberObject m.entry == head && m.outcome.isNone with
    | none => s
    | some m =>
      let s := recordOutcome s gid m.entry outcome hinge at'
      if g.origin then checkGroup s gid
      else settleGroup (sendReports s gid [{ m with outcome := some outcome, hinge := hinge % 2 ^ 32 }]) gid

end Sys2Proof.Machine
end

