-- ==== Sys2Proof/Machine/Formats.lean ====
section
/-! DEFINITION. Surface formats, geometry, planes, strides and sizes (R105 to R110). -/

namespace Sys2Proof.Machine

/-- The base format of a code: bits 13:0. -/
def fmtBase (c : Nat) : Nat := c % 0x4000

/-- The layout of a code: 0 linear, 1 tiled, 2 MTC-compressed. -/
def fmtLayout (c : Nat) : Nat := c / 0x4000

/-- The bases of Table 5.1 that take the layouts _T and _C. -/
def fmtTileBases : List Nat :=
  [0x10, 0x11, 0x12, 0x13, 0x14, 0x20, 0x21, 0x22, 0x30, 0x31, 0x32, 0x33, 0x34, 0x35]

/-- The other bases of Table 5.1, but for NONE. -/
def fmtLinearBases : List Nat := [0x01, 0x23, 0x40, 0x41, 0x42, 0x43, 0x44, 0x50]

/-- Whether a code is defined (R107); NONE is 0. -/
def fmtDefined (c : Nat) : Bool :=
  c == 0 ||
  (decide (fmtLayout c ≤ 2) && fmtTileBases.contains (fmtBase c)) ||
  (fmtLayout c == 0 && fmtLinearBases.contains (fmtBase c))

/-- An undefined code is applied as NONE (R107). -/
def fmtApply (c : Nat) : Nat := if fmtDefined c then c else 0

def fmtIsCfa (c : Nat) : Bool := decide (0x11 ≤ fmtBase c ∧ fmtBase c ≤ 0x14)
def fmtIs420 (c : Nat) : Bool := fmtBase c == 0x31 || fmtBase c == 0x33
def fmtIs422 (c : Nat) : Bool := [0x23, 0x30, 0x32, 0x43].contains (fmtBase c)
def fmtIs24 (c : Nat) : Bool := decide (0x40 ≤ fmtBase c ∧ fmtBase c ≤ 0x44)

/-- Whether a format's colour is YCbCr rather than RGB. -/
def fmtIsYcc (c : Nat) : Bool := [0x21, 0x23, 0x30, 0x31, 0x32, 0x33, 0x34, 0x42, 0x43].contains (fmtBase c)

/-- Whether a format carries alpha. -/
def fmtHasAlpha (c : Nat) : Bool := fmtBase c == 0x22 || fmtBase c == 0x44

/-- The geometry as applied (R108). -/
def fmtGeometry (c w h : Nat) : Nat × Nat :=
  let w := if fmtBase c = 0x01 then clampNat 1 1048512 w else clampNat 1 32768 w
  let w := if fmtBase c = 0x50 ∧ 64 < w then 64 else w
  let h := clampNat 1 32768 h
  let w := if (fmtIsCfa c || fmtIs422 c || fmtIs420 c) && w % 2 == 1 then w + 1 else w
  let h := if (fmtIsCfa c || fmtIs420 c) && h % 2 == 1 then h + 1 else h
  (w, h)

/-- The linear planes of a base: native words per line, and lines (Table 5.1). BYTES counts in bytes. -/
def fmtLinearPlanes (c w h : Nat) : List (Nat × Nat) :=
  match fmtBase c with
  | 0x01 => [(w, h)]
  | 0x10 | 0x11 | 0x12 | 0x13 | 0x14 => [(w, h)]
  | 0x20 | 0x21 => [(3 * w, h)]
  | 0x22 => [(4 * w, h)]
  | 0x23 => [(2 * w, h)]
  | 0x30 => [(w, h), (w, h)]
  | 0x31 => [(w, h), (w, h / 2)]
  | 0x32 => [(w, h), (w / 2, h), (w / 2, h)]
  | 0x33 => [(w, h), (w / 2, h / 2), (w / 2, h / 2)]
  | 0x34 | 0x35 => [(w, h), (w, h), (w, h)]
  | 0x40 => [(2 * w, h)]
  | 0x41 | 0x42 => [(6 * w, h)]
  | 0x43 => [(4 * w, h)]
  | 0x44 => [(8 * w, h)]
  | 0x50 => [(2 * w, h)]
  | _ => []

/-- The values of `port_in.roi_plane` that have a meaning for a format: CFA sites, or planes 0 to 2 (R102). -/
def fmtRoiPlanes (c : Nat) : Nat := if fmtIsCfa c then 4 else min 3 (fmtLinearPlanes c 16 16).length

/-- The planes of a tiled or compressed layout: every component is its own plane (R110). -/
def fmtTiledPlanes (c w h : Nat) : List (Nat × Nat) :=
  match fmtBase c with
  | 0x20 | 0x21 => [(w, h), (w, h), (w, h)]
  | 0x22 => [(w, h), (w, h), (w, h), (w, h)]
  | _ => fmtLinearPlanes c w h

/-- The planes of a surface of a format code. -/
def fmtPlanes (c w h : Nat) : List (Nat × Nat) :=
  if fmtLayout c = 0 then fmtLinearPlanes c w h else fmtTiledPlanes c w h

/-- Bytes of a linear plane line: native words are 12 bits, BYTES are bytes. -/
def fmtLineBytes (c words : Nat) : Nat := if fmtBase c = 0x01 then words else ceilDiv (words * 12) 8

/-- The stored bytes of one frame, without stride padding: the figure that charges use. -/
def fmtFrameBytes (c w h : Nat) : Nat :=
  ((fmtLinearPlanes c w h).map fun p => fmtLineBytes c p.1 * p.2).sum

/-- The native words of one frame, all planes. -/
def fmtFrameWords (c w h : Nat) : Nat := ((fmtLinearPlanes c w h).map fun p => p.1 * p.2).sum

/-- One plane of an allocated surface: its words per line, lines, stride, offset from the surface's base, and the
offset of its metadata plane (0 without one). -/
structure Plane where
  words : Nat
  lines : Nat
  stride : Nat
  off : Nat
  metaOff : Nat
deriving DecidableEq, Repr

/-- Tiles per row of a plane of `words` words (R110). -/
def tilesPerRow (words : Nat) : Nat := ceilDiv words 32

/-- The largest stride (R109). -/
def maxStride : Nat := 1048512

/-- The stride of a plane of a linear surface from the stride requested for plane 0: scaled by the ratio of their minimum strides,
and rounded up to 192 bytes (R109). -/
def strideApplied (min0 mn req : Nat) : Nat := min maxStride (roundUp (ceilDiv (max req min0 * mn) min0) 192)

/-- Linear planes laid one after another from an offset (R109). -/
def layLinear (c req min0 : Nat) : Nat → List (Nat × Nat) → List Plane × Nat
  | off, [] => ([], off)
  | off, (w, h) :: ps =>
    let mn := roundUp (fmtLineBytes c w) 192
    let st := strideApplied min0 mn req
    let rest := layLinear c req min0 (off + roundUp (st * h) 4096) ps
    (⟨w, h, st, off, 0⟩ :: rest.1, rest.2)

/-- Tiled planes laid one after another, each _C plane with its metadata plane (R110). -/
def layTiled (compressed : Bool) : Nat → List (Nat × Nat) → List Plane × Nat
  | off, [] => ([], off)
  | off, (w, h) :: ps =>
    let tpr := tilesPerRow w
    let rows := ceilDiv h 8
    let next := off + roundUp (tpr * 384 * rows) 4096
    let after := if compressed then next + roundUp (2 * tpr * rows) 4096 else next
    let rest := layTiled compressed after ps
    (⟨w, h, tpr * 384, off, if compressed then next else 0⟩ :: rest.1, rest.2)

/-- The planes and the size of a surface (R109, R110). -/
def surfaceLayout (c w h reqStride : Nat) : List Plane × Nat :=
  match fmtPlanes c w h with
  | [] => ([], 0)
  | (w0, h0) :: ps =>
    if fmtLayout c = 0 then
      let min0 := roundUp (fmtLineBytes c w0) 192
      layLinear c reqStride min0 0 ((w0, h0) :: ps)
    else layTiled (fmtLayout c == 2) 0 ((w0, h0) :: ps)

/-- The bytes charged for one read or write of a frame (R132): a RATIO_2 surface costs half, RATIO_3 a third, and a
_C surface its metadata, bytes ÷ 192, besides. -/
def fmtChargeBytes (c w h mtc : Nat) : Nat :=
  let b := fmtFrameBytes c w h
  if fmtLayout c = 2 then
    (match mtc with | 1 => ceilDiv b 2 | 2 => ceilDiv b 3 | _ => b) + ceilDiv b 192
  else b

end Sys2Proof.Machine
end

