-- ==== Sys2Proof/Machine/Mtc.lean ====
section
/-! DEFINITION. The Munan Tile Code: one tile of 32 by 8 native words and its code (R125 to R131). -/

namespace Sys2Proof.Machine

/-- `n` bits of a number, least significant first (R129). -/
def natBits : Nat → Nat → List Bool
  | 0, _ => []
  | n + 1, v => (v % 2 == 1) :: natBits n (v / 2)

/-- Take `n` bits, least significant first; bits past the end read as zero (R126). -/
def takeBits : Nat → List Bool → Nat × List Bool
  | 0, bs => (0, bs)
  | n + 1, [] => ((takeBits n []).1 * 2, [])
  | n + 1, b :: bs => let r := takeBits n bs; (bit01 b + 2 * r.1, r.2)

/-- Bytes of a bit stream, from bit 0 of byte 0 upward. -/
def packBits (bs : List Bool) : Nat → List Byte
  | 0 => []
  | n + 1 => BitVec.ofNat 8 (takeBits 8 bs).1 :: packBits (takeBits 8 bs).2 n

/-- The bit stream of bytes. -/
def unpackBits : List Byte → List Bool
  | [] => []
  | b :: bs => natBits 8 b.toNat ++ unpackBits bs

/-- A native word of a stream bit list; a row of words as bits (R105). -/
def wordsToBits : List Nat → List Bool
  | [] => []
  | w :: ws => natBits 12 w ++ wordsToBits ws

/-- `n` native words of a bit stream. -/
def bitsToWords : Nat → List Bool → List Nat
  | 0, _ => []
  | n + 1, bs => (takeBits 12 bs).1 :: bitsToWords n (takeBits 12 bs).2

/-- The prediction of R128 from the words to the left, above and above-left. -/
def mtcPredict : Option Nat → Option Nat → Option Nat → Nat
  | none, none, _ => 2048
  | some a, none, _ => a
  | none, some b, _ => b
  | some a, some b, c => clampNat 0 4095 (a + b - min (a + b) (c.getD 0))

/-- The coded residual of a word against its prediction (R128). -/
def mtcResidual (p v : Nat) : Nat :=
  let e : Int := ((v : Int) - p + 2048) % 4096 - 2048
  if 0 ≤ e then (2 * e).toNat else (-2 * e - 1).toNat

/-- The word that a coded residual restores (R128). -/
def mtcRestore (p m : Nat) : Nat :=
  let e : Int := if m % 2 = 0 then (m / 2 : Nat) else -((m / 2 : Nat) : Int) - 1
  (((p : Int) + e) % 4096).toNat

/-- Residuals of the words of one row, given the word to the left and the row above. -/
def mtcEncodeRow : Option Nat → Option Nat → List Nat → List Nat → List Nat
  | _, _, _, [] => []
  | left, diag, [], v :: vs => mtcResidual (mtcPredict left none diag) v :: mtcEncodeRow (some v) none [] vs
  | left, diag, b :: above, v :: vs =>
    mtcResidual (mtcPredict left (some b) diag) v :: mtcEncodeRow (some v) (some b) above vs

/-- The words that the residuals of one row restore. -/
def mtcDecodeRow : Option Nat → Option Nat → List Nat → List Nat → List Nat
  | _, _, _, [] => []
  | left, diag, [], m :: ms =>
    let v := mtcRestore (mtcPredict left none diag) m
    v :: mtcDecodeRow (some v) none [] ms
  | left, diag, b :: above, m :: ms =>
    let v := mtcRestore (mtcPredict left (some b) diag) m
    v :: mtcDecodeRow (some v) (some b) above ms

/-- Residuals of a tile, row by row. -/
def mtcEncodeRows : List Nat → List (List Nat) → List (List Nat)
  | _, [] => []
  | above, r :: rs => mtcEncodeRow none none above r :: mtcEncodeRows r rs

/-- The rows that residuals restore. -/
def mtcDecodeRows : List Nat → List (List Nat) → List (List Nat)
  | _, [] => []
  | above, m :: ms => let r := mtcDecodeRow none none above m; r :: mtcDecodeRows r ms

/-- The code of one residual under Rice parameter `k` (R129). -/
def riceCode (k m : Nat) : List Bool :=
  if 16 ≤ m / 2 ^ k then List.replicate 16 true ++ natBits 12 m
  else List.replicate (m / 2 ^ k) true ++ false :: natBits k m

/-- Count one-bits up to `fuel`, taking the zero-bit that ends them. -/
def takeOnes : Nat → List Bool → Nat × List Bool
  | 0, bs => (0, bs)
  | _ + 1, [] => (0, [])
  | n + 1, b :: bs => if b then let r := takeOnes n bs; (r.1 + 1, r.2) else (0, bs)

/-- The residual that a code holds (R129). -/
def riceDecode (k : Nat) (bs : List Bool) : Nat × List Bool :=
  let q := takeOnes 16 bs
  if q.1 = 16 then takeBits 12 q.2
  else let r := takeBits k q.2; ((q.1 * 2 ^ k + r.1) % 4096, r.2)

/-- The codes of a group's residuals. -/
def riceCodes (k : Nat) : List Nat → List Bool
  | [] => []
  | m :: ms => riceCode k m ++ riceCodes k ms

/-- `n` residuals of a group. -/
def riceDecodes (k : Nat) : Nat → List Bool → List Nat × List Bool
  | 0, bs => ([], bs)
  | n + 1, bs =>
    let m := riceDecode k bs
    let r := riceDecodes k n m.2
    (m.1 :: r.1, r.2)

/-- The k of 0 to 11 that gives the fewest bits, the lowest on a tie (R130). -/
def riceBest (ms : List Nat) : Nat → Nat
  | 0 => 0
  | k + 1 => let j := riceBest ms k; if (riceCodes (k + 1) ms).length < (riceCodes j ms).length then k + 1 else j

/-- One group: its Rice parameter in 4 bits, then its codes. -/
def mtcGroup (ms : List Nat) : List Bool := natBits 4 (riceBest ms 11) ++ riceCodes (riceBest ms 11) ms

/-- Groups of 8 residuals, in ascending order. -/
def mtcGroups : Nat → List Nat → List Bool
  | 0, _ => []
  | n + 1, ms => mtcGroup (ms.take 8) ++ mtcGroups n (ms.drop 8)

/-- `n` groups decoded; a k of 12 to 15 decodes as 11 (R129). -/
def mtcUngroup : Nat → List Bool → List Nat
  | 0, _ => []
  | n + 1, bs =>
    let k := takeBits 4 bs
    let g := riceDecodes (min k.1 11) 8 k.2
    g.1 ++ mtcUngroup n g.2

/-- Rows of `w` words. -/
def chunks (w : Nat) : Nat → List Nat → List (List Nat)
  | 0, _ => []
  | n + 1, l => l.take w :: chunks w n (l.drop w)

/-- A coded tile: its metadata entry (Table 5.7) and its bytes from byte 0 of the slot. -/
structure MtcTile where
  entry : Nat
  bytes : List Byte
deriving DecidableEq, Repr

/-- The lossless stream of a tile of 256 words in row order. -/
def mtcStream (tile : List Nat) : List Bool := mtcGroups 32 (mtcEncodeRows [] (chunks 32 8 tile)).flatten

/-- R130: ZERO, RAW or LOSSLESS. -/
def mtcLossless (tile : List Nat) : MtcTile :=
  let bits := mtcStream tile
  let units := ceilDiv bits.length 256
  if tile.all (· == 0) then ⟨0x00, []⟩
  else if 12 ≤ units then ⟨0x1C, packBits (wordsToBits tile) 384⟩
  else ⟨0x20 + units, packBits bits (32 * units)⟩

/-- The smallest shift that brings a group's spread within `b` bits (R131). -/
def ratioShift (b r : Nat) : Nat → Nat → Nat
  | 0, s => s
  | fuel + 1, s => if r / 2 ^ s ≤ 2 ^ b - 1 then s else ratioShift b r fuel (s + 1)

/-- One group of 8 words in a bounded-ratio mode (R131). -/
def ratioGroup (b : Nat) (vs : List Nat) : List Bool :=
  let mn := vs.foldl min 4095
  let r := vs.foldl max 0 - mn
  let s := ratioShift b r 12 0
  let h := 2 ^ s / 2
  natBits 12 mn ++ natBits 4 s ++
    (vs.map fun v => natBits b (min ((v - mn + h) / 2 ^ s) (2 ^ b - 1))).flatten

/-- The word that a bounded-ratio code restores. -/
def ratioRestore (mn s code : Nat) : Nat := min (mn + code * 2 ^ s) 4095

/-- `n` words of a bounded-ratio group. -/
def ratioWords (b mn s : Nat) : Nat → List Bool → List Nat
  | 0, _ => []
  | n + 1, bs => ratioRestore mn s (takeBits b bs).1 :: ratioWords b mn s n (takeBits b bs).2

/-- Decode one bounded-ratio group of `16 + 8b` bits. -/
def ratioUngroup (b : Nat) (bs : List Bool) : List Nat :=
  let mn := takeBits 12 bs
  let s := takeBits 4 mn.2
  ratioWords b mn.1 s.1 8 s.2

/-- All groups of a tile in a bounded-ratio mode. -/
def ratioGroups (b : Nat) : Nat → List Nat → List Bool
  | 0, _ => []
  | n + 1, vs => ratioGroup b (vs.take 8) ++ ratioGroups b n (vs.drop 8)

/-- All words of a tile in a bounded-ratio mode. -/
def ratioUngroups (b : Nat) : Nat → List Bool → List Nat
  | 0, _ => []
  | n + 1, bs => ratioUngroup b bs ++ ratioUngroups b n (bs.drop (16 + 8 * b))

/-- Encode a tile in a mode of `surface.mtc_mode`: 0 LOSSLESS, 1 RATIO_2, 2 RATIO_3 (R130 to R132). -/
def mtcEncode (mode : Nat) (tile : List Nat) : MtcTile :=
  match mode with
  | 1 => ⟨0x36, packBits (ratioGroups 4 32 tile) 192⟩
  | 2 => ⟨0x44, packBits (ratioGroups 2 32 tile) 128⟩
  | _ => mtcLossless tile

/-- How many bytes a reader fetches for an entry (R126). -/
def mtcFetch (entry : Nat) : Nat :=
  match bitsOf entry 7 4 with
  | 1 => 384
  | 2 => 32 * clampNat 1 12 (bitsOf entry 3 0)
  | 3 => 192
  | 4 => 128
  | _ => 0

/-- Decode a tile from its entry and its slot (R126): reserved modes are decoded as ZERO. -/
def mtcDecode (entry : Nat) (slot : List Byte) : List Nat :=
  let bits := unpackBits (slot.take (mtcFetch entry))
  match bitsOf entry 7 4 with
  | 1 => bitsToWords 256 bits
  | 2 => (mtcDecodeRows [] (chunks 32 8 (mtcUngroup 32 bits))).flatten
  | 3 => ratioUngroups 4 32 bits
  | 4 => ratioUngroups 2 32 bits
  | _ => List.replicate 256 0

end Sys2Proof.Machine
end

