-- ==== Sys2Proof/Machine/Surfaces.lean ====
section
/-! DEFINITION. Surfaces, records, rings, allocation, claims and leases (ch. 5, R474). -/

namespace Sys2Proof.Machine

/-! ### Records -/

/-- Record flags (Table 5.3). -/
abbrev flPartial : Nat := 1
abbrev flStdCheck : Nat := 2
abbrev flExpValid : Nat := 4
abbrev flPtpTime : Nat := 8
abbrev flSynthetic : Nat := 16
abbrev flHold : Nat := 32
abbrev flHost : Nat := 64
abbrev flTrigger : Nat := 128
abbrev flEmpty : Nat := 0x80000000

/-- "No frame": the frame number of an EMPTY record. -/
abbrev noFrame : Nat := 0xFFFFFFFFFFFFFFFF

/-- An EMPTY record (R114). -/
def emptyRec (o : ObjId) (pos : Nat) : FrameRec := ⟨noFrame, 0, 0, flEmpty, 0, 0, 0, o, pos⟩

/-- The 64 bytes of a record (Table 5.2). -/
def recBytes (r : FrameRec) : List Byte :=
  let body := toLe 8 r.frame ++ toLe 8 (secOf r.ts) ++ toLe 8 (nsFracOf r.ts) ++ toLe 4 r.source ++ toLe 4 r.flags ++
    toLe 4 r.rateNum ++ toLe 4 r.rateDen ++ toLe 8 r.hinge ++ toLe 4 r.surface ++ toLe 4 r.position ++ toLe 4 0
  body ++ toLe 4 (crc32c body)

/-- The record that the reader rule selects; none when both copies fail (R115). -/
def surfRec (f : Surf) : Option FrameRec :=
  if f.copyA.crcOk then some f.copyA.rcd else if f.copyB.crcOk then some f.copyB.rcd else none

/-- Whether a record describes a frame. -/
def recHasFrame (r : FrameRec) : Bool := !bitOf r.flags 31

/-- The complete frame of a surface that a reader may use (R13, R14, R115). -/
def surfFrame (f : Surf) : Option FrameRec :=
  if f.state = .complete then
    match surfRec f with
    | some r => if recHasFrame r then some r else none
    | none => none
  else none

/-! ### Access -/

def surfOf (s : State) (o : ObjId) : Option Surf := mapGet s.surfs o
def setSurf (s : State) (o : ObjId) (f : Surf) : State := { s with surfs := mapPut s.surfs o f }
def ringOf (s : State) (o : ObjId) : Option Ring := mapGet s.rings o
def setRing (s : State) (o : ObjId) (r : Ring) : State := { s with rings := mapPut s.rings o r }

/-- Change a surface that exists. -/
def updSurf (s : State) (o : ObjId) (f : Surf → Surf) : State :=
  match surfOf s o with
  | some x => setSurf s o (f x)
  | none => s

/-- Change a ring that exists. -/
def updRing (s : State) (o : ObjId) (f : Ring → Ring) : State :=
  match ringOf s o with
  | some x => setRing s o (f x)
  | none => s

/-- The member of a ring at a position: their numbers follow one another cyclically (log entry 171). -/
def ringMember (r : Ring) (i : Nat) : ObjId := objId clsSurface ((objInst r.first + i) % 0xFFFFFF)

/-- The members of a ring by position (R116). -/
def ringMembers (r : Ring) : List ObjId := (List.range r.length).map (ringMember r)

/-- A LOST surface reads LOST until a writer's frame in it is complete (R123). -/
def surfLost (f : Surf) : Bool := f.state == .lost || (f.state == .writing && f.wasLost)

/-- The planes of a surface. -/
def surfPlanes (f : Surf) : List Plane := (surfaceLayout f.format f.width f.height f.reqStride).1

/-- `surface.state` (Table 5.9): FREEING lies over the others, and over every member of a FREEING ring. -/
def surfFreeing (s : State) (f : Surf) : Bool :=
  f.freeing || (match ringOf s f.ring with | some r => r.freeing | none => false)

def surfStateCode (s : State) (f : Surf) : Nat :=
  if surfFreeing s f then 4
  else if surfLost f then 3
  else match f.state with
    | .empty => 0 | .writing => 1 | .complete => 2 | .lost => 3

/-- The newest COMPLETE member of a ring, by order of completion (R146, Table 5.10). -/
def ringNewest (s : State) (r : Ring) : Option (ObjId × Surf × FrameRec) :=
  (ringMembers r).foldl (fun best o =>
    match surfOf s o with
    | none => best
    | some f =>
      match surfFrame f with
      | none => best
      | some rc =>
        match best with
        | none => some (o, f, rc)
        | some (_, g, _) => if g.done < f.done then some (o, f, rc) else best) none

/-! ### Samples -/

/-- Bytes that `n` native words take. -/
def wordBytes12 (n : Nat) : Nat := ceilDiv (n * 12) 8

/-- `n` native words from an address (R105). -/
def readWords (m : Mem) (a n : Nat) : List Nat := bitsToWords n (unpackBits (memRead m a (wordBytes12 n)))

/-- The rows of the tile in one slot. -/
def readTile (m : Mem) (f : Surf) (p : Plane) (tpr ty tx : Nat) : List (List Nat) :=
  let slot := f.base + p.off + (ty * tpr + tx) * 384
  if fmtLayout f.format = 2 then
    chunks 32 8 (mtcDecode (leNat (memRead m (f.base + p.metaOff + 2 * (ty * tpr + tx)) 2)) (memRead m slot 384))
  else chunks 32 8 (readWords m slot 256)

/-- Put the rows of tiles side by side. -/
def joinTiles : List (List (List Nat)) → List (List Nat)
  | [] => List.replicate 8 []
  | t :: ts => List.zipWith (· ++ ·) t (joinTiles ts)

/-- The lines of a plane; padding is discarded (R127). -/
def readPlane (m : Mem) (f : Surf) (p : Plane) : List (List Nat) :=
  if fmtLayout f.format = 0 then
    (List.range p.lines).map fun y =>
      if fmtBase f.format = 0x01 then (memRead m (f.base + p.off + y * p.stride) p.words).map (·.toNat)
      else readWords m (f.base + p.off + y * p.stride) p.words
  else
    let tpr := tilesPerRow p.words
    let rows := (List.range (ceilDiv p.lines 8)).flatMap fun ty =>
      joinTiles ((List.range tpr).map fun tx => readTile m f p tpr ty tx)
    (rows.take p.lines).map (·.take p.words)

/-- All planes of a surface. -/
def readSurf (m : Mem) (f : Surf) : List (List (List Nat)) := (surfPlanes f).map (readPlane m f)

/-- A line's bytes, zero up to the stride (R105). -/
def lineBytes (f : Surf) (stride : Nat) (ws : List Nat) : List Byte :=
  padTo stride (if fmtBase f.format = 0x01 then ws.map (BitVec.ofNat 8)
    else packBits (wordsToBits ws) (wordBytes12 ws.length))

/-- Write one line of a linear plane. -/
def writeLine (m : Mem) (f : Surf) (p : Plane) (y : Nat) (ws : List Nat) : Mem :=
  if y < p.lines then memWrite m (f.base + p.off + y * p.stride) (lineBytes f p.stride (ws.take p.words)) else m

/-- Pad a list to `n` elements with its last (R127). -/
def padLast {α : Type} (n : Nat) (d : α) (l : List α) : List α :=
  l ++ List.replicate (n - l.length) (l.getLastD d)

/-- Write the tile in one slot, encoded in the mode that the writer's claim fixed (R132). -/
def writeTile (m : Mem) (f : Surf) (p : Plane) (tpr ty tx : Nat) (tile : List Nat) : Mem :=
  let slot := f.base + p.off + (ty * tpr + tx) * 384
  if fmtLayout f.format = 2 then
    let c := mtcEncode f.writeMtc tile
    memWrite (memWrite m slot c.bytes) (f.base + p.metaOff + 2 * (ty * tpr + tx)) (toLe 2 c.entry)
  else memWrite m slot (packBits (wordsToBits tile) 384)

/-- Write all lines of a plane. -/
def writePlane (m : Mem) (f : Surf) (p : Plane) (ls : List (List Nat)) : Mem :=
  if fmtLayout f.format = 0 then
    (ls.zipIdx).foldl (fun m l => writeLine m f p l.2 l.1) m
  else
    let tpr := tilesPerRow p.words
    let rows := padLast (roundUp p.lines 8) [] (ls.map fun l => padLast (tpr * 32) 0 (l.take p.words))
    (List.range (ceilDiv p.lines 8)).foldl (fun m ty =>
      (List.range tpr).foldl (fun m tx =>
        writeTile m f p tpr ty tx (((rows.drop (ty * 8)).take 8).flatMap fun r => (r.drop (tx * 32)).take 32)) m) m

/-- Write all planes of a surface. -/
def writeSurf (m : Mem) (f : Surf) (pls : List (List (List Nat))) : Mem :=
  ((surfPlanes f).zip pls).foldl (fun m x => writePlane m f x.1 x.2) m

/-! ### Extents and control regions (R474) -/

/-- Pages of 4 KiB of the frame store, and of one logical pseudo-channel. -/
abbrev fsPages : Nat := 35389440
abbrev lpcPages : Nat := 294912

/-- The extents that surfaces hold: rings, and standalone surfaces. -/
def surfExtents (s : State) : List (Nat × Nat) :=
  s.rings.map (fun r => (r.2.base, r.2.size)) ++
  (s.surfs.filter fun f => f.2.ring == 0).map fun f => (f.2.base, f.2.size)

/-- The first page of a control region at or above a page. -/
def ctlPageFrom (c : CtlRegion) (p : Nat) : Option Nat :=
  let k := max c.start (if p ≤ c.lpc then 0 else ceilDiv (p - c.lpc) 120)
  if k < c.start + c.pages then some (k * 120 + c.lpc) else none

/-- The page after the first thing that lies in `n` pages from `p`, if anything does. -/
def extentConflict (s : State) (p n : Nat) : Option Nat :=
  match (surfExtents s).find? fun e => decide (e.1 / 4096 < p + n ∧ p < (e.1 + e.2) / 4096) with
  | some e => some ((e.1 + e.2) / 4096)
  | none =>
    s.ctl.foldl (fun acc c =>
      match ctlPageFrom c p with
      | some q => if q < p + n then some (max (q + 1) (acc.getD 0)) else acc
      | none => acc) none

/-- The lowest free extent of `n` pages at or above page `p` (surfaces go from the lowest addresses upward). -/
def fitExtent (s : State) (n : Nat) : Nat → Nat → Option Nat
  | 0, _ => none
  | fuel + 1, p =>
    if fsPages < p + n then none
    else match extentConflict s p n with
      | none => some p
      | some q => if q ≤ p then none else fitExtent s n fuel q

/-- How many attempts an allocation makes: more than the surfaces and control pages there can be. -/
abbrev fitFuel : Nat := 16777216

/-- Control pages in use in a logical pseudo-channel. -/
def ctlUsed (s : State) (l : Nat) : Nat := ((s.ctl.filter fun c => c.lpc == l).map (·.pages)).sum

/-- Whether surfaces hold a page of a would-be control region. -/
def ctlBlocked (s : State) (c : CtlRegion) : Bool :=
  (surfExtents s).any fun e =>
    let p0 := e.1 / 4096
    let p1 := (e.1 + e.2) / 4096 - 1
    let lo := max c.start (if p0 ≤ c.lpc then 0 else ceilDiv (p0 - c.lpc) 120)
    decide (c.lpc ≤ p1) && decide (lo ≤ min (c.start + c.pages - 1) ((p1 - c.lpc) / 120))

/-- The highest place for a control region of `n` pages in a logical pseudo-channel. -/
def ctlPlace (s : State) (l n : Nat) : Option CtlRegion :=
  let mine := s.ctl.filter fun c => c.lpc == l
  let tops := lpcPages :: mine.map (·.start)
  let fits := tops.filterMap fun top =>
    if n ≤ top then
      let c : CtlRegion := ⟨l, top - n, n⟩
      if (mine.all fun d => decide (d.start + d.pages ≤ c.start ∨ c.start + n ≤ d.start)) && !ctlBlocked s c
      then some c else none
    else none
  fits.foldl (fun best c => match best with
    | some b => if b.start < c.start then some c else some b
    | none => some c) none

/-- The physical pseudo-channel of a logical one (R346). -/
def pcOfLpc (s : State) (l : Nat) : Nat := getPropN s sysObj pSystemFsPcMap l

/-- Place one copy: the pseudo-channel with the fewest control bytes in use, the lowest number on a tie. -/
def ctlChoose (s : State) (n : Nat) (notStack : Option Nat) : Option CtlRegion :=
  ((List.range 120).filterMap fun l =>
    let pc := pcOfLpc s l
    if getProp s sysObj pSystemFsPcState pc = 2 || notStack == some (pc / 32) then none
    else (ctlPlace s l n).map fun c => (ctlUsed s l, c)).foldl (fun best x => match best with
      | some b => if x.1 < b.1 then some x else some b
      | none => some x) none |>.map (·.2)

/-- Place both copies of a control region (R474). -/
def ctlAlloc (s : State) (n : Nat) : Option (CtlRegion × CtlRegion × State) :=
  match ctlChoose s n none with
  | none => none
  | some a =>
    let s1 := { s with ctl := s.ctl ++ [a] }
    match ctlChoose s1 n (some (pcOfLpc s a.lpc / 32)) with
    | none => none
    | some b => some (a, b, { s1 with ctl := s1.ctl ++ [b] })

def ctlFree (s : State) (a b : CtlRegion) : State :=
  { s with ctl := s.ctl.filter fun c => decide (c ≠ a ∧ c ≠ b) }

/-- A record of a standalone surface: in a shared page with room, or in a new pair of pages (R474). -/
def recAlloc (s : State) (o : ObjId) : Option State :=
  match s.recPages.findIdx? fun p => decide (p.members.length < 64) with
  | some i => some { s with recPages := s.recPages.modify i fun p => { p with members := p.members ++ [o] } }
  | none =>
    match ctlAlloc s 1 with
    | some (a, b, s) => some { s with recPages := s.recPages ++ [⟨a, b, [o]⟩] }
    | none => none

/-- A record page is freed with its last record. -/
def recFree (s : State) (o : ObjId) : State :=
  match s.recPages.find? fun p => p.members.contains o with
  | none => s
  | some p =>
    let left := p.members.filter fun x => decide (x ≠ o)
    if left.isEmpty then
      ctlFree { s with recPages := s.recPages.filter fun q => decide (q ≠ p) } p.a p.b
    else { s with recPages := s.recPages.map fun q => if q = p then { q with members := left } else q }

/-- A surface as it is allocated. -/
def freshSurf (o base size fmt w h stride ring pos mtc : Nat) (owner : SurfOwner) : Surf :=
  let e : RecCopy := ⟨emptyRec o pos, true⟩
  ⟨base, size, fmt, w, h, stride, ring, pos, mtc, mtc, mtc, .empty, false, false, [], e, e, none, 0, 0, 0, false, owner⟩

/-- The number of live SURFACE objects (R117). -/
def surfCount (s : State) : Nat := s.surfs.length

/-- Allocate one standalone surface (R116, R117): its ID, or nothing where R117 refuses it. -/
def allocSurface (s : State) (fmt w h stride mtc : Nat) (owner : SurfOwner) : Option (ObjId × State) :=
  let size := (surfaceLayout fmt w h stride).2
  if size = 0 ∨ 4194304 < surfCount s + 1 then none
  else
    match fitExtent s (size / 4096) fitFuel 0 with
    | none => none
    | some p =>
      let (o, s1) := newObj s clsSurface
      match recAlloc (setSurf s1 o (freshSurf o (p * 4096) size fmt w h stride 0 0 mtc owner)) o with
      | none => none
      | some s2 => some (o, s2)

/-- New SURFACE objects for the members of a ring. -/
def addMembers (ring fmt w h stride mtc base size : Nat) : Nat → Nat → State → State
  | 0, _, s => s
  | n + 1, pos, s =>
    let (o, s) := newObj s clsSurface
    addMembers ring fmt w h stride mtc base size n (pos + 1)
      (setSurf s o (freshSurf o (base + pos * size) size fmt w h stride ring pos mtc .host))

/-- Allocate a ring with its members and record table (R116, R117, R474). -/
def allocRing (s : State) (fmt w h stride mtc len : Nat) : Option (ObjId × State) :=
  let size := (surfaceLayout fmt w h stride).2
  if size = 0 ∨ 4194304 < surfCount s + len then none
  else
    match fitExtent s (size * len / 4096) fitFuel 0 with
    | none => none
    | some p =>
      let (o, s1) := newObj s clsRing
      let n0 := newNumbers s clsSurface len
      let s1 := { s1 with nextInst := mapPut s1.nextInst clsSurface n0 }
      let mk (a b : CtlRegion) : Ring :=
        ⟨fmt, w, h, len, objId clsSurface n0, p * 4096, size * len, mtc, mtc, false, none, a, b, none, none, .off, [], [], 0, 0, 0, 0, none,
          0, 0, false, 0, 0, [], [], [], 0, 0⟩
      -- the table is placed with the surfaces already in the frame store
      match ctlAlloc (setRing s1 o (mk ⟨0, lpcPages, 0⟩ ⟨0, lpcPages, 0⟩)) (ceilDiv (len * 64) 4096) with
      | none => none
      | some (a, b, s2) =>
        let s3 := setRing s2 o (mk a b)
        -- the capture split of a new ring: half of it, rounded down, before the trigger (Table 13.7)
        let s3 := setProp (setProp s3 o pRingCapturePre 0 (len / 2 : Nat)) o pRingCapturePost 0 (len - len / 2 : Nat)
        some (o, addMembers o fmt w h stride mtc (p * 4096) size len 0 s3)

/-- Free a standalone surface: its bytes, its record and its object. -/
def freeSurface (s : State) (o : ObjId) : State :=
  match surfOf s o with
  | none => s
  | some _ => dropObject (recFree { s with surfs := mapDel s.surfs o } o) o

/-- Where the charge of a ring's audio surface is kept. -/
def capAudioKey (o : ObjId) : Nat := 0x200000000 + o

/-- Free the audio surface of a ring, and its charge. -/
def dropCapAudio (s : State) (o : ObjId) : State :=
  let a := getPropN s o pRingAudioSurface
  let s := if a = 0 then s else setProp (freeSurface s a) o pRingAudioSurface 0 0
  let s := { s with charges := mapDel s.charges (capAudioKey o) }
  updRing s o fun r => { r with audioAt := [], audioLines := 0 }

/-- Free a ring with its members and the audio surface beside its capture. -/
def freeRing (s : State) (o : ObjId) : State :=
  let s := dropCapAudio s o
  match ringOf s o with
  | none => s
  | some r =>
    let ms := ringMembers r
    let s := ms.foldl (fun s m => dropObject { s with surfs := mapDel s.surfs m } m) s
    dropObject (ctlFree { s with rings := mapDel s.rings o } r.recA r.recB) o

/-- Free bytes of the frame store, and the largest free extent for surfaces (R474). -/
def fsFreeBytes (s : State) : Nat :=
  fsPages * 4096 - ((surfExtents s).map (·.2)).sum - (s.ctl.map (·.pages)).sum * 4096

/-- The lowest thing at or above page `p`: where a free extent that starts there ends. -/
def extentEnd (s : State) (p : Nat) : Nat :=
  let q := (surfExtents s).foldl (fun e x => if p ≤ x.1 / 4096 then min e (x.1 / 4096) else e) fsPages
  s.ctl.foldl (fun e c => match ctlPageFrom c p with | some x => min e x | none => e) q

/-- The largest free extent: the free extents that start at 0, after a surface or after a control page. -/
def fsLargest (s : State) : Nat :=
  let starts := 0 :: (surfExtents s).map (fun e => (e.1 + e.2) / 4096) ++
    s.ctl.flatMap fun c => [c.start * 120 + c.lpc + 1, (c.start + c.pages - 1) * 120 + c.lpc + 1]
  4096 * (starts.map fun p => if (extentConflict s p 1).isSome || decide (fsPages ≤ p) then 0 else extentEnd s p - p).foldl
    max 0

/-! ### Leases (R118 to R123) -/

/-- Whether a reader may take a lease (R119). -/
def leaseable (s : State) (f : Surf) : Bool := decide (f.state = .complete) && !surfFreeing s f

/-- Take a lease. -/
def addLease (s : State) (o : ObjId) (h : Holder) : State := updSurf s o fun f => { f with leases := f.leases ++ [h] }

/-- Remove one lease of a holder. -/
def dropLease (s : State) (o : ObjId) (h : Holder) : State := updSurf s o fun f => { f with leases := f.leases.erase h }

/-- Whether a surface counts as unleased for a writer's claim and can take a new frame. -/
def claimable (f : Surf) : Bool := f.leases.isEmpty && decide (f.state ≠ .writing) && !f.frozen

/-- The oldest claimable member of a ring, by record order (R118). -/
def oldestFree (s : State) (r : Ring) : Option ObjId :=
  ((ringMembers r).foldl (fun best o => match surfOf s o with
    | some f => if claimable f then (match best with
        | some (_, g) => if f.order < g then some (o, f.order) else best
        | none => some (o, f.order)) else best
    | none => best) (none : Option (ObjId × Nat))).map (·.1)

/-- RING_OVERRUN, at most once per millisecond and ring (R118, Table 5.11). -/
def reportOverrun (s : State) (ring : ObjId) (frame : Nat) : State :=
  let s := bumpProp s ring pRingOverruns
  match ringOf s ring with
  | none => s
  | some r =>
    let due : Bool := match r.lastOverrun with
      | none => true
      | some t => decide (t + msT ≤ s.now)
    if due then
      postEvent (setRing s ring { r with lastOverrun := some s.now }) 0x0401 ring
        ((getPropN s ring pRingOverruns) + frame % 2 ^ 32 * 2 ^ 32)
    else s

/-- A writer claims the oldest free surface of a ring: it becomes WRITING with EMPTY records (R114, R118). -/
def claimSurface (s : State) (ring : ObjId) : Option (ObjId × State) :=
  match ringOf s ring with
  | none => none
  | some r =>
    match oldestFree s r with
    | none => none
    | some o =>
      let n := s.orders + 1
      some (o, updSurf { s with orders := n } o fun f =>
        { f with state := .writing, wasLost := surfLost f, order := n, writeMtc := f.mtc, pend := none
                 copyA := ⟨emptyRec o f.position, true⟩, copyB := ⟨emptyRec o f.position, true⟩ })

/-- The record that a writer issues once its last sample write is accepted (R13); the copies land with FRAME_COMPLETE. -/
def issueRecord (s : State) (o : ObjId) (r : FrameRec) : State :=
  updSurf s o fun f => { f with pend := some { r with surface := o, position := f.position } }

/-- A writer gives a frame up: the surface holds no complete frame, and stays LOST where it was. -/
def abandonSurface (s : State) (o : ObjId) : State :=
  updSurf s o fun f => { f with state := if surfLost f then .lost else .empty, wasLost := false, pend := none }

/-- VX_FREE of a ring releases its capture's leases at once (R299); the frames stay its held frames until a writer claims
them, so that the capture is as before if the free does not come (R43). -/
def freeCapture (s : State) (o : ObjId) : State :=
  match ringOf s o with
  | none => s
  | some r =>
    let s := (r.pre ++ r.post).foldl (fun s m => dropLease s m (.capture o)) s
    setRing s o { r with freeing := true, freeMark := s.orders }

/-- FREEING is cleared: the capture leases again what it still holds (R43, R122). -/
def unfreeRing (s : State) (o : ObjId) : State :=
  match ringOf s o with
  | none => s
  | some r =>
    let held (m : ObjId) : Bool := match surfOf s m with | some f => decide (f.order ≤ r.freeMark) | none => false
    let s := ((r.pre ++ r.post).filter held).foldl (fun s m => addLease s m (.capture o)) s
    setRing s o { r with freeing := false, pre := r.pre.filter held, post := r.post.filter held }

/-- Whether nothing holds an object that is FREEING (R122). -/
def freeReady (s : State) (o : ObjId) : Bool :=
  match ringOf s o with
  | some r => r.writer.isNone && (ringMembers r).all fun m => match surfOf s m with
    | some f => f.leases.isEmpty
    | none => true
  | none =>
    match surfOf s o with
    | some f => f.leases.isEmpty
    | none => true

/-- Free an object and complete its VX_FREE (R122). -/
def finishFree (s : State) (f : Flight) (o : ObjId) : State :=
  let s := if objCls o = clsRing then freeRing s o else freeSurface s o
  completeFlight s f (cplStatus stOk)

/-- Free every object whose last lease and binding are released. -/
def settleFrees (s : State) : State :=
  s.flights.foldl (fun s f => match f.waits with
    | .free o => if freeReady s o then finishFree s f o else s
    | _ => s) s

/-- SURFACE_LOST for every surface with a byte in a pseudo-channel (R123). -/
def surfInPc (s : State) (f : Surf) (pc : Nat) : Bool :=
  (List.range (min 120 (f.size / 4096))).any fun i => pcOfLpc s ((f.base / 4096 + i) % 120) == pc

def loseSurfaces (s : State) (pc : Nat) : State :=
  s.surfs.foldl (fun s e =>
    if surfInPc s e.2 pc then
      let frame := match surfRec e.2 with | some r => r.frame | none => noFrame
      postEvent (updSurf s e.1 fun f => { f with state := .lost, wasLost := false, frozen := true, pend := none }) 0x0301 e.1
        (pc + frame % 2 ^ 32 * 2 ^ 32)
    else s) s

end Sys2Proof.Machine
end

