-- ==== Sys2Proof/Machine/AudioPath.lean ====
section
/-! DEFINITION. Channel blocks, clock domains and the ASRC need of an audio path (R269, R273, R279 to R282). -/

namespace Sys2Proof.Machine

/-- "No channel" and "no block". -/
abbrev noChannel : Nat := 0xFFFF

/-- The enabled slots of a TDM mask below the slot count (R273). -/
def enabledSlots (mask slots : Nat) : List Nat := (List.range (min slots 32)).filter fun i => bitOf mask i

/-- How many source channels a party has (Table 12.1). -/
def srcChannels (s : State) (o : ObjId) : Nat :=
  match objCls o with
  | 10 => (enabledSlots (getPropN s o pAudioPortRxMask) (getPropN s o pAudioPortSlots)).length
  | 1 =>
    let k := getProp s o pPortInKind
    if k = 2 ∨ k = 5 then getPropN s o pPortInAudioChannels else 0
  | _ => 0

/-- How many destination channels a party has (Table 12.1). -/
def dstChannels (s : State) (o : ObjId) : Nat :=
  match objCls o with
  | 10 => (enabledSlots (getPropN s o pAudioPortTxMask) (getPropN s o pAudioPortSlots)).length
  | 2 =>
    let k := getProp s o pPortOutKind
    if k = 1 ∨ k = 3 ∨ k = 5 then getPropN s o pPortOutAudioChannels else 0
  | _ => 0

def srcBase (s : State) (o : ObjId) : Nat :=
  if objCls o = clsAudioPort then getPropN' s o pAudioPortRxBase else getPropN' s o pPortInAudioBase
where getPropN' (s : State) (o : ObjId) (p : Nat) : Nat := (getProp s o p).toNat

def dstBase (s : State) (o : ObjId) : Nat :=
  if objCls o = clsAudioPort then (getProp s o pAudioPortTxBase).toNat else (getProp s o pPortOutAudioBase).toNat

/-- The producers and the consumers of Table 12.1. -/
def audioProducers : List ObjId :=
  (List.range 8).map (objId clsAudioPort) ++ (List.range 128).map (objId clsPortIn)
def audioConsumers : List ObjId :=
  (List.range 8).map (objId clsAudioPort) ++ (List.range 128).map (objId clsPortOut)

/-- The party that holds a source channel, and one that holds a destination channel. -/
def srcParty (s : State) (ch : Nat) : Option ObjId :=
  audioProducers.find? fun o =>
    let b := srcBase s o
    b != noChannel && decide (b ≤ ch ∧ ch < b + srcChannels s o)
def dstParty (s : State) (ch : Nat) : Option ObjId :=
  audioConsumers.find? fun o =>
    let b := dstBase s o
    b != noChannel && decide (b ≤ ch ∧ ch < b + dstChannels s o)

/-- Whether the timebase is locked to PTP (R83, R279): LOCKED with a reference of kind PTP selected. -/
def tbOnPtp (s : State) : Bool :=
  let r := getPropN s sysObj pSystemRefSelected
  getProp s sysObj pSystemTbState == 3 && r != 0 && getProp s r pRefKind == 6

/-- The clock domain of a party as source or destination (R279): 0 TIMEBASE. -/
def clockDomain (s : State) (o : ObjId) : Nat :=
  match objCls o with
  | 10 => match getPropN s o pAudioPortGroup with
    | 0 => 10 + objInst o
    | g => g
  | 1 =>
    if getProp s o pPortInKind = 2 then 100 + objInst o
    else if tbOnPtp s then 0 else 300 + objInst o
  | _ => 0

/-- The rate class of a party (R275): 0 NONE, 1 to 7, with the ratio in bits 5:4. -/
def rateClass (s : State) (o : ObjId) : Nat :=
  match objCls o with
  | 10 => getPropN s o pAudioPortRateClass
  | 1 => if getProp s o pPortInKind = 5 ∧ bitOf (getPropN s o pPortInAudioFormat) 5 then 5 else 3
  | 2 =>
    let f := getPropN s o pPortOutAudioFormat
    match getPropN s o pPortOutKind with
    | 3 => if bitOf f 5 then 5 else 3
    | 5 => match bitsOf f 5 4 with | 1 => 5 | 2 => 7 | _ => 3
    | _ => 3
  | _ => 0

/-- The rate of a class in Hz as a rational (R275). -/
def classRate (c : Nat) : Nat × Nat :=
  let fs := match c % 16 with
    | 1 => 32000 | 2 => 44100 | 3 => 48000 | 4 => 88200 | 5 => 96000 | 6 => 176400 | 7 => 192000 | _ => 48000
  match bitsOf c 5 4 with
  | 1 => (fs * 1000, 1001)
  | 2 => (fs * 1001, 1000)
  | _ => (fs, 1)

/-- Whether a path uses an ASRC channel (R280). -/
def asrcUsed (s : State) (ch : ObjId) : Bool :=
  match getPropN s ch pAudioChAsrc with
  | 1 => true
  | 2 => false
  | _ =>
    match srcParty s (getPropN s ch pAudioChSource), dstParty s (getPropN s ch pAudioChDest) with
    | some a, some b => !(clockDomain s a == clockDomain s b && rateClass s a == rateClass s b)
    | _, _ => false

/-- Whether a path is reserved, given which routes run (R282). -/
def pathReserved (s : State) (running : ObjId → Bool) (ch : ObjId) : Bool :=
  let r := getPropN s ch pAudioChRoute
  if r = 0 then getProp s ch pAudioChEnable == 1 else running r

/-- The paths that hold an ASRC channel. -/
def asrcHolders (s : State) (running : ObjId → Bool) : List ObjId :=
  (objsOf s clsAudioCh).filter fun c => pathReserved s running c && asrcUsed s c

end Sys2Proof.Machine
end

