-- ==== Sys2Proof/Machine/Samples.lean ====
section
/-! DEFINITION. Component planes of a frame, and the chroma filters of R198 and R199. -/

namespace Sys2Proof.Machine

/-- A rectangular array of samples, line by line. -/
abbrev Grid : Type := List (List Int)

/-- Where one component lies: its plane, the spacing and offset of its words there, and its subsampling. -/
structure Comp where
  plane : Nat
  step : Nat
  off : Nat
  hs : Bool      -- half width
  vs : Bool      -- half height
deriving DecidableEq, Repr

/-- The components of a format in the order R, G, B, A or Y, Cb, Cr (R106, R110, Table 5.1). -/
def fmtComps (c : Nat) : List Comp :=
  let lin := fmtLayout c == 0
  match fmtBase c with
  | 0x20 | 0x21 =>
    if lin then [⟨0, 3, 0, false, false⟩, ⟨0, 3, 1, false, false⟩, ⟨0, 3, 2, false, false⟩]
    else [⟨0, 1, 0, false, false⟩, ⟨1, 1, 0, false, false⟩, ⟨2, 1, 0, false, false⟩]
  | 0x22 =>
    if lin then [⟨0, 4, 0, false, false⟩, ⟨0, 4, 1, false, false⟩, ⟨0, 4, 2, false, false⟩, ⟨0, 4, 3, false, false⟩]
    else [⟨0, 1, 0, false, false⟩, ⟨1, 1, 0, false, false⟩, ⟨2, 1, 0, false, false⟩, ⟨3, 1, 0, false, false⟩]
  | 0x23 | 0x43 => [⟨0, 2, 1, false, false⟩, ⟨0, 4, 0, true, false⟩, ⟨0, 4, 2, true, false⟩]
  | 0x30 => [⟨0, 1, 0, false, false⟩, ⟨1, 2, 0, true, false⟩, ⟨1, 2, 1, true, false⟩]
  | 0x31 => [⟨0, 1, 0, false, false⟩, ⟨1, 2, 0, true, true⟩, ⟨1, 2, 1, true, true⟩]
  | 0x32 => [⟨0, 1, 0, false, false⟩, ⟨1, 1, 0, true, false⟩, ⟨2, 1, 0, true, false⟩]
  | 0x33 => [⟨0, 1, 0, false, false⟩, ⟨1, 1, 0, true, true⟩, ⟨2, 1, 0, true, true⟩]
  | 0x34 | 0x35 => [⟨0, 1, 0, false, false⟩, ⟨1, 1, 0, false, false⟩, ⟨2, 1, 0, false, false⟩]
  | 0x41 | 0x42 => [⟨0, 3, 0, false, false⟩, ⟨0, 3, 1, false, false⟩, ⟨0, 3, 2, false, false⟩]
  | 0x44 => [⟨0, 4, 0, false, false⟩, ⟨0, 4, 1, false, false⟩, ⟨0, 4, 2, false, false⟩, ⟨0, 4, 3, false, false⟩]
  | _ => [⟨0, 1, 0, false, false⟩]

/-- Double-word samples of a row of native words (R106). -/
def joinWords : List Nat → List Nat
  | a :: b :: r => (a + 4096 * b) :: joinWords r
  | _ => []

/-- Native words of double-word samples. -/
def splitWords : List Nat → List Nat
  | [] => []
  | v :: r => v % 4096 :: v / 4096 % 4096 :: splitWords r

/-- Code values of a plane's rows of words. -/
def planeValues (c : Nat) (rows : List (List Nat)) : List (List Nat) :=
  if fmtIs24 c then rows.map joinWords else rows

/-- Words of a plane's rows of code values. -/
def planeWords (c : Nat) (rows : List (List Nat)) : List (List Nat) :=
  if fmtIs24 c then rows.map splitWords else rows

/-- Every `step`th element from an offset. -/
def everyNth (step off : Nat) (r : List Nat) : List Nat :=
  (List.range ((r.length + step - 1 - off) / step)).map fun k => atD r (k * step + off) 0

/-- The component grids of a frame. -/
def toComps (c : Nat) (planes : List (List (List Nat))) : List Grid :=
  (fmtComps c).map fun k =>
    (planeValues c (atD planes k.plane [])).map fun r => (everyNth k.step k.off r).map Int.ofNat

/-- The word at index `i` of a line, from the component that lies there. -/
def wordAt (cs : List (Comp × Grid)) (y i : Nat) : Nat :=
  match cs.find? fun x => i % x.1.step == x.1.off with
  | some x => (atD (atD x.2 y []) (i / x.1.step) 0).toNat
  | none => 0

/-- The planes of a frame from its component grids. -/
def fromComps (c w h : Nat) (gs : List Grid) : List (List (List Nat)) :=
  let cs := (fmtComps c).zip gs
  ((fmtPlanes c w h).zipIdx).map fun p =>
    let mine := cs.filter fun x => x.1.plane == p.2
    let n := if fmtIs24 c then p.1.1 / 2 else p.1.1
    planeWords c ((List.range p.1.2).map fun y => (List.range n).map fun i => wordAt mine y i)

/-! ### Grids -/

/-- The sample at a position, the nearest edge sample outside. -/
def gridEdge (g : Grid) (x y : Int) : Int :=
  let r := atD g (clampInt 0 (g.length - 1) y).toNat []
  atD r (clampInt 0 (r.length - 1) x).toNat 0

/-- A grid from a function. -/
def gridOf (w h : Nat) (f : Nat → Nat → Int) : Grid :=
  (List.range h).map fun y => (List.range w).map fun x => f x y

def gridW (g : Grid) : Nat := (atD g 0 []).length
def gridH (g : Grid) : Nat := g.length

/-- Restore one axis by R198: full-resolution sample 2i + odd, from neighbours `at`. -/
def upSample (interstitial : Bool) (get : Int → Int) (n : Nat) : Int :=
  let i : Int := (n / 2 : Nat)
  if interstitial then
    (if n % 2 = 0 then (3 * get i + get (i - 1) + 2).fdiv 4 else (3 * get i + get (i + 1) + 2).fdiv 4)
  else (if n % 2 = 0 then get i else (get i + get (i + 1) + 1).fdiv 2)

/-- Restore a subsampled chroma grid to `w` by `h`: the vertical filter runs first (R198). -/
def upChroma (siting : Nat) (hs vs : Bool) (w h : Nat) (g : Grid) : Grid :=
  let g := if vs then gridOf (gridW g) h fun x y => upSample (bitOf siting 1) (fun k => gridEdge g x k) y else g
  if hs then gridOf w h fun x y => upSample (bitOf siting 0) (fun k => gridEdge g k y) x else g

/-- Subsample one axis by R199. -/
def downSample (interstitial vertical : Bool) (get : Int → Int) (i : Nat) : Int :=
  let x : Int := (2 * i : Nat)
  if interstitial then (get x + get (x + 1) + 1).fdiv 2
  else if vertical then (3 * get x + get (x + 1) + 2).fdiv 4
  else (get (x - 1) + 2 * get x + get (x + 1) + 2).fdiv 4

/-- Subsample a full-resolution chroma grid: the vertical filter works on full-resolution lines, so it runs first (R199). -/
def downChroma (siting : Nat) (hs vs : Bool) (g : Grid) : Grid :=
  let g := if vs then gridOf (gridW g) (gridH g / 2) fun x y => downSample (bitOf siting 1) true (fun k => gridEdge g x k) y
    else g
  if hs then gridOf (gridW g / 2) (gridH g) fun x y => downSample (bitOf siting 0) false (fun k => gridEdge g k y) x else g

end Sys2Proof.Machine
end

