-- ==== Sys2Proof/Machine/Compose.lean ====
section
/-! DEFINITION. The composition of a head: components of a layer's frame and the blend of R228 to R230. -/

namespace Sys2Proof.Machine

/-- Floor division by 4,095 with rounding (R230). -/
def blendDiv (n : Int) : Int := (n + 2047).fdiv 4095

/-- One component of one layer over what lies below (R230). Modes: 0 OPAQUE, 1 GLOBAL, 2 PIXEL, 3 PIXEL_PREMULT. -/
def blend (d c a g : Int) (mode : Nat) (chroma : Bool) : Int :=
  if mode = 0 then c
  else
    let ae := blendDiv ((if mode = 2 ∨ mode = 3 then a else 4095) * g)
    let off : Int := if chroma then 2048 else 0
    let cp := if mode = 3 then blendDiv ((c - off) * g) else blendDiv ((c - off) * ae)
    clampInt 0 4095 (off + cp + blendDiv ((d - off) * (4095 - ae)))

/-- A code value as a 12-bit component: a double-word sample is rounded (R229). -/
def to12 (fmt : Nat) (v : Int) : Int := if fmtIs24 fmt then min ((v + 2048).fdiv 4096) 4095 else v

/-- The three components and the alpha of a frame in a head's family, at full resolution (Table 10.1). -/
def layerGrids (fmt w h siting : Nat) (ycc : Bool) (planes : List (List (List Nat))) : List Grid :=
  let gs := (toComps fmt planes).map fun g => g.map fun r => r.map (to12 fmt)
  let full (k : Nat) : Grid :=
    match (fmtComps fmt)[k]? with
    | some c => upChroma siting c.hs c.vs w h (atD gs k [])
    | none => gridOf w h fun _ _ => 4095
  let one (v : Int) : Grid := gridOf w h fun _ _ => v
  if gs.length ≤ 1 then
    let m := atD gs 0 []
    if ycc then [m, one 2048, one 2048, one 4095] else [m, m, m, one 4095]
  else [full 0, full 1, full 2, if fmtHasAlpha fmt then full 3 else one 4095]

/-- A rectangle: x, y, width, height. -/
structure Rect where
  x : Int
  y : Int
  w : Nat
  h : Nat
deriving DecidableEq, Repr

/-- The source rectangle of a layer, clamped to the surface, even for subsampled formats (R228). -/
def srcRect (fmt : Nat) (sr : List Nat) (w h : Nat) : Rect :=
  let x0 := min (atD sr 0 0) w
  let y0 := min (atD sr 1 0) h
  let x0 := if fmtIs422 fmt || fmtIs420 fmt then x0 / 2 * 2 else x0
  let y0 := if fmtIs420 fmt then y0 / 2 * 2 else y0
  let rw := if atD sr 2 0 = 0 then w - x0 else min (atD sr 2 0) (w - x0)
  let rh := if atD sr 3 0 = 0 then h - y0 else min (atD sr 3 0) (h - y0)
  ⟨x0, y0, rw, rh⟩

/-- A rectangle at a destination, clipped to the active raster. -/
def clipRect (dx dy : Int) (w h hAct vAct : Nat) : Rect :=
  let x0 := max dx 0
  let y0 := max dy 0
  let x1 := min (dx + w) hAct
  let y1 := min (dy + h) vAct
  ⟨x0, y0, (x1 - x0).toNat, (y1 - y0).toNat⟩

def rectEmpty (r : Rect) : Bool := r.w == 0 || r.h == 0

/-- Whether a point lies in a rectangle. -/
def inRect (r : Rect) (x y : Int) : Bool := decide (r.x ≤ x ∧ x < r.x + r.w ∧ r.y ≤ y ∧ y < r.y + r.h)

/-- What is left of a rectangle when another is cut out of it. -/
def cutRect (a b : Rect) : List Rect :=
  let x0 := max a.x b.x
  let x1 := min (a.x + a.w) (b.x + b.w)
  let y0 := max a.y b.y
  let y1 := min (a.y + a.h) (b.y + b.h)
  if x1 ≤ x0 ∨ y1 ≤ y0 then [a]
  else
    ([⟨a.x, a.y, a.w, (y0 - a.y).toNat⟩, ⟨a.x, y1, a.w, (a.y + a.h - y1).toNat⟩,
      ⟨a.x, y0, (x0 - a.x).toNat, (y1 - y0).toNat⟩, ⟨x1, y0, (a.x + a.w - x1).toNat, (y1 - y0).toNat⟩] :
      List Rect).filter fun r => !rectEmpty r

/-- Whether the union of rectangles contains a rectangle, computed exactly (R236). -/
def rectCovered (r : Rect) (covers : List Rect) : Bool :=
  (covers.foldl (fun left o => left.flatMap fun a => cutRect a o) [r]).isEmpty

/-- One layer as it is composed: where it lies, how it blends, and its picture (none: its fallback colour). -/
structure LayerPicture where
  area : Rect              -- the destination rectangle
  src : Rect               -- the source rectangle
  mode : Nat
  galpha : Int
  fallback : List Int      -- three components and alpha
  grids : Option (List Grid)
deriving DecidableEq, Repr

/-- One pixel of a layer over what lies below. -/
def layerPixel (ycc : Bool) (below : List Int) (l : LayerPicture) (x y : Nat) : List Int :=
  if !inRect l.area x y then below
  else
    match l.grids with
    | some gs =>
      let sx := (l.src.x + (x - l.area.x)).toNat
      let sy := (l.src.y + (y - l.area.y)).toNat
      let at' (k : Nat) := atD (atD (atD gs k []) sy []) sx 0
      below.zipIdx.map fun d => blend d.1 (at' d.2) (at' 3) l.galpha l.mode (ycc && decide (1 ≤ d.2))
    | none =>
      let mode := if l.mode = 0 then 0 else 2
      below.zipIdx.map fun d =>
        blend d.1 (atD l.fallback d.2 0) (atD l.fallback 3 4095) l.galpha mode (ycc && decide (1 ≤ d.2))

/-- The composed raster of a frame (R230). -/
def composeFrame (ycc : Bool) (w h : Nat) (background : List Int) (ls : List LayerPicture) : List Grid :=
  let px := (List.range h).map fun y => (List.range w).map fun x => ls.foldl (fun b l => layerPixel ycc b l x y) background
  [0, 1, 2].map fun k => px.map fun r => r.map fun p => atD p k 0

end Sys2Proof.Machine
end

