-- ==== Sys2Proof/Machine/Reals.lean ====
section
/-! DEFINITION. Fixed-point logarithm and exponential, and rationals: what the preset tables of ch. 8 round
(R186, R188 to R192). -/

namespace Sys2Proof.Machine

/-- The scale of a fixed-point real: 192 fractional bits. -/
abbrev fxOne : Int := 2 ^ 192

def fxMul (a b : Int) : Int := (a * b).fdiv fxOne
def fxDiv (a b : Int) : Int := if b = 0 then 0 else (a * fxOne).fdiv b
def fxOfRat (n d : Int) : Int := (n * fxOne).fdiv d

/-- Fractional bits of log₂ of y in [1, 2) by repeated squaring, with 400 bits carried. -/
def log2Bits : Nat → Nat → Nat → Nat
  | 0, _, acc => acc
  | k + 1, y, acc =>
    let y2 := y * y / 2 ^ 400
    if 2 ^ 401 ≤ y2 then log2Bits k (y2 / 2) (2 * acc + 1) else log2Bits k y2 (2 * acc)

/-- log₂ of a positive fixed-point real: 128 bits of fraction are exact. -/
def fxLog2 (x : Int) : Int :=
  let n := x.toNat
  if n = 0 then 0
  else
    let e := Nat.log2 n
    let y := n * 2 ^ 400 / 2 ^ e
    ((e : Int) - 192) * fxOne + ((log2Bits 160 y 0 * 2 ^ 32 : Nat) : Int)

/-- The terms of the exponential series from term k on. -/
def expTerms (x : Int) : Nat → Nat → Int → Int → Int
  | 0, _, _, acc => acc
  | n + 1, k, term, acc =>
    let t := (fxMul term x).fdiv (k : Int)
    expTerms x n (k + 1) t (acc + t)

/-- e^x for a fixed-point x in [0, 1]. -/
def fxExpSmall (x : Int) : Int := expTerms x 60 1 fxOne fxOne

/-- The terms of ln 2 = Σ 1 ÷ (k 2^k). -/
def ln2Terms : Nat → Int
  | 0 => 0
  | k + 1 => fxOne.fdiv (((k + 1) * 2 ^ (k + 1) : Nat) : Int) + ln2Terms k

def fxLn2 : Int := ln2Terms 200

/-- 2^x of a fixed-point real. -/
def fxExp2 (x : Int) : Int :=
  let k := x.fdiv fxOne
  let m := fxExpSmall (fxMul (x - k * fxOne) fxLn2)
  if 0 ≤ k then m * 2 ^ k.toNat else m.fdiv (2 ^ (-k).toNat)

/-- x^y of fixed-point reals, x at or above 0. -/
def fxPow (x y : Int) : Int := if x ≤ 0 then 0 else fxExp2 (fxMul y (fxLog2 x))

def fxLn (x : Int) : Int := fxMul (fxLog2 x) fxLn2
def fxExp (x : Int) : Int := fxExp2 (fxDiv x fxLn2)

/-- The nearest integer to scale × x. -/
def fxRound (scale : Int) (x : Int) : Int := (2 * scale * x + fxOne).fdiv (2 * fxOne)

/-! ### Rationals -/

/-- A rational as numerator and positive denominator. -/
structure Q where
  n : Int
  d : Int
deriving DecidableEq, Repr

def qOf (n d : Int) : Q := if d < 0 then ⟨-n, -d⟩ else ⟨n, d⟩
def qInt (n : Int) : Q := ⟨n, 1⟩
def qAdd (a b : Q) : Q := ⟨a.n * b.d + b.n * a.d, a.d * b.d⟩
def qSub (a b : Q) : Q := ⟨a.n * b.d - b.n * a.d, a.d * b.d⟩
def qMul (a b : Q) : Q := ⟨a.n * b.n, a.d * b.d⟩
def qDiv (a b : Q) : Q := qOf (a.n * b.d) (a.d * b.n)

/-- The nearest integer to 65,536 × q, halves away from zero. -/
def qRound16 (q : Q) : Int := roundDiv (q.n * 65536) q.d

/-- A 3 × 3 matrix by rows. -/
abbrev M3 : Type := List (List Q)

def m3At (m : M3) (i j : Nat) : Q := atD (atD m i []) j (qInt 0)
def m3Of (f : Nat → Nat → Q) : M3 := (List.range 3).map fun i => (List.range 3).map fun j => f i j
def m3Mul (a b : M3) : M3 := m3Of fun i j =>
  qAdd (qAdd (qMul (m3At a i 0) (m3At b 0 j)) (qMul (m3At a i 1) (m3At b 1 j))) (qMul (m3At a i 2) (m3At b 2 j))
def m3Vec (a : M3) (v : List Q) : List Q := (List.range 3).map fun i =>
  qAdd (qAdd (qMul (m3At a i 0) (atD v 0 (qInt 0))) (qMul (m3At a i 1) (atD v 1 (qInt 0)))) (qMul (m3At a i 2) (atD v 2 (qInt 0)))
def m3Cof (a : M3) (i j : Nat) : Q :=
  let r (k : Nat) := (i + k) % 3
  let c (k : Nat) := (j + k) % 3
  qSub (qMul (m3At a (r 1) (c 1)) (m3At a (r 2) (c 2))) (qMul (m3At a (r 1) (c 2)) (m3At a (r 2) (c 1)))
def m3Det (a : M3) : Q :=
  qAdd (qAdd (qMul (m3At a 0 0) (m3Cof a 0 0)) (qMul (m3At a 0 1) (m3Cof a 0 1))) (qMul (m3At a 0 2) (m3Cof a 0 2))
def m3Inv (a : M3) : M3 := m3Of fun i j => qDiv (m3Cof a j i) (m3Det a)
def m3Diag (v : List Q) : M3 := m3Of fun i j => if i = j then atD v i (qInt 0) else qInt 0

end Sys2Proof.Machine
end

