-- ==== Sys2Proof/Machine/Colour.lean ====
section
/-! DEFINITION. The colour stage of a shaper: sub-steps 7a to 7g (R184 to R196). `g` reads a property of the stage's
first unit as the job took it. -/

namespace Sys2Proof.Machine

/-- A getter of a job's parameters: property and element. -/
abbrev Params : Type := Nat → Nat → Int

/-! ### 7a: range and YCbCr (R186) -/

/-- Kr and Kb of a YCbCr selection. -/
def krOf (ycc : Int) : Q := if ycc = 0 then ⟨2126, 10000⟩ else ⟨2627, 10000⟩
def kbOf (ycc : Int) : Q := if ycc = 0 then ⟨722, 10000⟩ else ⟨593, 10000⟩

def lumaScale (narrow : Bool) : Q := if narrow then ⟨65520, 56064⟩ else qInt 1
def chromaScale (narrow : Bool) : Q := if narrow then ⟨65520, 57344⟩ else qInt 1
def lumaOff (narrow : Bool) : Int := if narrow then 4096 else 0

/-- The folded matrix and offsets of 7a, for a YCbCr or an RGB input. -/
def decodeMatrix (ycc : Bool) (sel : Int) (narrow : Bool) : List (List Int) × List Int :=
  let yl := lumaScale narrow
  let cl := chromaScale narrow
  if ycc then
    let kr := krOf sel
    let kb := kbOf sel
    let kg := qSub (qSub (qInt 1) kr) kb
    let rr := qMul (qInt 2) (qSub (qInt 1) kr)
    let bb := qMul (qInt 2) (qSub (qInt 1) kb)
    let gcb := qDiv (qMul (qMul (qInt (-1)) kb) bb) kg
    let gcr := qDiv (qMul (qMul (qInt (-1)) kr) rr) kg
    let row (a b c : Q) : List Int := [qRound16 (qMul a yl), qRound16 (qMul b cl), qRound16 (qMul c cl)]
    -- y's coefficient in G' is (1 − Kr − Kb) ÷ (1 − Kr − Kb)
    ([row (qInt 1) (qInt 0) rr, row (qInt 1) gcb gcr, row (qInt 1) bb (qInt 0)], [lumaOff narrow, 32768, 32768])
  else
    let k := qRound16 yl
    ([[k, 0, 0], [0, k, 0], [0, 0, k]], [lumaOff narrow, lumaOff narrow, lumaOff narrow])

def dot3 (r x : List Int) : Int := atD r 0 0 * atD x 0 0 + atD r 1 0 * atD x 1 0 + atD r 2 0 * atD x 2 0

def step7a (m : List (List Int) × List Int) (w : List Int) : List Int :=
  let d := [atD w 0 0 - atD m.2 0 0, atD w 1 0 - atD m.2 1 0, atD w 2 0 - atD m.2 2 0]
  m.1.map fun r => clampInt 0 65535 ((dot3 r d + 32768).fdiv 65536)

/-! ### Encodings (Table 8.2) -/

def pqM1 : Int := fxOfRat 2610 16384
def pqM2 : Int := fxOfRat (2523 * 128) 4096
def pqC1 : Int := fxOfRat 3424 4096
def pqC2 : Int := fxOfRat (2413 * 32) 4096
def pqC3 : Int := fxOfRat (2392 * 32) 4096
def hlgA : Int := fxOfRat 17883277 100000000
def hlgB : Int := fxOfRat 28466892 100000000
def hlgC : Int := fxOfRat 55991073 100000000

/-- D(V) of Table 8.2, fixed point in and out. -/
def decodeCurve (g : Params) (enc : Int) (v : Int) : Int :=
  if enc = 0 then (v * g pShaperLinearPeak 0).fdiv 1048576
  else if enc = 1 then (fxPow v (fxOfRat 12 5) * g pShaperSdrWhite 0).fdiv 100
  else if enc = 2 then
    (if v < fxOfRat 81 1000 then (v * 10).fdiv 45 else fxPow (fxDiv (v + fxOfRat 99 1000) (fxOfRat 1099 1000)) (fxOfRat 20 9))
  else if enc = 3 then
    let p := fxPow v (fxDiv fxOne pqM2)
    100 * fxPow (fxDiv (max (p - pqC1) 0) (pqC2 - fxMul pqC3 p)) (fxDiv fxOne pqM1)
  else if enc = 4 then
    (if v ≤ fxOne / 2 then (fxMul v v).fdiv 3 else (fxExp (fxDiv (v - hlgC) hlgA) + hlgB).fdiv 12)
  else if enc = 5 then (if v < fxOne / 8 then 0 else fxExp2 (16 * v - 9 * fxOne) - fxOne / 128)
  else 0

/-- E of an encoding: the inverse of D; values above D(1) give 1.0. -/
def encodeCurve (g : Params) (enc : Int) (x : Int) : Int :=
  let v :=
    if enc = 0 then (x * 1048576).fdiv (max (g pShaperLinearPeak 0) 1)
    else if enc = 1 then fxPow ((x * 100).fdiv (max (g pShaperSdrWhite 0) 1)) (fxOfRat 5 12)
    else if enc = 2 then
      (if x < fxOfRat 18 1000 then (x * 45).fdiv 10 else fxMul (fxOfRat 1099 1000) (fxPow x (fxOfRat 9 20)) - fxOfRat 99 1000)
    else if enc = 3 then
      let p := fxPow (x.fdiv 100) pqM1
      fxPow (fxDiv (pqC1 + fxMul pqC2 p) (fxOne + fxMul pqC3 p)) pqM2
    else if enc = 4 then
      (if 12 * x ≤ fxOne then fxPow (3 * x) (fxOne / 2) else fxMul hlgA (fxLn (12 * x - hlgB)) + hlgC)
    else (fxLog2 (x + fxOne / 128) + 9 * fxOne).fdiv 16
  if decodeCurve g enc fxOne < x then fxOne else clampInt 0 fxOne v

/-! ### 7b and 7e: the 1D LUTs (R188, R189) -/

/-- Entry n of the pre-LUT. -/
def preEntry (g : Params) (n : Nat) : Int :=
  let enc := g pShaperInEncoding 0
  if enc = 6 then g pShaperPreLut n
  else clampInt 0 4294967295 (fxRound 1048576 (decodeCurve g enc (fxOfRat (min (64 * n) 65520 : Nat) 65520)))

def preLut (g : Params) (w : Int) : Int :=
  let i := (w.toNat / 64)
  let f : Int := w % 64
  let t := preEntry g i
  let d := preEntry g (i + 1) - t
  clampInt 0 4294967295 (t + (d * f + 32).fdiv 64)

/-- The log index of a linear value: index, fraction, fraction bits (R189). -/
def lidx (x : Nat) : Nat × Nat × Nat :=
  if x < 256 then (x, 0, 0)
  else
    let e := Nat.log2 x
    let s := e - 7
    ((e - 6) * 128 + x / 2 ^ s % 128, x % 2 ^ s, s)

/-- The linear value at an index (R189). -/
def xval (i : Nat) : Nat := if i < 256 then i else (128 + i % 128) * 2 ^ (i / 128 - 1)

/-- A table of log indices, interpolated (R189). -/
def logLut (t : Nat → Int) (x : Int) : Int :=
  let l := lidx x.toNat
  if l.2.2 = 0 then t l.1
  else t l.1 + ((t (l.1 + 1) - t l.1) * l.2.1 + 2 ^ (l.2.2 - 1)).fdiv (2 ^ l.2.2)

def postEntry (g : Params) (i : Nat) : Int :=
  let enc := g pShaperOutEncoding 0
  if enc = 6 then g pShaperPostLut i
  else min (fxRound 65520 (encodeCurve g enc (fxOfRat (xval i) 1048576))) 65535

/-! ### 7c: gamut (R190, R191) -/

/-- The primaries and white of a preset in ten-thousandths. -/
def gamutXy (k : Int) : List (Int × Int) :=
  if k = 0 then [(6400, 3300), (3000, 6000), (1500, 600), (3127, 3290)]
  else if k = 1 then [(7080, 2920), (1700, 7970), (1310, 460), (3127, 3290)]
  else if k = 2 then [(6800, 3200), (2650, 6900), (1500, 600), (3127, 3290)]
  else [(6800, 3200), (2650, 6900), (1500, 600), (3140, 3510)]

/-- XYZ of a chromaticity with Y = 1. -/
def xyzOf (p : Int × Int) : List Q := [⟨p.1, p.2⟩, qInt 1, ⟨10000 - p.1 - p.2, p.2⟩]

/-- A gamut's RGB-to-XYZ matrix normalised to white Y = 1. -/
def gamutN (k : Int) : M3 :=
  let ps := gamutXy k
  let col (j : Nat) : List Q := xyzOf (atD ps j (1, 1))
  let p := m3Of fun i j => atD (col j) i (qInt 0)
  m3Mul p (m3Diag (m3Vec (m3Inv p) (col 3)))

def bradford : M3 :=
  [[⟨8951, 10000⟩, ⟨2664, 10000⟩, ⟨-1614, 10000⟩], [⟨-7502, 10000⟩, ⟨17135, 10000⟩, ⟨367, 10000⟩],
   [⟨389, 10000⟩, ⟨-685, 10000⟩, ⟨10296, 10000⟩]]

/-- The Bradford adaptation between the whites of two presets. -/
def adaptM (a b : Int) : M3 :=
  let wa := atD (gamutXy a) 3 (1, 1)
  let wb := atD (gamutXy b) 3 (1, 1)
  if wa = wb then m3Diag [qInt 1, qInt 1, qInt 1]
  else
    let ca := m3Vec bradford (xyzOf wa)
    let cb := m3Vec bradford (xyzOf wb)
    m3Mul (m3Inv bradford) (m3Mul (m3Diag (List.zipWith qDiv cb ca)) bradford)

/-- The gamut matrix in units of 2⁻¹⁶ (R190). -/
def gamutMatrix (g : Params) : List (List Int) :=
  let a := g pShaperInGamut 0
  let b := g pShaperOutGamut 0
  if a = 4 ∨ b = 4 then
    (List.range 3).map fun i => (List.range 3).map fun j => g pShaperGamutMatrix (3 * i + j)
  else
    let m := m3Mul (m3Inv (gamutN b)) (m3Mul (adaptM a b) (gamutN a))
    (List.range 3).map fun i =>
      let r := (List.range 3).map fun j => qRound16 (m3At m i j)
      r.zipIdx.map fun x => if x.2 = i then x.1 + (65536 - r.sum) else x.1

/-! ### 7d: tone (R192 to R195) -/

def toneBasis (g : Params) (x : List Int) : Int :=
  let mode := g pShaperToneMode 0
  if g pShaperToneBasis 0 = 0 ∧ mode ≠ 2 ∧ mode ≠ 3 then max (atD x 0 0) (max (atD x 1 0) (atD x 2 0))
  else (dot3 [g pShaperToneLuma 0, g pShaperToneLuma 1, g pShaperToneLuma 2] x + 32768).fdiv 65536

/-- f(Y), rounded once half up (R193). -/
def toneCurve (lt k ls y : Int) : Int :=
  let lt := clampInt 65536 4294967295 lt
  let k := clampInt 0 (lt - 1) k
  let ls := if ls ≤ lt then lt else ls
  if ls = lt then min y lt
  else if y ≤ k then y
  else if ls ≤ y then lt
  else
    let a := lt - k
    let b := ls - k
    let u := y - k
    k + (2 * u * a * (b * b + a * u) + b * b * (a + u)).fdiv (2 * b * b * (a + u))

/-- Entry i of the gain table of modes 2, 3 and 4 (R192). -/
def gainEntry (g : Params) (i : Nat) : Int :=
  let mode := g pShaperToneMode 0
  if mode = 4 then g pShaperToneTable i
  else if i = 0 then 0
  else
    let alpha := fxOfRat (g pShaperHlgPeak 0) 100
    let gamma := fxOfRat 12 10 + fxMul (fxOfRat 42 100)
      (fxDiv (fxLog2 (fxOfRat (g pShaperHlgPeak 0) 1000)) (fxLog2 (10 * fxOne)))
    let y := fxOfRat (xval i) 1048576
    let gain := if mode = 2 then fxMul alpha (fxPow y (gamma - fxOne))
      else fxDiv (fxPow (fxDiv y alpha) (fxDiv fxOne gamma)) y
    clampInt 0 65535 (fxRound 4096 gain)

def step7d (g : Params) (ls : Int) (x : List Int) : List Int :=
  let mode := g pShaperToneMode 0
  let y := toneBasis g x
  if mode = 0 then x
  else if mode = 1 then
    if y = 0 then x
    else
      let f := toneCurve (g pShaperToneTarget 0) (g pShaperToneKnee 0) ls y
      x.map fun c => min ((c * f + y / 2).fdiv y) 4294967295
  else
    let gn : Int := if y ≤ 4294967295 then logLut (gainEntry g) y else (Config.gainBeyond y).toNat
    x.map fun c => min ((c * gn + 2048).fdiv 4096) 4294967295

/-! ### 7f: the 3D LUT (R196) -/

def lutPos (w : Int) : Nat × Int :=
  let p := (w * 2097152 + 32767).fdiv 65535
  let n := min (p.toNat / 65536) 31
  (n, p - n * 65536)

/-- The axes by descending fraction, R before G before B on ties. -/
def axisOrder (f : List Int) : List Nat :=
  let ins (l : List Nat) (a : Nat) : List Nat :=
    l.takeWhile (fun b => decide (atD f a 0 ≤ atD f b 0)) ++ a :: l.dropWhile (fun b => decide (atD f a 0 ≤ atD f b 0))
  [0, 1, 2].foldl ins []

def lut3d (g : Params) (rgb : List Int) : List Int :=
  let ps := rgb.map lutPos
  let n := ps.map (·.1)
  let f := ps.map (·.2)
  let node (v : List Nat) : List Int := [0, 1, 2].map fun c => g pShaperLut3d (3 * (atD v 0 0 + 33 * atD v 1 0 + 1089 * atD v 2 0) + c)
  let start := node n
  let fin := (axisOrder f).foldl (fun (st : List Nat × List Int × List Int) a =>
    let v := st.1.set a (atD st.1 a 0 + 1)
    let cur := node v
    (v, cur, [0, 1, 2].map fun c => atD st.2.2 c 0 + atD f a 0 * (atD cur c 0 - atD st.2.1 c 0))) (n, start, [0, 0, 0])
  [0, 1, 2].map fun c => clampInt 0 65535 (atD start c 0 + (atD fin.2.2 c 0 + 32768).fdiv 65536)

/-! ### 7g: the output family (R187) -/

/-- Output families: 0 RGB, 1 YCC, 2 mono. -/
def encodeMatrix (family : Nat) (sel : Int) (narrow : Bool) : List (List Int) × List Int :=
  let yl := qDiv (qInt 1) (lumaScale narrow)
  let cl := qDiv (qInt 1) (chromaScale narrow)
  let kr := krOf sel
  let kb := kbOf sel
  let kg := qSub (qSub (qInt 1) kr) kb
  let yrow := [qRound16 (qMul kr yl), qRound16 (qMul kg yl), qRound16 (qMul kb yl)]
  if family = 0 then
    let k := qRound16 yl
    ([[k, 0, 0], [0, k, 0], [0, 0, k]], [lumaOff narrow, lumaOff narrow, lumaOff narrow])
  else if family = 2 then ([yrow], [lumaOff narrow])
  else
    let neg := qInt (-1)
    let cb := qMul (qInt 2) (qSub (qInt 1) kb)
    let cr := qMul (qInt 2) (qSub (qInt 1) kr)
    let rowc (a b c d : Q) : List Int := [a, b, c].map fun x => qRound16 (qMul (qDiv x d) cl)
    ([yrow, rowc (qMul neg kr) (qMul neg kg) (qSub (qInt 1) kb) cb, rowc (qSub (qInt 1) kr) (qMul neg kg) (qMul neg kb) cr],
      [lumaOff narrow, 32768, 32768])

/-- The limits of a component as 7g clamps it. -/
def rangeLimits (family k : Nat) (narrow : Bool) : Int × Int :=
  if !narrow then (0, 65520) else if family = 1 ∧ 1 ≤ k then (4096, 61440) else (4096, 60160)

/-- 7g: the components, and whether one was clamped. -/
def step7g (m : List (List Int) × List Int) (family : Nat) (narrow : Bool) (x : List Int) : List Int × Bool :=
  let raw := m.1.zipIdx.map fun r => atD m.2 r.2 0 + (dot3 r.1 x + 32768).fdiv 65536
  let cl := raw.zipIdx.map fun r => let l := rangeLimits family r.2 narrow; clampInt l.1 l.2 r.1
  (cl, raw != cl)

/-- What the colour stage makes of a pixel: components, gamut clip, range clip, and the basis Y before 7d. -/
structure ColourPixel where
  out : List Int
  gamutClip : Bool
  rangeClip : Bool
  basis : Int
deriving DecidableEq, Repr

/-- The whole of step 7 for one pixel (R184, R185). -/
def colourPixel (g : Params) (dec enc gam : List (List Int) × List Int) (family : Nat) (ls : Int) (w : List Int) : ColourPixel :=
  let steps := (g pShaperColourSteps 0).toNat
  let w := step7a dec w
  let linear := bitOf steps 0 || bitOf steps 1 || bitOf steps 2 || bitOf steps 3
  let narrow := g pShaperOutRange 0 == 1
  let fin (w : List Int) (gc : Bool) (y : Int) : ColourPixel :=
    let w := if bitOf steps 4 then lut3d g w else w
    let r := step7g enc family narrow w
    ⟨r.1, gc, r.2, y⟩
  if !linear then fin w false (toneBasis g (w.map fun c => clampInt 0 4294967295 ((c * 1048576 + 32760).fdiv 65520)))
  else
    let x := if bitOf steps 0 then w.map (preLut g) else w.map fun c => (c * 1048576 + 32760).fdiv 65520
    let raw := if bitOf steps 1 then gam.1.map fun r => (dot3 r x + 32768).fdiv 65536 else x
    let x := raw.map (clampInt 0 4294967295)
    let y := toneBasis g x
    let x := if bitOf steps 2 then step7d g ls x else x
    let w := if bitOf steps 3 then x.map (logLut (postEntry g)) else x.map fun c => min ((c * 65520 + 524288).fdiv 1048576) 65535
    fin w (raw.any fun c => decide (c < 0)) y

/-- The measured peak of a histogram's pixels (R194). -/
def measuredPeak (pct : Int) (ys : List Int) : Nat :=
  let q := ceilDiv (ys.length * pct.toNat) 1000
  let bin (y : Int) : Nat := (lidx (min y.toNat 4294967295)).1 / 32
  let upTo (j : Nat) : Nat := (ys.filter fun y => decide (bin y ≤ j)).length
  let j := ((List.range 104).find? fun j => decide (q ≤ upTo j)).getD 103
  if j = 103 then 4294967295 else xval (32 * (j + 1))

/-- Ls of a later job with measurement on (R195). -/
def nextPeak (prev meas speed : Int) : Int := clampInt 0 4294967295 (prev + ((meas - prev) * speed + 128).fdiv 256)

end Sys2Proof.Machine
end

