-- ==== Sys2Proof/Machine/Shape.lean ====
section
/-! DEFINITION. The shaper pipeline: what a SHAPE stage makes of a frame (R160 to R171, R175, R178). -/

namespace Sys2Proof.Machine

/-! ### Bands (R137, R200, R205) -/

/-- The multiple to which a SHAPE stage's band boundaries are rounded down (R200). -/
def shapeBand (fmt : Nat) : Nat :=
  if fmtLayout fmt ≠ 0 then (if fmtIs420 fmt then 16 else 8) else if fmtIs420 fmt then 2 else 1

/-- Lines [from, to) of band b of u over h lines. -/
def bandLines (h u g b : Nat) : Nat × Nat :=
  let edge (k : Nat) : Nat := if k = u then h else k * h / u / g * g
  (edge b, edge (b + 1))

/-! ### Crop and flip (R164, R165) -/

/-- The crop rectangle as applied: x, y, width, height. -/
def cropRect (g : Params) (fmt w h : Nat) : Nat × Nat × Nat × Nat :=
  let c (i : Nat) : Nat := (g pShaperCrop i).toNat
  let one (o n lim : Nat) : Nat × Nat :=
    let o := min o (lim - 1)
    let n := if n = 0 then lim - o else min n (lim - o)
    if fmtIsCfa fmt then
      let o := o / 2 * 2
      (o, min ((if n % 2 = 1 then n + 1 else n)) (lim - o))
    else (o, n)
  let x := one (c 0) (c 2) w
  let y := one (c 1) (c 3) h
  (x.1, y.1, x.2, y.2)

def cropFlip (g : Params) (r : Nat × Nat × Nat × Nat) (a : Grid) : Grid :=
  let a := ((a.drop r.2.1).take r.2.2.2).map fun l => (l.drop r.1).take r.2.2.1
  let f := (g pShaperFlip 0).toNat
  let a := if bitOf f 0 then a.map List.reverse else a
  if bitOf f 1 then a.reverse else a

/-- The CFA pattern: colours of the sites 0 to 3 (0 R, 1 G, 2 B), after the flips. -/
def cfaPattern (g : Params) (fmt : Nat) : List Nat :=
  let p := match fmtBase fmt with
    | 0x11 => [0, 1, 1, 2] | 0x12 => [1, 0, 2, 1] | 0x13 => [1, 2, 0, 1] | _ => [2, 1, 1, 0]
  let f := (g pShaperFlip 0).toNat
  let p := if bitOf f 0 then [atD p 1 0, atD p 0 0, atD p 3 0, atD p 2 0] else p
  if bitOf f 1 then [atD p 2 0, atD p 3 0, atD p 0 0, atD p 1 0] else p

/-! ### CFA level and demosaic (R166 to R168) -/

def cfaLevel (g : Params) (v : Int) (s : Nat) : Int :=
  let d := max (v - g pShaperCfaBlack s) 0
  min ((d * g pShaperCfaGain s + 2048).fdiv 4096) 4095

def siteOf (x y : Nat) : Nat := x % 2 + 2 * (y % 2)

/-- A site outside the frame is mirrored in steps of 2 (R167). -/
def mirror2 (n : Nat) (i : Int) : Nat :=
  (if i < 0 then -i else if (n : Int) ≤ i then 2 * (n - 1 : Int) - i else i).toNat

def siteAt (a : Grid) (x y : Int) : Int := atD (atD a (mirror2 (gridH a) y) []) (mirror2 (gridW a) x) 0

/-- The kernels of Table 7.2: offsets and weights in sixteenths. -/
def kernCross (n : Int) : List (Int × Int × Int) := [(1, 0, n), (-1, 0, n), (0, 1, n), (0, -1, n)]
def kernFar (n : Int) : List (Int × Int × Int) := [(2, 0, n), (-2, 0, n), (0, 2, n), (0, -2, n)]
def kernDiag (n : Int) : List (Int × Int × Int) := [(1, 1, n), (1, -1, n), (-1, 1, n), (-1, -1, n)]

def kernGreen (grad : Bool) : List (Int × Int × Int) :=
  if grad then (0, 0, 8) :: kernCross 4 ++ kernFar (-2) else kernCross 4
def kernRow (grad : Bool) : List (Int × Int × Int) :=
  if grad then (0, 0, 10) :: [(1, 0, 8), (-1, 0, 8), (2, 0, -2), (-2, 0, -2)] ++ kernDiag (-2) ++ [(0, 2, 1), (0, -2, 1)]
  else [(1, 0, 8), (-1, 0, 8)]
def kernCol (grad : Bool) : List (Int × Int × Int) := (kernRow grad).map fun k => (k.2.1, k.1, k.2.2)
def kernOpp (grad : Bool) : List (Int × Int × Int) :=
  if grad then (0, 0, 12) :: kernDiag 4 ++ kernFar (-3) else kernDiag 4

def applyKernel (a : Grid) (x y : Nat) (k : List (Int × Int × Int)) : Int :=
  clampInt 0 65535 ((k.map fun e => e.2.2 * siteAt a (x + e.1) (y + e.2.1)).sum)

/-- One colour at a site. -/
def demosaicAt (a : Grid) (pat : List Nat) (grad : Bool) (colour x y : Nat) : Int :=
  let own := atD pat (siteOf x y) 1
  if own = colour then 16 * siteAt a x y
  else if colour = 1 then applyKernel a x y (kernGreen grad)
  else if own = 1 then
    -- a G site: is the colour found to its left and right, or above and below?
    if atD pat (siteOf (x + 1) y) 1 = colour then applyKernel a x y (kernRow grad) else applyKernel a x y (kernCol grad)
  else applyKernel a x y (kernOpp grad)

/-! ### Scaling (R169, R175) -/

def axisPos (nIn nOut k : Nat) : Int × Nat :=
  let step : Int := ((nIn * 1048576 + nOut / 2) / nOut : Nat)
  let p := (step - 1048576).fdiv 2 + k * step
  (p.fdiv 1048576, ((p.fdiv 16384) % 64).toNat)

/-- The vertical kernel of a phase at n taps (R175): a reduced count takes the middle taps, renormalised. -/
def reduceTaps (c : List Int) (n phase : Nat) : List Int :=
  let lo := 4 - n / 2
  let k := (c.drop lo).take n
  let s := k.sum
  if s ≤ 0 then
    (List.range n).map fun i => if i + 1 = n / 2 then ((64 - phase) * 64 : Int) else if i = n / 2 then (64 * phase : Nat) else 0
  else
    let k := k.map fun x => (2 * x * 4096 + s).fdiv (2 * s)
    let centre := if phase < 32 then 3 - lo else 4 - lo
    k.zipIdx.map fun x => if x.2 = centre then x.1 + (4096 - k.sum) else x.1

def vertKernel (g : Params) (n phase : Nat) : List Int :=
  let c := (List.range 8).map fun i => g pShaperCoefV (8 * phase + i)
  if n < 8 then reduceTaps c n phase else c

def sumTaps (cs ws : List Int) : Int := clampInt 0 65535 (((List.zipWith (· * ·) cs ws).sum + 2048).fdiv 4096)

/-- Scale one component: the horizontal pass, then the vertical pass. -/
def scaleGrid (g : Params) (taps wo ho : Nat) (a : Grid) : Grid :=
  let wi := gridW a
  let hi := gridH a
  let cols := (List.range wo).map fun x =>
    let p := axisPos wi wo x
    (p.1, (List.range 16).map fun i => g pShaperCoefH (16 * p.2 + i))
  let hor := a.map fun l => cols.map fun c =>
    sumTaps c.2 ((List.range 16).map fun (i : Nat) => atD l (clampInt 0 (wi - 1) (c.1 - 7 + (i : Nat))).toNat 0)
  (List.range ho).map fun y =>
    let p := axisPos hi ho y
    let k := vertKernel g taps p.2
    let first : Int := p.1 - 3 + ((4 - k.length / 2 : Nat) : Int)
    let rows := (List.range k.length).map fun (i : Nat) => atD hor (clampInt 0 (hi - 1) (first + (i : Nat))).toNat []
    (List.range wo).map fun x => sumTaps k (rows.map fun r => atD r x 0)

/-! ### Monitoring aids (R178) -/

def codeOf (w : Int) : Int := min ((w + 8).fdiv 16) 4095

/-- The luma of a pixel; families 0 RGB, 1 YCC, 2 mono. -/
def aidLuma (g : Params) (family : Nat) (px : List Int) : Int :=
  if family = 0 then
    min ((dot3 [g pShaperAidLuma 0, g pShaperAidLuma 1, g pShaperAidLuma 2] (px.map codeOf) + 2048).fdiv 4096) 4095
  else codeOf (atD px 0 0)

/-- Replace the colour components by an aid's colour, codes in the component order of the output. -/
def aidColour (g : Params) (pid start : Nat) (px : List Int) : List Int :=
  px.zipIdx.map fun c => if c.2 < 3 then 16 * g pid (start + c.2) else c.1

def applyAids (g : Params) (family frame : Nat) (lum : Grid) (x y : Nat) (px : List Int) : List Int :=
  let on := (g pShaperAids 0).toNat
  let l := gridEdge lum x y
  let px1 := if bitOf on 0 then
      match (List.range (g pShaperFcCount 0).toNat).find? fun i => decide (l ≤ g pShaperFcTable (4 * i)) with
      | some i => aidColour g pShaperFcTable (4 * i + 1) px
      | none => px
    else px
  let px2 := if bitOf on 1 && decide (g pShaperZebra 0 ≤ l) && decide ((x + y + 4 * (frame % 4)) % 16 < 8) then
      aidColour g pShaperZebra 1 px1 else px1
  let d := (2 * l - gridEdge lum (x - 1) y - gridEdge lum (x + 1) y).natAbs +
    (2 * l - gridEdge lum x (y - 1) - gridEdge lum x (y + 1)).natAbs
  let _ := family
  if bitOf on 2 && decide (g pShaperPeak 0 ≠ 0) && decide (g pShaperPeak 0 ≤ d) then aidColour g pShaperPeak 1 px2 else px2

/-! ### The frame -/

/-- What a job makes of a frame: planes of the output, clip counts and measured peak. -/
structure ShapeResult where
  planes : List (List (List Nat))
  gamutClips : Nat
  rangeClips : Nat
  peak : Nat
deriving DecidableEq, Repr

/-- The output family of a format: 0 RGB, 1 YCC, 2 mono. -/
def fmtFamily (c : Nat) : Nat := if fmtIsYcc c then 1 else if fmtBase c = 0x10 ∨ fmtBase c = 0x40 then 2 else 0

/-- Working samples of the input after steps 1 to 4: components and alpha. -/
def shapeInput (g : Params) (fmt w h : Nat) (planes : List (List (List Nat))) : List Grid × Option Grid :=
  let comps := fmtComps fmt
  let gs := toComps fmt planes
  let siting := (g pShaperInChromaSiting 0).toNat
  let full := (comps.zip gs).map fun c => if c.1.hs || c.1.vs then upChroma siting c.1.hs c.1.vs w h c.2 else c.2
  let rect := cropRect g fmt w h
  let cut := full.map (cropFlip g rect)
  if fmtIsCfa fmt then
    let lev := (atD cut 0 []).zipIdx.map fun r => r.1.zipIdx.map fun v => cfaLevel g v.1 (siteOf v.2 r.2)
    let mode := g pShaperDemosaic 0
    if mode = 0 then ([lev.map fun r => r.map (· * 16)], none)
    else
      let pat := cfaPattern g fmt
      ([0, 1, 2].map fun k => gridOf (gridW lev) (gridH lev) fun x y => demosaicAt lev pat (mode == 2) k x y, none)
  else
    let ws := cut.map fun a => a.map fun r => r.map fun v => if fmtIs24 fmt then v.fdiv 256 else 16 * v
    if fmtHasAlpha fmt then (ws.take 3, ws[3]?) else (ws, none)

/-- The whole of a SHAPE job on one frame (Table 7.1). -/
def shapeFrame (g : Params) (taps frame : Nat) (ls : Int) (fi wi hi fo wo ho : Nat) (planes : List (List (List Nat))) :
    ShapeResult :=
  let inp := shapeInput g fi wi hi planes
  let sc := inp.1.map (scaleGrid g taps wo ho)
  let alpha := inp.2.map (scaleGrid g taps wo ho)
  let family := fmtFamily fo
  let mono := sc.length == 1
  let dec := decodeMatrix (fmtIsYcc fi) (g pShaperInYcc 0) (g pShaperInRange 0 == 1)
  let enc := encodeMatrix family (g pShaperOutYcc 0) (g pShaperOutRange 0 == 1)
  let gam := (gamutMatrix g, [])
  let pix := (List.range ho).map fun y => (List.range wo).map fun x =>
    let c (k : Nat) : Int := atD (atD (atD sc (if mono then 0 else k) []) y []) x 0
    let r := colourPixel g (if mono then decodeMatrix false 0 (g pShaperInRange 0 == 1) else dec) enc gam family ls [c 0, c 1, c 2]
    (r.out ++ (if fmtHasAlpha fo then [match alpha with | some a => atD (atD a y []) x 0 | none => 65520] else []), r)
  let lum := pix.map fun r => r.map fun p => aidLuma g family p.1
  let aided := pix.zipIdx.map fun r => r.1.zipIdx.map fun p => applyAids g family frame lum p.2 r.2 p.1.1
  let siting := (g pShaperOutChromaSiting 0).toNat
  let outs := (fmtComps fo).zipIdx.map fun c =>
    let a : Grid := aided.map fun r => r.map fun p => atD p c.2 0
    let a := if c.1.hs || c.1.vs then downChroma siting c.1.hs c.1.vs a else a
    a.map fun r => r.map fun w => if fmtIs24 fo then w * 256 else codeOf w
  let all := pix.flatten.map (·.2)
  ⟨fromComps fo wo ho outs, (all.filter (·.gamutClip)).length, (all.filter (·.rangeClip)).length,
    if g pShaperToneMeasure 0 = 1 ∧ g pShaperToneMode 0 = 1 then measuredPeak (g pShaperTonePct 0) (all.map (·.basis)) else 0⟩

end Sys2Proof.Machine
end

