-- ==== Sys2Proof/Machine/Tconv.lean ====
section
/-! DEFINITION. The arithmetic of the temporal converters (R206 to R219). -/

namespace Sys2Proof.Machine

/-- Ticks in a second (R206). -/
abbrev tcK : Nat := 65536000000000

/-- The BLEND weight of the later input (R212). -/
def blendWeight (tOut tsA tsB : Int) : Int := ((tOut - tsA) * 65536 + (tsB - tsA).fdiv 2).fdiv (tsB - tsA)

/-- The mix of two samples (R212). -/
def blendMix (wb va vb : Int) : Int := (va * (65536 - wb) + vb * wb + 32768).fdiv 65536

/-- Whether NEAREST uses the earlier input (R212). -/
def nearestIsA (tOut tsA tsB : Int) : Bool := decide (tOut - tsA ≤ tsB - tOut)

/-- The ACCUMULATE position of an input (R213). -/
def accPosition (ts tOut : Int) (n num den : Nat) : Int :=
  (2 * (ts - tOut) * num + n * den * tcK).fdiv (2 * den * tcK)

/-- Insert an index by descending remainder, the lowest index first on ties. -/
def insertRem (r : List Nat) (i : Nat) : List Nat → List Nat
  | [] => [i]
  | j :: js => if atD r j 0 < atD r i 0 then i :: j :: js else j :: insertRem r i js

/-- R214: the weights normalised to 4,096 by largest remainders. -/
def accNormalise (w : List Nat) (n : Nat) : List Nat :=
  let w := padLast0 n w
  let w := if w.sum = 0 then List.replicate n 1 else w
  let s := w.sum
  let q := w.map fun x => x * 4096 / s
  let r := w.map fun x => x * 4096 % s
  let chosen := ((List.range n).foldl (fun l i => insertRem r i l) []).take (4096 - q.sum)
  q.zipIdx.map fun x => if chosen.contains x.2 then x.1 + 1 else x.1
where padLast0 (n : Nat) (l : List Nat) : List Nat := (List.range n).map fun i => atD l i 0

/-- One fold of a sample: the first writes, later ones add (R215). -/
def accFold (first : Bool) (a w v : Nat) : Nat := if first then w * v else a + w * v

/-- The finishing pass of a sample (R215). -/
def accFinish (to24 : Bool) (a s : Nat) : Nat := if to24 then (a * 4096 + s / 2) / s else (a + s / 2) / s

/-- The sub-window of an input (R217). -/
def holdWindow (ts w0 : Int) (m : Nat) (lw : Int) : Int := ((ts - w0) * m).fdiv lw

/-- The doubled distance of an input from its sub-window's midpoint (R217). -/
def holdDist (ts w0 : Int) (m : Nat) (lw : Int) : Int :=
  Int.natAbs (2 * m * (ts - w0) - (2 * holdWindow ts w0 m lw + 1) * lw)

/-- Two by two averaging for the search levels (R218). -/
def halfGrid (g : Grid) : Grid :=
  gridOf ((gridW g + 1) / 2) ((gridH g + 1) / 2) fun x y =>
    let at' (i j : Int) := gridEdge g (2 * x + i) (2 * y + j)
    (at' 0 0 + at' 1 0 + at' 0 1 + at' 1 1 + 2).fdiv 4

/-- The offsets of a vector component into the two inputs (R218). -/
def mciOffA (wb v : Int) : Int := -((wb * v + 32768).fdiv 65536)
def mciOffB (wb v : Int) : Int := mciOffA wb v + v

/-- The SAD of a block at a level (R218). -/
def mciSad (la lb : Grid) (l : Nat) (qx qy : Nat) (wb vx vy : Int) : Int :=
  let n := 16 / 2 ^ l
  ((List.range n).map fun j => ((List.range n).map fun i =>
    let x : Int := (qx / 2 ^ l + i : Nat)
    let y : Int := (qy / 2 ^ l + j : Nat)
    ((gridEdge la (x + mciOffA wb vx) (y + mciOffA wb vy) -
      gridEdge lb (x + mciOffB wb vx) (y + mciOffB wb vy)).natAbs : Int)).sum).sum

/-- The integers from `lo` to `hi`. -/
def intRange (lo hi : Int) : List Int := (List.range (hi - lo + 1).toNat).map fun k => lo + (k : Nat)

/-- Whether a candidate beats the best so far: SAD, then |vx| + |vy|, then vy, then vx (R218). -/
def mciBetter (a b : Int × Int × Int) : Bool :=
  let ka := (a.2.1.natAbs + a.2.2.natAbs : Nat)
  let kb := (b.2.1.natAbs + b.2.2.natAbs : Nat)
  decide (a.1 < b.1) || (a.1 == b.1 && (decide (ka < kb) || (ka == kb &&
    (decide (a.2.2 < b.2.2) || (a.2.2 == b.2.2 && decide (a.2.1 < b.2.1))))))

/-- The best of a list of vectors at a level: its SAD and the vector. -/
def mciBest (la lb : Grid) (l qx qy : Nat) (wb : Int) (vs : List (Int × Int)) : Int × Int × Int :=
  (vs.foldl (fun best v =>
    let c := (mciSad la lb l qx qy wb v.1 v.2, v.1, v.2)
    match best with
    | none => some c
    | some b => if mciBetter c b then some c else some b) none).getD (0, 0, 0)

/-- Vectors of a square of candidates, each component clamped. -/
def mciAround (cx cy r lim : Int) : List (Int × Int) :=
  (intRange (cy - r) (cy + r)).flatMap fun y => (intRange (cx - r) (cx + r)).map fun x =>
    (clampInt (-lim) lim x, clampInt (-lim) lim y)

/-- The search of one block over three levels (R218): SAD at level 0 and v₀. -/
def mciSearch (as bs : List Grid) (qx qy : Nat) (wb : Int) (range : Nat) : Int × Int × Int :=
  let g (l : List Grid) (k : Nat) := atD l k []
  let r2 : Int := (ceilDiv range 4 : Nat)
  let v2 := mciBest (g as 2) (g bs 2) 2 qx qy wb (mciAround 0 0 r2 r2)
  let v1 := mciBest (g as 1) (g bs 1) 1 qx qy wb
    (mciAround (2 * v2.2.1) (2 * v2.2.2) 2 (ceilDiv range 2 : Nat))
  mciBest (g as 0) (g bs 0) 0 qx qy wb (mciAround (2 * v1.2.1) (2 * v1.2.2) 2 range)

/-- The luma grid that MCI searches (R218): Y, or G, or the component itself; bits 23:12 of S24 samples. -/
def mciLuma (fmt : Nat) (gs : List Grid) : Grid :=
  let k := if fmtIsYcc fmt || gs.length ≤ 1 then 0 else 1
  let g := atD gs k []
  if fmtIs24 fmt then g.map fun r => r.map fun v => v.fdiv 4096 else g

/-- What MCI makes of a frame: the grids, the blocks that fell back, and the blocks in all (R218, R219). -/
structure MciResult where
  grids : List Grid
  fallbacks : Nat
  blocks : Nat
deriving DecidableEq, Repr

/-- Motion-compensated interpolation of two inputs (R218, R219). -/
def mciCompose (fmt w h : Nat) (as bs : List Grid) (wb : Int) (range sadLimit : Nat) : MciResult :=
  let l0a := mciLuma fmt as
  let l0b := mciLuma fmt bs
  let la := [l0a, halfGrid l0a, halfGrid (halfGrid l0a)]
  let lb := [l0b, halfGrid l0b, halfGrid (halfGrid l0b)]
  let bw := ceilDiv w 16
  let bh := ceilDiv h 16
  let vecs := (List.range bh).map fun by' => (List.range bw).map fun bx =>
    let v := mciSearch la lb (16 * bx) (16 * by') wb range
    if (256 * sadLimit : Nat) < v.1 then ((0 : Int), (0 : Int), true) else (v.2.1, v.2.2, false)
  let falls := ((vecs.flatten).filter fun v => v.2.2).length
  let out := ((fmtComps fmt).zip (as.zip bs)).map fun c =>
    let a := c.2.1
    let b := c.2.2
    gridOf (gridW a) (gridH a) fun x y =>
      let lx := if c.1.hs then 2 * x else x
      let ly := if c.1.vs then 2 * y else y
      let v := atD (atD vecs (ly / 16) []) (lx / 16) (0, 0, true)
      let hx (o : Int) := if c.1.hs then o.fdiv 2 else o
      let hy (o : Int) := if c.1.vs then o.fdiv 2 else o
      blendMix wb (gridEdge a (x + hx (mciOffA wb v.1)) (y + hy (mciOffA wb v.2.1)))
        (gridEdge b (x + hx (mciOffB wb v.1)) (y + hy (mciOffB wb v.2.1)))
  ⟨out, falls, bw * bh⟩

end Sys2Proof.Machine
end

