-- ==== Sys2Proof/Machine/Admission.lean ====
section
/-! DEFINITION. Admission: what a configuration needs, the checks of Table 6.2, charges and slices
(R142 to R145, R172 to R174, R203, R207, R232 to R235, R282). -/

namespace Sys2Proof.Machine

/-! ### Views of the configuration -/

/-- Merge a bank of property values into a state's properties. -/
def applyDelta (s : State) (m : Map Int) : State :=
  m.foldl (fun s e => setProp s (keyObj e.1) (keyPid e.1) (keyIdx e.1) e.2) s

def headRt0 : HeadRt :=
  ⟨[], [], [], 0, 0, 0, 0, none, none, 0, 0, false, false, false, false, false, [], 0, 0, [], none, 0, [], [], false, []⟩
def headRt (s : State) (h : Nat) : HeadRt := mapGetD s.heads h headRt0
def setHeadRt (s : State) (h : Nat) (r : HeadRt) : State := { s with heads := mapPut s.heads h r }
def updHead (s : State) (h : Nat) (f : HeadRt → HeadRt) : State := setHeadRt s h (f (headRt s h))

def layerRt0 : LayerRt := ⟨.nothing, none, none, 0, [0, 0], false, false, true, false, none, false, []⟩
def layerRt (s : State) (l : ObjId) : LayerRt := mapGetD s.layers l layerRt0
def setLayerRt (s : State) (l : ObjId) (r : LayerRt) : State := { s with layers := mapPut s.layers l r }

def stageRt0 : StageRt := ⟨none, 0, none, none, [], 0, 0, 0, [], none, none, none, 0, 0, none, 0, 0, false, true⟩
def routeRt0 : RouteRt := ⟨[], List.replicate 4 stageRt0, 0, 0, 0, 0, none, none, false, [], []⟩
def routeRt (s : State) (r : ObjId) : RouteRt := mapGetD s.routes r routeRt0
def setRouteRt (s : State) (r : ObjId) (x : RouteRt) : State := { s with routes := mapPut s.routes r x }
def stageRt (s : State) (r : ObjId) (i : Nat) : StageRt := atD (routeRt s r).stages i stageRt0
def setStageRt (s : State) (r : ObjId) (i : Nat) (x : StageRt) : State :=
  setRouteRt s r { routeRt s r with stages := (routeRt s r).stages.set i x }

/-- The head of an object ID, if it is a HEAD. -/
def headIdx (o : ObjId) : Option Nat := if objCls o = clsHead ∧ objInst o < 24 then some (objInst o) else none
def headObj (h : Nat) : ObjId := objId clsHead h

/-- The head that a layer belongs to: none until a commit has applied the layer (R157, R227). -/
def layerHead (s : State) (l : ObjId) : ObjId := if (layerRt s l).headFixed then getPropN s l pLayerHead else 0

/-- The layers of a head in composition order: ascending z, then object ID (R227). -/
def insertZ (s : State) (l : ObjId) : List ObjId → List ObjId
  | [] => [l]
  | x :: xs =>
    if getProp s l pLayerZ < getProp s x pLayerZ then l :: x :: xs else x :: insertZ s l xs

def headLayers (s : State) (h : Nat) : List ObjId :=
  ((objsOf s clsLayer).filter fun l => layerHead s l == headObj h).foldl (fun acc l => insertZ s l acc) []

/-- Whether a layer names a route. -/
def layerNames (s : State) (l r : ObjId) : Bool := getPropN s l pLayerRoute == r || getPropN s l pLayerBackup == r

/-- The routes that are bound or prerolled (R140). -/
def routeWanted (s : State) (r : ObjId) : Bool :=
  (getProp s r pRoutePreroll == 1 && !(routeRt s r).removed) ||
  !(routeRt s r).removed && (objsOf s clsLayer).any fun l => layerHead s l != 0 && layerNames s l r

/-- Whether a head runs in the evaluated configuration. -/
def headRuns (s : State) (h : ObjId) : Bool := objCls h == clsHead && getProp s h pHeadRun == 1

/-- The cadence rate of a head as numerator and denominator; none without a cadence. -/
def headRate (s : State) (h : ObjId) : Option (Nat × Nat) :=
  let c := getPropN s h pHeadCadence
  if c = 0 then none else some (getPropN s c pCadenceRate 0, getPropN s c pCadenceRate 1)

/-- One stage as configured: its kind, its units and its ring (R136, R137). -/
structure StageCfg where
  kind : Nat
  units : List ObjId
  ring : ObjId
deriving DecidableEq, Repr

/-- Elements up to the first that is 0. -/
def upToZero (l : List Nat) : List Nat := l.takeWhile (· != 0)

def stagesFrom (s : State) (r : ObjId) : Nat → Nat → List StageCfg
  | 0, _ => []
  | n + 1, i =>
    let k := getPropN s r pRouteStageKind i
    if k = 0 then []
    else ⟨k, upToZero ((getProps s r pRouteStageUnits (8 * i) 8).map Int.toNat), getPropN s r pRouteStageRings i⟩ ::
      stagesFrom s r n (i + 1)

/-- The stages of a route (R136). -/
def routeStages (s : State) (r : ObjId) : List StageCfg := stagesFrom s r 4 0

/-- The output ring or surface of a route. -/
def routeOutput (s : State) (r : ObjId) : ObjId :=
  match (routeStages s r).getLast? with
  | some x => x.ring
  | none => getPropN s r pRouteSource

/-- Format, width, height and MTC mode of a ring or a standalone surface. -/
def picOf (s : State) (o : ObjId) : Option (Nat × Nat × Nat × Nat) :=
  if objCls o = clsRing then (ringOf s o).map fun r => (r.format, r.width, r.height, r.mtc)
  else (surfOf s o).map fun f => (f.format, f.width, f.height, f.mtc)

/-- The input of stage i of a route. -/
def stageInput (s : State) (r : ObjId) (i : Nat) : ObjId :=
  if i = 0 then getPropN s r pRouteSource else (atD (routeStages s r) (i - 1) ⟨0, [], 0⟩).ring

/-- Pixels of a frame as R144 counts them: a CFA site or a luma sample is one pixel. -/
def picPixels (p : Nat × Nat × Nat × Nat) : Nat := p.2.1 * p.2.2.1

def picBytes (p : Nat × Nat × Nat × Nat) : Nat := fmtChargeBytes p.1 p.2.1 p.2.2.1 p.2.2.2

/-- The route and stage whose ring a ring is, among given routes. -/
def producerOf (s : State) (routes : List ObjId) (ring : ObjId) : Option (ObjId × Nat) :=
  routes.findSome? fun r =>
    match (routeStages s r).findIdx? fun g => g.ring == ring with
    | some i => some (r, i)
    | none => none

/-- The declared rate at which a ring is written: its port's, or that of the route stage that writes it. A chain of rings
passes each route at most once (R142). -/
def ringRate (s : State) (routes : List ObjId) : Nat → ObjId → Option (Nat × Nat)
  | 0, _ => none
  | fuel + 1, ring =>
    match producerOf s routes ring with
    | some (r, i) =>
      if ((routeStages s r).take (i + 1)).any (fun g => g.kind == 2) || getProp s r pRoutePlay == 1 then
        headRate s (getPropN s r pRouteHead)
      else
        let src := getPropN s r pRouteSource
        if objCls src = clsRing then ringRate s routes fuel src else headRate s (getPropN s r pRouteHead)
    | none =>
      match ringOf s ring with
      | some g => match g.writer with
        | some (.port p) => some (getPropN s p pPortInRate 0, getPropN s p pPortInRate 1)
        | _ => none
      | none => none

/-- The input rate of stage i (R144, R308): the head's where the source declares none. -/
def stageRate (s : State) (routes : List ObjId) (r : ObjId) (i : Nat) : Option (Nat × Nat) :=
  let hr := headRate s (getPropN s r pRouteHead)
  if getProp s r pRoutePlay = 1 || ((routeStages s r).take i).any (fun g => g.kind == 2) then hr
  else
    let src := getPropN s r pRouteSource
    if objCls src = clsRing then ringRate s routes (routes.length + 1) src <|> hr else hr

/-! ### Charges and loads -/

/-- ⌈a × num ÷ den⌉. -/
def perSec (a : Nat) (r : Nat × Nat) : Nat := ceilDiv (a * r.1) r.2

/-- The g of R205: the multiple to which band boundaries are rounded down. -/
def tconvBand (mode fmt : Nat) : Nat :=
  if mode = 5 ∨ (fmtIs420 fmt ∧ fmtLayout fmt ≠ 0) then 16
  else if fmtLayout fmt ≠ 0 then 8
  else if fmtIs420 fmt || fmtIsCfa fmt then 2 else 1

/-- Lines of the largest band of `u` units over `h` lines with boundaries multiples of `g`. -/
def largestBand (h u g : Nat) : Nat :=
  ((List.range u).map fun b =>
    (if b + 1 = u then h else (b + 1) * h / u / g * g) - b * h / u / g * g).foldl max 0

/-- P_u: the pixels of the largest band. -/
def bandPixels (p : Nat × Nat × Nat × Nat) (u g : Nat) : Nat := p.2.1 * largestBand p.2.2.1 u g

/-- The ACCUMULATE weights of a stage, normalised (R214). -/
def tconvNorm (s : State) (u : ObjId) : List Nat :=
  let n := getPropN s u pTconvAccPositions
  accNormalise ((getProps s u pTconvAccWeights 0 n).map Int.toNat) n

/-- Work pixels of a convert job, as a multiple of the frame's pixels, and its bytes (Table 9.2). -/
def tconvWork (s : State) (u : ObjId) (inp out : Nat × Nat × Nat × Nat) : Nat × Nat :=
  let bi := picBytes inp
  let bo := picBytes out
  let bacc := 2 * fmtFrameBytes inp.1 inp.2.1 inp.2.2.1
  match getPropN s u pTconvMode with
  | 1 => (2, 2 * bi + bo)
  | 2 =>
    let nz := ((tconvNorm s u).filter (· != 0)).length
    (nz + 1, nz * bi + 2 * nz * bacc + bo)
  | 3 | 4 =>
    let m := getPropN s u pTconvHoldSamples
    (m, m * bi + (2 * m - 1) * bo)
  | 5 => (8, 4 * bi + bo)
  | _ => (1, bi + bo)

/-- t_fold and t_fin in ticks at 4 Gpix/s (Table 9.2). -/
def tconvTimes (s : State) (u : ObjId) (pu : Nat) : Nat × Nat :=
  let one (k : Nat) := ceilDiv (k * pu * nsT) 4
  match getPropN s u pTconvMode with
  | 1 => (0, one 2)
  | 2 => (one 1, one 1)
  | 3 | 4 => (one 1, 0)
  | 5 => (0, one 8)
  | _ => (0, one 1)

/-- The guard in ticks (R207). -/
def tconvGuard (s : State) (u : ObjId) (pu : Nat) : Nat := (tconvTimes s u pu).1 + (tconvTimes s u pu).2 + 20 * usT

/-- What one stage costs: its charge in B/s and its load per unit in pix/s (R144, R207). -/
def stageCost (s : State) (routes : List ObjId) (r : ObjId) (i : Nat) (g : StageCfg) : Nat × Nat :=
  match picOf s (stageInput s r i), picOf s g.ring with
  | some inp, some out =>
    if g.kind = 1 then
      match stageRate s routes r i with
      | some rate => (perSec (picBytes inp + picBytes out) rate,
          ceilDiv (max (picPixels inp) (picPixels out) * rate.1) (rate.2 * g.units.length))
      | none => (0, 0)
    else
      match headRate s (getPropN s r pRouteHead) with
      | some rate =>
        let u := atD g.units 0 0
        let w := tconvWork s u inp out
        let pu := bandPixels out g.units.length (tconvBand (getPropN s u pTconvMode) out.1)
        (perSec w.2 rate, perSec (w.1 * pu) rate)
      | none => (0, 0)
  | _, _ => (0, 0)

/-- The words [from, to) of a line and the lines [from, to) that a rectangle touches in plane `k`: every word of every
component sample of its pixels (R106, R110). -/
structure PlaneSpan where
  x0 : Nat
  x1 : Nat
  y0 : Nat
  y1 : Nat
deriving DecidableEq, Repr

def planeSpan (fmt k : Nat) (r : Rect) : PlaneSpan :=
  let cs := (fmtComps fmt).filter fun c => c.plane == k
  let half (b : Bool) (up : Bool) (n : Nat) : Nat := if b then (if up then (n + 1) / 2 else n / 2) else n
  let wide (n : Nat) : Nat := if fmtIs24 fmt then 2 * n else n
  let lo := cs.map fun c => half c.hs false r.x.toNat * c.step + c.off
  let hi := cs.map fun c => (half c.hs true (r.x.toNat + r.w) - 1) * c.step + c.off + 1
  let vs := cs.any (·.vs)
  ⟨wide (lo.foldl min (lo.headD 0)), wide (hi.foldl max 0), half vs false r.y.toNat, half vs true (r.y.toNat + r.h)⟩

/-- The bytes of a column span, rounded outward to 64-byte boundaries (R232). -/
def spanLine (p : PlaneSpan) : Nat := roundUp (ceilDiv (p.x1 * 12) 8) 64 - p.x0 * 12 / 8 / 64 * 64

/-- The bytes that a fetch of a rectangle reads in plane `k` (R232). -/
def planeFetch (fmt k : Nat) (r : Rect) : Nat :=
  let p := planeSpan fmt k r
  if fmtLayout fmt = 0 then spanLine p * (p.y1 - p.y0)
  else (ceilDiv p.x1 32 - p.x0 / 32) * (ceilDiv p.y1 8 - p.y0 / 8) * 384

/-- The fetch bytes per frame of a rectangle of a picture (R232). -/
def fetchBytes (p : Nat × Nat × Nat × Nat) (r : Rect) : Nat :=
  if rectEmpty r then 0
  else
    let b := ((List.range (fmtPlanes p.1 p.2.1 p.2.2.1).length).map fun k => planeFetch p.1 k r).sum
    if fmtLayout p.1 = 2 then
      (match p.2.2.2 with | 1 => ceilDiv b 2 | 2 => ceilDiv b 3 | _ => b) + ceilDiv b 192
    else b

/-- The fetch rectangle of a layer for a picture: the part of its source that maps onto the visible rectangle (R228). -/
def fetchRect (s : State) (l : ObjId) (p : Nat × Nat × Nat × Nat) (hAct vAct : Nat) : Rect :=
  let sr := srcRect p.1 (getPropsN s l pLayerSrcRect 4) p.2.1 p.2.2.1
  let dx := getProp s l pLayerDest 0
  let dy := getProp s l pLayerDest 1
  let v := clipRect dx dy sr.w sr.h hAct vAct
  ⟨sr.x + (v.x - dx), sr.y + (v.y - dy), v.w, v.h⟩

def rasterOf (s : State) (h : ObjId) : Nat × Nat × Nat × Nat :=
  (getPropN s h pHeadRaster 0, getPropN s h pHeadRaster 1, getPropN s h pHeadRaster 2, getPropN s h pHeadRaster 3)

/-- A layer's fetch bytes per frame: the larger of primary and backup; 0 while invisible (R144, R232). -/
def layerFetch (s : State) (l : ObjId) : Nat :=
  let h := layerHead s l
  if getProp s l pLayerVisible = 0 ∨ h = 0 then 0
  else
    let ra := rasterOf s h
    ([getPropN s l pLayerRoute, getPropN s l pLayerBackup].map fun r =>
      if r = 0 then 0 else match picOf s (routeOutput s r) with
        | some p => fetchBytes p (fetchRect s l p ra.1 ra.2.1)
        | none => 0).foldl max 0

/-- Every commit sealed and not applied, on any head. -/
def allCommits (s : State) : List Commit := s.heads.flatMap fun h => h.2.commits

/-- Whether a head has a hold surface, or a sealed commit brings one (R238). -/
def holdHeld (s : State) (h : ObjId) : Bool :=
  (headRt s (objInst h)).holdSurf != 0 || (allCommits s).any fun c => c.made.any fun m => m.1 == h

/-- The still charge of a head, while it has a hold surface (R238). -/
def stillCharge (s : State) (h : ObjId) : Nat :=
  match headRate s h with
  | some rate =>
    let ra := rasterOf s h
    if headRuns s h && getProp s h pHeadStillAfter != 0 && holdHeld s h then
      ceilDiv (ra.1 * ra.2.1 * 9 * 193 * rate.1) (2 * 192 * rate.2)
    else 0
  | none => 0

/-- The routes that run in the evaluated configuration. -/
def liveRoutes (s : State) : List ObjId :=
  (objsOf s clsRoute).filter fun r => routeWanted s r && headRuns s (getPropN s r pRouteHead)

/-- The charge of a route: its stages and, for a layer's primary, the layer fetch (R144). -/
def routeCharge (s : State) (routes : List ObjId) (r : ObjId) : Nat :=
  let st := ((routeStages s r).zipIdx.map fun g => (stageCost s routes r g.2 g.1).1).sum
  let fetch := ((objsOf s clsLayer).map fun l =>
    let h := layerHead s l
    let mine := getPropN s l pLayerRoute == r || (getPropN s l pLayerRoute == 0 && getPropN s l pLayerBackup == r)
    if mine then match headRate s h with
      | some rate => if headRuns s h then perSec (layerFetch s l) rate else 0
      | none => 0
    else 0).sum
  st + fetch

/-- Delay-line charge of a source block: (1 + distinct delays) × stride × fs (R288). -/
def blockDelays (s : State) (running : ObjId → Bool) (party : ObjId) : List Nat :=
  let b := srcBase s party
  (((objsOf s clsAudioCh).filter fun c =>
    pathReserved s running c && decide (getProp s c pAudioChDelay ≠ 0) &&
    decide (b ≤ getPropN s c pAudioChSource ∧ getPropN s c pAudioChSource < b + srcChannels s party)).map
    fun c => getPropN s c pAudioChDelay).eraseDups

def delayCharge (s : State) (running : ObjId → Bool) (party : ObjId) : Nat :=
  let ds := blockDelays s running party
  if ds.isEmpty ∨ srcBase s party = noChannel then 0
  else
    let parts := ceilDiv (srcChannels s party) 64
    let rate := classRate (rateClass s party)
    perSec ((1 + ds.length) * 192 * parts) rate

/-- The charge of an SDI or D2110 egress port: the reads of R252 at its head's frame rate (R247). -/
def outCharge (s : State) (p : ObjId) : Nat :=
  let k := getProp s p pPortOutKind
  if (k = 1 ∨ k = 4) ∧ getProp s p pPortOutState ≠ 0 then
    match headRate s (getPropN s p pPortOutHead) with
    | some r => perSec 65664 r
    | none => 0
  else 0

/-- The charges of a configuration by owner: ports as they stand, routes, heads and delay lines. -/
def chargesOf (s : State) : Map Nat :=
  let routes := liveRoutes s
  let run (r : ObjId) : Bool := routes.contains r
  let m := routes.foldl (fun m r => mapPut m r (routeCharge s routes r)) ([] : Map Nat)
  let m := (List.range 24).foldl (fun m h => let c := stillCharge s (headObj h); if c = 0 then m else mapPut m (headObj h) c) m
  let m := audioProducers.foldl (fun m p => let c := delayCharge s run p; if c = 0 then m else mapPut m (p + 0x80000000) c) m
  let m := (List.range 128).foldl (fun m i =>
    let p := objId clsPortOut i
    let c := outCharge s p
    if c = 0 then m else mapPut m p c) m
  s.ports.foldl (fun m p => if p.2.charge = 0 then m else mapPut m (objId clsPortIn p.1) p.2.charge) m

/-- The greater charge of each owner in two maps. -/
def maxCharges (a b : Map Nat) : Map Nat := b.foldl (fun m e => mapPut m e.1 (max e.2 (mapGetD m e.1 0))) a

/-- The reserved charges: in force, and those that sealed commits add (R145). -/
def reservedCharges (s : State) : Map Nat := (allCommits s).foldl (fun m c => maxCharges m c.charges) s.charges

def sumCharges (m : Map Nat) : Nat := (m.map (·.2)).sum

/-- `system.fs_charge` (R145). -/
def fsCharge (s : State) : Nat := sumCharges (reservedCharges s)

/-- The admission budget (R18). -/
abbrev fsBudget : Nat := 3675000000000

/-! ### The checks of Table 6.2 -/

/-- Why admission fails (Table 6.3). -/
structure Refused where
  reason : Nat
  stage : Nat := 0xFF
  object : ObjId := 0
  charge : Nat := 0
  load : Nat := 0
deriving DecidableEq, Repr

/-- The NOT_ADMITTED payload (Table 6.3). -/
def refusedPayload (r : Refused) : List Byte :=
  toLe 1 r.reason ++ toLe 1 r.stage ++ toLe 2 0 ++ toLe 4 r.object ++ toLe 8 r.charge ++ toLe 8 fsBudget ++ toLe 8 r.load

/-- Whether a source can be read: it exists and is not FREEING. -/
def sourceOk (s : State) (o : ObjId) : Bool :=
  if objCls o = clsRing then (match ringOf s o with | some r => !r.freeing | none => false)
  else match surfOf s o with
    | some f => !surfFreeing s f
    | none => false

/-- Whether a chain of sources and stage rings returns to a ring. -/
def ringCycle (s : State) (routes : List ObjId) (goal : ObjId) : Nat → ObjId → Bool
  | 0, _ => false
  | fuel + 1, x =>
    match producerOf s routes x with
    | some (r, i) => let y := stageInput s r i; y == goal || ringCycle s routes goal fuel y
    | none => false

/-- The layers that a route feeds. -/
def feeds (s : State) (r : ObjId) : List ObjId :=
  (objsOf s clsLayer).filter fun l => layerHead s l != 0 && layerNames s l r

/-- Check 1, TOPOLOGY, with the playing routes of R307. -/
def checkTopology (s : State) (routes : List ObjId) : Option Refused :=
  match (objsOf s clsLayer).find? fun l =>
    layerHead s l != 0 && getProp s l pLayerRoute != 0 && getProp s l pLayerRoute == getProp s l pLayerBackup with
  | some l => some { reason := 1, object := l }
  | none =>
    (routes.find? fun r =>
      let st := routeStages s r
      let src := getPropN s r pRouteSource
      let playBad := getProp s r pRoutePlay == 1 &&
        !((match ringOf s src with | some g => decide (g.cap = .frozen) | none => false) && !st.any fun g => g.kind == 2)
      src == 0 || !sourceOk s src || decide (1 < (st.filter fun g => g.kind == 2).length) ||
        decide (1 < (feeds s r).length) || (feeds s r).any (fun l => layerHead s l != getPropN s r pRouteHead) ||
        st.any (fun g => ringCycle s routes g.ring 40 g.ring) || playBad).map fun r => { reason := 1, object := r }

/-- The index in `system.spare_map` of a unit of Table 20.5: kinds 2 SHAPER to 6 EGRESS_ENGINE (Table 20.9). -/
def unitIdx (kind index : Nat) : Nat :=
  match kind with
  | 2 => index
  | 3 => 34 + index
  | 4 => 47 + index
  | 5 => if index < 64 then 73 + index else 137 + index
  | _ => if index < 64 then 137 + index else 145 + index

/-- The index of a unit object's place in `system.spare_map`. -/
def spareIdx (u : ObjId) : Nat := if objCls u = clsShaper then objInst u else 34 + objInst u

/-- The unit that does the work of a place: its own, or the spare that took it (R12). -/
def unitAt (s : State) (p : Nat) : Nat := mapGetD s.places p p

/-- Follow back the moves that a unit's own place came to: the unit that the object of a displaced place now names. -/
def chaseUnit (s : State) : Nat → Nat → Nat
  | 0, q => q
  | n + 1, q => match s.places.find? fun e => e.2 == q with
    | some e => chaseUnit s n e.1
    | none => q

/-- The unit that an object names: that of its place, or, where a move took that unit for another place, the unit that
the move set free (R12: the spare role belongs to whichever units are out of service). -/
def objUnit (s : State) (p : Nat) : Nat :=
  match mapGet s.places p with
  | some q => q
  | none => chaseUnit s 34 p

/-- The role of a unit, and whether it holds another unit's work. -/
def unitRole (s : State) (q : Nat) : Nat := getPropN s sysObj pSystemSpareMap q % 8
def unitHolds (s : State) (q : Nat) : Bool := bitOf (getPropN s sysObj pSystemSpareMap q) 3

/-- Whether the unit of a place is gloved. -/
def placeGloved (s : State) (p : Nat) : Bool := unitRole s (unitAt s p) == 2

/-- Units held by routes that are still stopping. -/
def stoppingUnits (s : State) (routes : List ObjId) : List ObjId :=
  ((objsOf s clsRoute).filter fun r => getProp s r pRouteState != 0 && !routes.contains r).flatMap fun r =>
    (routeRt s r).units.flatten

/-- Whether a unit's object is served: its unit is in service, or a chosen spare is about to take the work (R12, R155). -/
def unitInService (s : State) (u : ObjId) : Bool :=
  let p := spareIdx u
  let q := unitAt s p
  (unitRole s q == 0 && (q != p || !unitHolds s q)) ||
    s.works.any fun w => w.spare.isSome && !w.test && decide (2 ≤ w.kind) && unitIdx w.kind w.index == q

/-- Check 2, UNITS. A route whose head is stopped holds no units, and finds none held (R225). -/
def checkUnits (s : State) (routes live : List ObjId) : Option Refused :=
  let stop := stoppingUnits s routes
  let all := routes.flatMap fun r => (routeStages s r).zipIdx.map fun g => (r, g)
  all.zipIdx.findSome? fun e =>
    let (r, g) := e.1
    if g.1.units.isEmpty then some { reason := 2, stage := g.2, object := r }
    else
      let want := if g.1.kind = 1 then clsShaper else clsTconv
      -- a stage finds a unit held that a stage before it names
      let held := ((all.take e.2).filter fun x => live.contains x.1).flatMap fun x => x.2.1.units
      (g.1.units.find? fun u =>
        objCls u != want || !unitInService s u || (live.contains r && (stop.contains u || held.contains u))).map
          fun u => { reason := 2, stage := g.2, object := u }

/-- The S24 counterpart of a base that ACCUMULATE may write (R203). -/
def accCounterpart (b : Nat) : Nat :=
  match b with
  | 0x10 => 0x40 | 0x20 => 0x41 | 0x21 => 0x42 | 0x22 => 0x44 | 0x23 => 0x43 | _ => 0

/-- Whether a unit reads a format: every image format but BYTES and A24_PCM (R162, R203). -/
def imageFormat (c : Nat) : Bool := c != 0 && fmtBase c != 0x01 && fmtBase c != 0x50

/-- Whether a stage can write its ring from its input (R162, R203). -/
def stageWrites (s : State) (g : StageCfg) (inp out : Nat × Nat × Nat × Nat) : Bool :=
  if g.kind = 1 then imageFormat inp.1 && imageFormat out.1 && !fmtIsCfa out.1
  else
    let mode := getPropN s (atD g.units 0 0) pTconvMode
    let same := fmtBase inp.1 == fmtBase out.1
    imageFormat inp.1 && inp.2.1 == out.2.1 && inp.2.2.1 == out.2.2.1 &&
    (if mode = 2 then !fmtIs24 inp.1 && (same || (accCounterpart (fmtBase inp.1) == fmtBase out.1))
     else same) &&
    !((mode == 3 || mode == 4) && fmtLayout out.1 == 2) && !(mode == 5 && fmtIsCfa inp.1)

/-- Whether a ring is bound by a port of the running configuration. -/
def portWrites (s : State) (ring : ObjId) : Bool :=
  match ringOf s ring with
  | some r => match r.writer with | some (.port _) => true | _ => false
  | none => false

/-- Whether another route than `r` writes a ring. -/
def otherStage (s : State) (r ring : ObjId) : Bool :=
  match ringOf s ring with
  | some g => match g.writer with | some (.stage q _) => q != r | _ => false
  | none => false

/-- Check 3, RINGS. A route whose head is stopped binds no rings, and finds none bound (R225). -/
def checkRings (s : State) (routes live : List ObjId) : Option Refused :=
  let all := live.flatMap fun r => (routeStages s r).map fun g => g.ring
  routes.findSome? fun r => (routeStages s r).zipIdx.findSome? fun g =>
    let ok := match ringOf s g.1.ring, picOf s (stageInput s r g.2), picOf s g.1.ring with
      | some ring, some inp, some out =>
        !ring.freeing && decide (3 ≤ ring.length) && stageWrites s g.1 inp out &&
        (!live.contains r || ((all.filter (· == g.1.ring)).length == 1 && !portWrites s g.1.ring && !otherStage s r g.1.ring))
      | _, _, _ => false
    if ok then none else some { reason := 3, stage := g.2, object := if g.1.ring = 0 then r else g.1.ring }

/-- Check 4, RATE: a ring that nothing writes declares no rate to differ. -/
def checkRate (s : State) (routes : List ObjId) : Option Refused :=
  (routes.find? fun r =>
    let src := getPropN s r pRouteSource
    objCls src == clsRing && !(routeStages s r).any (fun g => g.kind == 2) && getProp s r pRoutePlay == 0 &&
    match ringRate s routes (routes.length + 1) src, headRate s (getPropN s r pRouteHead) with
    | some a, some b => a.1 * b.2 != b.1 * a.2
    | none, _ => false
    | _, none => headRuns s (getPropN s r pRouteHead)).map fun r => { reason := 4, object := r }

/-- Check 5, UNIT_RATE. -/
def checkUnitRate (s : State) (routes : List ObjId) (sum : Nat) : Option Refused :=
  (routes.filter fun r => headRuns s (getPropN s r pRouteHead)).findSome? fun r =>
    (routeStages s r).zipIdx.findSome? fun g =>
      let load := (stageCost s routes r g.2 g.1).2
      if (if g.1.kind = 1 then 6400000000 else 4000000000) < load then
        some { reason := 5, stage := g.2, object := atD g.1.units 0 0, charge := sum, load := load }
      else none

/-- The formats of Table 10.1 for a family. -/
def familyReads (ycc : Bool) (fmt : Nat) : Bool :=
  if ycc then [0x10, 0x21, 0x23, 0x30, 0x31, 0x32, 0x33, 0x34, 0x40, 0x42, 0x43].contains (fmtBase fmt)
  else [0x10, 0x20, 0x22, 0x35, 0x40, 0x41, 0x44].contains (fmtBase fmt)

/-- Active rate, scan rate and fetch rate of a head (R233), rounded up. -/
def headLoad (s : State) (h : ObjId) : Nat × Nat × Nat :=
  match headRate s h with
  | none => (0, 0, 0)
  | some rate =>
    let ra := rasterOf s h
    let fetch := ((headLayers s (objInst h)).map (layerFetch s)).sum
    (perSec (ra.1 * ra.2.1) rate, perSec (ra.2.2.1 * ra.2.2.2) rate, ceilDiv (fetch * ra.2.2.2 * rate.1) (ra.2.1 * rate.2))

/-- The layer that would be a head's seventeenth: of those that neither the device `s` as it stands nor a sealed commit gives
the head, in order of object ID (R227). -/
def seventeenth (s v : State) (h : Nat) : Option ObjId :=
  let ls := headLayers v h
  let has (l : ObjId) : Bool := (headLayers s h).contains l || (allCommits s).any fun c => c.values.any fun e => keyObj e.1 == l
  let new' := (objsOf v clsLayer).filter fun l => ls.contains l && !has l
  if ls.length ≤ 16 then none
  else match new'[16 - (ls.length - new'.length)]? with
    | some l => some l
    | none => ls[16]?

/-- Check 6, HEAD_RATE, on an evaluated configuration `v`; `s0` is the device as it stands. -/
def checkHeads (s0 s : State) (origin : ObjId) (sum : Nat) : Option Refused :=
  let running := (List.range 24).filter fun h => headRuns s (headObj h)
  match (List.range 24).findSome? fun h => (seventeenth s0 s h).map fun l =>
    ({ reason := 6, object := l, charge := sum } : Refused) with
  | some r => some r
  | none =>
    match running.findSome? fun h =>
      let o := headObj h
      let ycc := getProp s o pHeadCompFormat == 1
      let bad := (objsOf s clsRoute).any fun r => routeWanted s r && getPropN s r pRouteHead == o &&
        match picOf s (routeOutput s r) with | some p => !familyReads ycc p.1 | none => false
      let ld := headLoad s o
      if (headRate s o).isNone || bad then some ({ reason := 6, object := o, charge := sum } : Refused)
      else if 10000000000 < ld.1 then some { reason := 6, object := o, charge := sum, load := ld.1 }
      else if 12000000000 < ld.2.1 then some { reason := 6, object := o, charge := sum, load := ld.2.1 }
      else if 200000000000 < ld.2.2 then some { reason := 6, object := o, charge := sum, load := ld.2.2 }
      else none with
    | some r => some r
    | none =>
      let tot := (running.map fun h => (headLoad s (headObj h)).1).sum
      if 96000000000 < tot then some { reason := 6, object := origin, charge := sum, load := tot } else none

/-- The ASRC bank of 256 (R282). -/
def checkAsrc (s : State) (routes : List ObjId) : Option Refused :=
  match (asrcHolders s fun r => routes.contains r || getProp s r pRouteState != 0)[256]? with
  | some c => some { reason := 2, object := c }
  | none => none

/-- The checks of Table 6.2 in order on an evaluated configuration `v`; `s` is the device as it stands. -/
def admissionChecks (s v : State) (origin : ObjId) : Option Refused :=
  let routes := (objsOf v clsRoute).filter fun r => routeWanted v r
  let sum := sumCharges (maxCharges (reservedCharges s) (chargesOf v))
  checkTopology v routes <|> (checkUnits v routes (liveRoutes v) <|> (checkAsrc v (liveRoutes v) <|> (checkRings v routes (liveRoutes v) <|>
    (checkRate v routes <|> (checkUnitRate v routes sum <|> (checkHeads s v origin sum <|>
      if fsBudget < sum then some { reason := 7, object := origin, charge := sum } else none))))))

/-! ### Slices of the line buffer pool (R172 to R176, R234, R235) -/

/-- The shared slices (R172). -/
abbrev sharedSlices : Nat := 342

/-- Shared slices neither held nor reserved: `system.lb_free` (R182). Slices set aside count from the hinge that raises
their claimant (Table 7.5). -/
def lbFree (s : State) : Nat := sharedSlices - (s.slices.map (·.slices)).sum

/-- What a reservation has been assigned so far: its newest grant, or what it holds. -/
def lastGrant (r : SliceRes) : SliceGrant := r.grants.getLastD ⟨0, r.slices, r.got, r.starved, r.suspended⟩

/-- Shared slices that a claimant may still take: neither held nor set aside for another (R176). -/
def sliceRoom (s : State) : Nat := sharedSlices - (s.slices.map fun r => max r.slices (lastGrant r).slices).sum

/-- A component count of a shaper's output for Table 7.3: mono 1, three components 3, RGBA 4. -/
def compCount (fmt : Nat) : Nat :=
  if fmtHasAlpha fmt then 4 else if fmtBase fmt = 0x10 ∨ fmtBase fmt = 0x40 then 1 else 3

/-- Line storage of one shaper unit with `n` taps (Table 7.3). -/
def unitStorage (s : State) (u : ObjId) (inp out : Nat × Nat × Nat × Nat) (n : Nat) : Nat :=
  let wc := (cropRect (fun p i => getProp s u p i) inp.1 inp.2.1 inp.2.2.1).2.2.1
  let dem := getPropN s u pShaperDemosaic
  (if fmtIsCfa inp.1 then (match dem with | 2 => 10 * wc | 1 => 6 * wc | _ => 0) else 0) +
  (if fmtIs420 inp.1 then 4 * wc else 0) + n * 2 * compCount out.1 * out.2.1 +
  (if bitOf (getPropN s u pShaperAids) 2 ∧ getProp s u pShaperPeak ≠ 0 then 4 * out.2.1 else 0)

/-- Shared slices that one unit needs with `n` taps: beyond its 10 bound slices (R173). -/
def unitShared (s : State) (u : ObjId) (inp out : Nat × Nat × Nat × Nat) (n : Nat) : Nat :=
  ceilDiv (unitStorage s u inp out n) 98304 - 10

/-- The largest even tap count from `n` down to 2 whose shared slices for all units fit (R174). -/
def fitTaps (s : State) (u : ObjId) (units : Nat) (inp out : Nat × Nat × Nat × Nat) (room : Nat) : Nat → Nat
  | 0 => 2
  | k + 1 => if units * unitShared s u inp out (2 * (k + 1)) ≤ room then max 2 (2 * (k + 1)) else fitTaps s u units inp out room k

/-- The requested taps of a stage, even (R174). -/
def wantTaps (s : State) (u : ObjId) : Nat := (getPropN s u pShaperTapsV + 1) / 2 * 2

/-- Remove the reservation of an owner's stage. -/
def dropRes (s : State) (o : ObjId) (i : Nat) : State :=
  { s with slices := s.slices.filter fun r => !(r.owner == o && r.stage == i) }

/-- The reservation of an owner's stage. -/
def resOf (s : State) (o : ObjId) (i : Nat) : Option SliceRes := s.slices.find? fun r => r.owner == o && r.stage == i

/-- Storage bytes of plane `k` at prefetch depth p (R234). -/
def planeStore (fmt k p : Nat) (r : Rect) : Nat :=
  let q := planeSpan fmt k r
  if fmtLayout fmt = 0 then (p + 1) * spanLine q
  else (ceilDiv p 8 + 1) * (ceilDiv q.x1 32 - q.x0 / 32) * 384

def layerStore (s : State) (l : ObjId) (p : Nat) : Nat :=
  let h := layerHead s l
  let ra := rasterOf s h
  if getProp s l pLayerVisible = 0 then 0
  else ([getPropN s l pLayerRoute, getPropN s l pLayerBackup].map fun r =>
    if r = 0 then 0 else match picOf s (routeOutput s r) with
      | some q =>
        let fr := fetchRect s l q ra.1 ra.2.1
        if rectEmpty fr then 0
        else ((List.range (fmtPlanes q.1 q.2.1 q.2.2.1).length).map fun k => planeStore q.1 k p fr).sum
      | none => 0).foldl max 0

/-- Storage of the hold surface at depth p (R234). -/
def holdStore (s : State) (h : ObjId) (p : Nat) : Nat :=
  if getProp s h pHeadStillAfter = 0 then 0
  else 3 * (ceilDiv p 8 + 1) * ceilDiv (rasterOf s h).1 32 * 384

/-- Slices of a head at depth p without the starved layers. -/
def headSlices (s : State) (h : ObjId) (p starved : Nat) (hold : Bool) : Nat :=
  let ls := ((headLayers s (objInst h)).zipIdx.map fun l => if bitOf starved l.2 then 0 else layerStore s l.1 p).sum
  ceilDiv (ls + if hold then holdStore s h p else 0) 98304

/-- The largest p from a depth down to 1 that fits (R235 step 1). -/
def fitDepth (s : State) (h : ObjId) (hold : Bool) (room : Nat) : Nat → Option Nat
  | 0 => none
  | p + 1 => if headSlices s h (p + 1) 0 hold ≤ room then some (p + 1) else fitDepth s h hold room p

/-- Starve layers from the highest composition position downward until the rest fit (R235 step 2). -/
def fitStarve (s : State) (h : ObjId) (hold : Bool) (room : Nat) : Nat → Nat → Option Nat
  | 0, mask => if headSlices s h 1 mask hold ≤ room then some mask else none
  | n + 1, mask => if headSlices s h 1 mask hold ≤ room then some mask else fitStarve s h hold room n (setBit mask n true)

/-- Depth, starved mask and suspension of a head for the room there is (R235). -/
def fitHead (s : State) (h : ObjId) (room : Nat) : Nat × Nat × Bool :=
  let want := getPropN s h pHeadPrefetchLines
  let n := (headLayers s (objInst h)).length
  let try' (hold : Bool) : Option (Nat × Nat) :=
    match fitDepth s h hold room want with
    | some p => some (p, 0)
    | none => (fitStarve s h hold room n 0).map fun m => (1, m)
  match try' true with
  | some (p, m) => (p, m, false)
  | none => match try' false with
    | some (p, m) => (p, m, true)
    | none => (1, 2 ^ n - 1, true)

/-- What the storage of a head depends on: depth, and the bytes of its layers and of its hold surface at each depth. -/
def headNeed (s : State) (h : ObjId) : Nat × List (List Nat) :=
  let want := getPropN s h pHeadPrefetchLines
  (want, (List.range want).map fun p =>
    holdStore s h (p + 1) :: (headLayers s (objInst h)).map fun l => layerStore s l (p + 1))

/-- Reserve a head's storage for an evaluated configuration (R235): `w` is the configuration without the change, `id` the
commit that brings it. A reservation that the change leaves as it is stays (R174); that of a head that stops is released at its
hinge, or now where its raster stands still. -/
def reserveHead (s w v : State) (h : ObjId) (id : Option Nat) : State :=
  if !headRuns v h then (if getProp s h pHeadRasterState = 0 then dropRes s h 0 else s)
  else if (resOf s h 0).isSome && headRuns w h && headNeed w h == headNeed v h then s
  else
    let s := dropRes s h 0
    let f := fitHead v h (sliceRoom s)
    let ord := s.orders + 1
    { s with
      orders := ord
      slices := s.slices ++ [⟨h, 0, headSlices v h f.1 f.2.1 (!f.2.2), ord, id, f.1, getPropN v h pHeadPrefetchLines,
        f.2.1, f.2.2, []⟩] }

/-- Reserve shared slices for a stage that starts or whose parameters the configuration changes (R174): its need, or a
value of its first unit, whose parameters are the stage's (R137); `touched` lists the units with changed values. -/
def reserveStage (s w v : State) (r : ObjId) (g : StageCfg) (i : Nat) (touched : List ObjId) (id : Option Nat) : State :=
  if g.kind ≠ 1 then s
  else match picOf v (stageInput v r i), picOf v g.ring with
    | some inp, some out =>
      let u := atD g.units 0 0
      let want := wantTaps v u
      let need (n : Nat) := g.units.length * unitShared v u inp out n
      let same := match resOf s r i with
        | some x => x.want == want && x.slices == need x.got && (liveRoutes w).contains r
        | none => false
      if same && !touched.contains u then s
      else
        let s := dropRes s r i
        let room := sliceRoom s - getPropN s sysObj pSystemLbHeadReserve
        let n := fitTaps v u g.units.length inp out room (want / 2)
        let ord := s.orders + 1
        { s with orders := ord, slices := s.slices ++ [⟨r, i, need n, ord, id, n, want, 0, false, []⟩] }
    | _, _ => s

/-- Reserve storage for a head and then slices for its routes' stages, after check 7 (R174, R235). -/
def reserveAll (s w v : State) (h : ObjId) (touched : List ObjId) (id : Option Nat) : State :=
  let s := reserveHead s w v h id
  ((liveRoutes v).filter fun r => getPropN v r pRouteHead == h).foldl (fun s r =>
    (routeStages v r).zipIdx.foldl (fun s g => reserveStage s w v r g.1 g.2 touched id) s) s

/-- The head at whose hinges a reservation's values take effect. -/
def resHead (s : State) (r : SliceRes) : ObjId := if objCls r.owner = clsHead then r.owner else getPropN s r.owner pRouteHead

/-- Whether a reservation still waits for its commit. -/
def resWaits (s : State) (r : SliceRes) : Bool :=
  match r.by' with
  | some id => (headRt s (objInst (resHead s r))).commits.any fun c => c.id == id
  | none => false

/-! ### Slices given back (R176, R235) -/

/-- Assign what is free to one reduced reservation; `v` is the configuration with every sealed commit. -/
def restoreOne (v s : State) (r : SliceRes) : State :=
  let last := lastGrant r
  let mine (x : SliceRes) : Bool := x.owner == r.owner && x.stage == r.stage
  let room := sliceRoom { s with slices := s.slices.filter fun x => !mine x }
  let give (g : SliceGrant) : State :=
    { s with slices := s.slices.map fun x => if mine x then { x with grants := x.grants ++ [g] } else x }
  let due := s.now + 200 * usT
  if objCls r.owner = clsHead then
    let f := fitHead v r.owner room
    if f = (last.got, last.starved, last.suspended) then s
    else give ⟨due, headSlices v r.owner f.1 f.2.1 (!f.2.2), f.1, f.2.1, f.2.2⟩
  else
    match (routeStages v r.owner)[r.stage]? with
    | some g =>
      match picOf v (stageInput v r.owner r.stage), picOf v g.ring with
      | some inp, some out =>
        let u := atD g.units 0 0
        let n := fitTaps v u g.units.length inp out (room - getPropN s sysObj pSystemLbHeadReserve) (r.want / 2)
        if n ≤ last.got then s else give ⟨due, g.units.length * unitShared v u inp out n, n, 0, false⟩
      | _, _ => s
    | none => s

def insertOrder (r : SliceRes) : List SliceRes → List SliceRes
  | [] => [r]
  | x :: xs => if r.order < x.order then r :: x :: xs else x :: insertOrder r xs

/-- At a release of shared slices: the oldest reduced heads, then the oldest reduced stages, take what is free (R176). -/
def restoreSlices (s v : State) : State :=
  let reduced (r : SliceRes) : Bool := let g := lastGrant r; decide (g.got < r.want) || g.starved != 0 || g.suspended
  let byAge (p : SliceRes → Bool) : List SliceRes := (s.slices.filter fun r => p r && reduced r).foldl (fun l r => insertOrder r l) []
  (byAge (fun r => objCls r.owner == clsHead) ++ byAge (fun r => objCls r.owner != clsHead)).foldl (restoreOne v) s

/-- Restore only where slices came free since an earlier state. -/
def restoreIfFreed (s0 s v : State) : State := if sliceRoom s0 < sliceRoom s then restoreSlices s v else s

end Sys2Proof.Machine
end

