-- ==== Sys2Proof/Machine/AudioSwitch.lean ====
section
/-! DEFINITION. Audio paths, destinations, and the stop, start and switch of R277 to R288. -/

namespace Sys2Proof.Machine

/-! ### Sample arithmetic -/

/-- A received word of w bits as a 24-bit sample (R272). -/
def rxSample (w : Nat) (v : Int) : Int := if w ≤ 24 then v * 2 ^ (24 - w) else v.fdiv (2 ^ (w - 24))

/-- A 24-bit sample as a word of w bits (R272). -/
def txSample (w : Nat) (x : Int) : Int :=
  if w < 24 then clampInt (-(2 ^ (w - 1))) (2 ^ (w - 1) - 1) ((x + 2 ^ (23 - w)).fdiv (2 ^ (24 - w)))
  else x * 2 ^ (w - 24)

/-- Sample i of a fade-out and of a fade-in (R283). -/
def fadeOutAt (x : Int) (i : Nat) : Int := (x * (31 - i : Int) + 16).fdiv 32
def fadeInAt (x : Int) (i : Nat) : Int := (x * (i + 1 : Int) + 16).fdiv 32

/-- Whether a sample is a zero crossing of its signal (R283). -/
def zeroCrossing (prev : Option Int) (x : Int) : Bool :=
  x == 0 || (match prev with | some p => p.sign != x.sign | none => false)

/-- The 24-bit range. -/
def clamp24 (x : Int) : Int := clampInt (-8388608) 8388607 x

/-! ### Access -/

def dest0 : AudioDest := ⟨none, none, 0, 0, none, []⟩
def path0 : AudioPath := ⟨[0, 0, 0, 0], 0, 0, 0, false, false⟩
def src0 : AudioSrc := ⟨0, false⟩
def destOf (s : State) (d : Nat) : AudioDest := mapGetD s.dests d dest0
def setDest (s : State) (d : Nat) (x : AudioDest) : State := { s with dests := mapPut s.dests d x }
def pathOf (s : State) (c : ObjId) : AudioPath := mapGetD s.paths c path0
def setPath (s : State) (c : ObjId) (x : AudioPath) : State := { s with paths := mapPut s.paths c x }
def srcOf (s : State) (c : Nat) : AudioSrc := mapGetD s.srcs c src0

def audioDestOf (s : State) (c : ObjId) : Nat := getPropN s c pAudioChDest
def audioSrcOf (s : State) (c : ObjId) : Nat := getPropN s c pAudioChSource
def setAudioState (s : State) (c : ObjId) (v : Nat) : State := if objExists s c then setProp s c pAudioChState 0 v else s

/-- The current route of a layer (R146). -/
def currentRoute (s : State) (l : ObjId) : ObjId :=
  if getProp s l pLayerOnBackup = 1 then getPropN s l pLayerBackup else getPropN s l pLayerRoute

/-- Whether an AUDIO_CH is active (R284, R285). -/
def audioActive (s : State) (c : ObjId) : Bool :=
  getProp s c pAudioChEnable == 1 &&
  (let r := getPropN s c pAudioChRoute
   r == 0 || (objsOf s clsLayer).any fun l =>
     layerHead s l != 0 && layerHead s l == getPropN s r pRouteHead && currentRoute s l == r)

/-- The rate of a party in units of 2⁻¹⁶ Hz: a TDM port's as measured (R275). -/
def partyRate (s : State) (o : ObjId) : Nat :=
  let m := if objCls o = clsAudioPort then getPropN s o pAudioPortRate else 0
  if m ≠ 0 then m else let c := classRate (rateClass s o); c.1 * 65536 / c.2

/-- The ratio r of a path in units of 2⁻⁴⁰ (R281). -/
def pathRatio (s : State) (c : ObjId) : Nat :=
  match srcParty s (audioSrcOf s c), dstParty s (audioDestOf s c) with
  | some a, some b => partyRate s a * 2 ^ 40 / max (partyRate s b) 1
  | _, _ => 2 ^ 40

/-- Whether a ratio lies inside 1:4 to 4:1 (R281). -/
def ratioInside (r : Nat) : Bool := decide (2 ^ 38 ≤ r ∧ r ≤ 2 ^ 42)

/-- Source and destination in one domain at one rate class (R280). -/
def pathAligned (s : State) (c : ObjId) : Bool :=
  match srcParty s (audioSrcOf s c), dstParty s (audioDestOf s c) with
  | some a, some b => clockDomain s a == clockDomain s b && rateClass s a == rateClass s b
  | _, _ => true

/-- Whether a route runs or stops: its tied paths stay reserved (R282). -/
def routeLive (s : State) (r : ObjId) : Bool := getProp s r pRouteState != 0

/-- The destination sample period in ticks. -/
def destPeriod (s : State) (d : Nat) : Nat :=
  match dstParty s d with
  | some o => secT * 65536 / max (partyRate s o) 1
  | none => secT / 48000

/-- `audio_ch.latency`: the delay, and the ASRC's or the fixed latency, in ns (R280, R281, R288). -/
def pathLatency (s : State) (c : ObjId) : Nat :=
  let out := destPeriod s (audioDestOf s c)
  let inp := match srcParty s (audioSrcOf s c) with
    | some o => secT * 65536 / max (partyRate s o) 1
    | none => out
  getPropN s c pAudioChDelay * 1000 + (if asrcUsed s c then 64 * out + 32 * inp else 4 * out) / nsT

/-! ### Changes of a destination (R283) -/

/-- The active AUDIO_CH that plays on a destination: the lowest object ID (R286). -/
def wantedOn (s : State) (d : Nat) : Option ObjId :=
  (objsOf s clsAudioCh).find? fun c => audioDestOf s c == d && audioSrcOf s c != noChannel && audioActive s c

/-- The path of an AUDIO_CH as it stands. -/
def oldPath (s : State) (c : ObjId) : OldPath :=
  ⟨audioSrcOf s c, getPropN s c pAudioChDelay, asrcUsed s c, pathAligned s c, pathOf s c⟩

/-- Begin a change to an incoming signal, or replace the incoming signal of the pending one (R283): what each signal carried
last is known. -/
def beginChange (s : State) (d : Nat) (incoming : Option ObjId) (tc : Ticks) (old : Option OldPath) : State :=
  let x := destOf s d
  let prevIn := incoming.map fun c => (pathOf s c).last
  match x.change with
  | some c => setDest s d { x with change := some { c with incoming := incoming, prevIn := prevIn, fadeIn := none } }
  | none => setDest s d { x with change := some ⟨tc, incoming, false, x.playing.isNone, x.playing.map fun _ => x.value, prevIn,
      none, none, old⟩ }

/-- The incoming channel of a destination: what it plays once its change is made. -/
def headedFor (s : State) (d : Nat) : Option ObjId :=
  let x := destOf s d
  match x.change with | some c => c.incoming | none => x.playing

/-- A path begins: through ASRC_ACQUIRE, in RATIO_RANGE, or at once (R281, R283). -/
def startPath (s : State) (d : Nat) (c : ObjId) (tc : Ticks) (old : Option OldPath) : State :=
  let s := setProp s c pAudioChLatency 0 (pathLatency s c)
  if asrcUsed s c then
    let r := pathRatio s c
    let s := setPath (setProp s c pAudioChAsrcRatio 0 r) c { pathOf s c with last := 0 }
    let st := if ratioInside r then 7 else 6
    let s := postEvent (setAudioState s c st) 0x0B03 c (st + r / 2 ^ 24 % 2 ^ 40 * 2 ^ 24)
    beginChange s d none tc old
  else beginChange (setAudioState (setProp s c pAudioChAsrcRatio 0 0) c 1) d (some c) tc old

/-- The state of an AUDIO_CH that does not play: BLOCKED while it is active and another plays (R286), else INACTIVE. -/
def restState (s : State) (c : ObjId) : Nat :=
  if audioActive s c && audioSrcOf s c != noChannel && audioDestOf s c != noChannel && wantedOn s (audioDestOf s c) != some c
  then 5 else 0

/-- Bring a destination to the channel that is to play on it. `changed` are channels whose own properties changed. -/
def retarget (s : State) (d : Nat) (tc : Ticks) (changed : List ObjId) (olds : List (ObjId × OldPath)) : State :=
  if d = noChannel then s
  else
    let want := wantedOn s d
    let now' := headedFor s d
    let busy (c : ObjId) : Bool := getProp s c pAudioChState == 6 || getProp s c pAudioChState == 7
    let same := match want with
      | some c => (now' == some c || (now' == none && busy c)) && !changed.contains c
      | none => now'.isNone && !(objsOf s clsAudioCh).any fun c => audioDestOf s c == d && busy c
    if same then s
    else
      let out := (destOf s d).playing
      let s := match out with
        | some o => if (destOf s d).change.isNone then setAudioState s o 3 else s
        | none => s
      let s := match now' with
        | some o => if some o != out && some o != want then setAudioState s o (restState s o) else s
        | none => s
      match want with
      | some c =>
        let old := if out == some c then (olds.find? fun e => e.1 == c).map (·.2) else none
        startPath (if old.isSome then setPath s c path0 else s) d c tc old
      | none => beginChange s d none tc none

/-- Record for every AUDIO_CH whether it is active, and mark BLOCKED and INACTIVE ones. -/
def settleAudioStates (s : State) : State :=
  (objsOf s clsAudioCh).foldl (fun s c =>
    let a := audioActive s c
    let s := setPath s c { pathOf s c with wasActive := a }
    let d := audioDestOf s c
    let st := getProp s c pAudioChState
    if (destOf s d).playing == some c || headedFor s d == some c || st == 6 || st == 7 || st == 4 then s
    else setAudioState s c (restState s c)) s

/-- Change every destination whose channels became active or inactive, or whose channels' properties changed. -/
def audioRouter (s : State) (tc : Ticks) (changed : List ObjId) (dests : List Nat)
    (olds : List (ObjId × OldPath)) : State :=
  let moved := ((objsOf s clsAudioCh).filter fun c => changed.contains c || audioActive s c != (pathOf s c).wasActive).map
    (audioDestOf s)
  settleAudioStates (((moved ++ dests).eraseDups).foldl (fun s d => retarget s d tc changed olds) s)

/-! ### Samples -/

/-- The nominal level of a path's buffer, in samples (R280, R281). -/
def pathNominal (s : State) (c : ObjId) : Nat := if asrcUsed s c then 32 else 4

/-- Whether a destination takes samples from a path: it plays it or is about to. -/
def pathTaken (s : State) (c : ObjId) : Bool :=
  let y := destOf s (audioDestOf s c)
  y.playing == some c || (y.change.bind (·.incoming)) == some c

/-- A sample arrives at a buffer (R280): across domains without an ASRC channel one beyond 7 is dropped. -/
def pushFifo (asrc aligned : Bool) (p : AudioPath) (x : Int) : AudioPath × Bool :=
  let f := p.fifo ++ [x]
  let p := { p with starved := 0 }
  if asrc then ({ p with fifo := f.drop (f.length - 96) }, false)
  else if !aligned && decide (7 < f.length) then ({ p with fifo := f.drop 1 }, true)
  else ({ p with fifo := f.drop (f.length - 64) }, false)

/-- A sample arrives for a path: one that no destination takes from, or that refills, keeps its nominal level. -/
def pushSample (s : State) (c : ObjId) (p : AudioPath) (x : Int) : AudioPath × Bool :=
  if !pathTaken s c || p.under then
    let f := p.fifo ++ [x]
    let k := f.length - pathNominal s c
    ({ p with starved := 0, fifo := f.drop k, last := if k = 0 then p.last else atD f (k - 1) 0 }, false)
  else pushFifo (asrcUsed s c) (pathAligned s c) p x

/-- Deliver a sample to every path that reads a channel without a delay. -/
def deliverTo (s : State) (c : ObjId) (x : Int) : State :=
  let (p, slip) := pushSample s c (pathOf s c) x
  let s := setPath s c p
  if slip then bumpProp s c pAudioChSlips else s

/-- Deliver a sample to the outgoing paths that read a channel with a delay, where an AUDIO_CH follows itself. -/
def deliverOld (s : State) (ch delay : Nat) (x : Int) : State :=
  { s with dests := s.dests.map fun d => (d.1, match d.2.change with
      | some g => match g.old with
        | some o =>
          if o.source = ch ∧ o.delay = delay then
            { d.2 with change := some { g with old := some { o with path := (pushFifo o.asrc o.aligned o.path x).1 } } }
          else d.2
        | none => d.2
      | none => d.2) }

/-- The delays, other than 0, of the outgoing paths that read a channel. -/
def oldDelays (s : State) (ch : Nat) : List Nat :=
  (s.dests.filterMap fun d => match d.2.change with
    | some g => match g.old with
      | some o => if o.source = ch ∧ o.delay ≠ 0 then some o.delay else none
      | none => none
    | none => none).eraseDups

/-- Write a line of the delay line of a party, and deliver the delayed samples (R288). -/
def delayPart (s : State) (party : ObjId) (k : Nat) (xs : List Int) (count : Nat) : State :=
  match mapGet s.delayLines (party * 16 + k) with
  | none => s
  | some o =>
    match surfOf s o with
    | none => s
    | some f =>
      let h := max f.height 1
      let a (n : Nat) : Nat := f.base + n % h * 192
      -- the bits after the last word of the line are zero (R105)
      let bytes := padTo 192 (((xs.drop (64 * k)).take 64).flatMap fun x => toLe 3 (twos 24 x))
      let s := { s with frame := memWrite s.frame (a count) bytes }
      let late (s : State) (delay i : Nat) : Int :=
        let n := delay * partyRate s party / (65536 * 1000000)
        if count < n then 0 else signedOf 24 (leNat (memRead s.frame (a (count - n) + 3 * (i % 64)) 3))
      let s := ((List.range xs.length).filter fun i => decide (i / 64 = k)).foldl (fun s i =>
        (oldDelays s (srcBase s party + i)).foldl (fun s d => deliverOld s (srcBase s party + i) d (late s d i)) s) s
      ((objsOf s clsAudioCh).filter fun c => decide (getProp s c pAudioChDelay ≠ 0)).foldl (fun s c =>
        let i := audioSrcOf s c - srcBase s party
        if audioSrcOf s c < srcBase s party ∨ i / 64 ≠ k ∨ xs.length ≤ i then s
        else deliverTo s c (late s (getPropN s c pAudioChDelay) i)) s

/-- A party's sources deliver one sample each. -/
def deliverBlock (s : State) (party : ObjId) (xs : List Int) : State :=
  let b := srcBase s party
  if b = noChannel then s
  else
    let s := xs.zipIdx.foldl (fun s x =>
      let ch := b + x.2
      let s := { s with srcs := mapPut s.srcs ch ⟨x.1, false⟩ }
      ((objsOf s clsAudioCh).filter fun c => audioSrcOf s c == ch && getProp s c pAudioChDelay == 0).foldl
        (fun s c => deliverTo s c x.1) (deliverOld s ch 0 x.1)) s
    let count := mapGetD s.delayCount party 0
    let s := (List.range ((xs.length + 63) / 64)).foldl (fun s k => delayPart s party k xs count) s
    if s.delayLines.any fun e => e.1 / 16 == party then { s with delayCount := mapPut s.delayCount party (count + 1) } else s

/-- The next sample of a buffer: a faded repeat of a lost source, a repeat or a drop across domains, or the oldest
sample; an ASRC channel's output value is free (R277, R280, R281). -/
def popSample (s : State) (c : ObjId) (srcCh : Nat) (asrc aligned : Bool) (p : AudioPath) : Int × AudioPath × State :=
  let lost := (srcOf s srcCh).lost
  match p.fifo with
  | [] =>
    if lost then (if p.starved < 32 then fadeOutAt p.last p.starved else 0, { p with starved := p.starved + 1 }, s)
    else (p.last, { p with starved := p.starved + 1 }, s)
  | x :: xs =>
    -- a lost source goes on delivering: its fade starts where its samples end
    let starved := if lost then 0 else p.starved + 1
    if asrc then
      let (v, s) := freshValue s
      let y := signedOf 24 v
      (y, { p with fifo := xs, last := y, starved := starved }, s)
    else if !aligned && xs.isEmpty && !lost then
      (p.last, { p with starved := starved }, bumpProp s c pAudioChSlips)
    else (x, { p with fifo := xs, last := x, starved := starved }, s)

/-- The next sample of an AUDIO_CH; zeros while it acquires or is in UNDERRUN. -/
def pathNext (s : State) (c : ObjId) : Int × State :=
  if (pathOf s c).under then (0, s)
  else
    let (x, p, s) := popSample s c (audioSrcOf s c) (asrcUsed s c) (pathAligned s c) (pathOf s c)
    (x, setPath s c p)

/-- The outgoing sample of a destination with a change. -/
def outgoingNext (s : State) (x : AudioDest) (g : AudioChange) : Int × AudioChange × State :=
  match g.old, x.playing with
  | some o, some c =>
    let (v, p, s) := popSample s c o.source o.asrc o.aligned o.path
    (v, { g with old := some { o with path := p } }, s)
  | none, some c => let (v, s) := pathNext s c; (v, g, s)
  | _, none => (0, g, s)

/-- The tail of a signal that repeats its last sample and fades out (R287). -/
def tailNext (x : AudioDest) : Int × Option (Int × Nat) :=
  match x.tail with
  | some (v, i) => (fadeOutAt v i, if i < 31 then some (v, i + 1) else none)
  | none => (0, none)

/-- One sample of a destination without a change. -/
def plainSample (s : State) (d : Nat) (x : AudioDest) : State :=
  match x.playing with
  | none => let (v, t) := tailNext x; setDest s d { x with value := v, tail := t }
  | some c =>
    if (pathOf s c).under then let (v, t) := tailNext x; setDest s d { x with value := v, tail := t }
    else let (v, s) := pathNext s c; setDest s d { x with value := v, tail := none }

/-- The change of a destination has been made. -/
def finishChange (s : State) (d : Nat) (x : AudioDest) (g : AudioChange) (v : Int) : State :=
  let s := setDest s d { x with playing := g.incoming, change := none, value := v, tail := none }
  let s := match x.playing with
    | some o => if some o == g.incoming || getProp s o pAudioChState == 6 || getProp s o pAudioChState == 7 then s
      else setAudioState s o (restState s o)
    | none => s
  match g.incoming with
  | some c => setAudioState s c 2
  | none => s

/-- One destination sample with a change pending (R283). -/
def changeSample (s : State) (d : Nat) (t : Ticks) (x : AudioDest) (g : AudioChange) : State :=
  let (a, g, s) := outgoingNext s x g
  let (b, s) := match g.incoming with | some c => pathNext s c | none => ((0 : Int), s)
  if t < g.tc then setDest s d { x with value := a, change := some { g with prevOut := some a, prevIn := some b } }
  else
    let stopNow := g.stopped || x.playing.isNone || (g.fadeOut.isNone && zeroCrossing g.prevOut a)
    let outPart := if stopNow then 0 else match g.fadeOut with | some i => fadeOutAt a i | none => a
    let stopped := stopNow || g.fadeOut == some 31
    let startNow := g.fadeIn.isNone && stopNow && g.incoming.isSome && zeroCrossing g.prevIn b
    let inPart := match g.fadeIn with | some i => fadeInAt b i | none => if startNow then b else 0
    let v := clamp24 (outPart + inPart)
    let g' := { g with
      begun := true, stopped := stopped, prevOut := some a, prevIn := some b
      fadeOut := if stopped then none else g.fadeOut.map (· + 1)
      fadeIn := g.fadeIn.map (· + 1) }
    if stopped && (g.incoming.isNone || startNow || g.fadeIn == some 31) then finishChange s d x g' v
    else setDest s d { x with value := v, change := some g' }

/-- RATIO_RANGE ends after 64 consecutive destination samples inside the range (R281). -/
def ratioWatch (s : State) (d : Nat) (t : Ticks) : State :=
  (objsOf s clsAudioCh).foldl (fun s c =>
    if audioDestOf s c == d && getProp s c pAudioChState == 6 then
      let r := pathRatio s c
      let n := if ratioInside r then (pathOf s c).inside + 1 else 0
      let s := setPath s c { pathOf s c with inside := n }
      if n < 64 then s
      else
        let s := setProp (setPath s c { pathOf s c with inside := 0 }) c pAudioChAsrcRatio 0 r
        let s := postEvent (setAudioState s c 1) 0x0B03 c (1 + r / 2 ^ 24 % 2 ^ 40 * 2 ^ 24)
        beginChange s d (some c) t none
    else s) s

/-- One sample of a destination channel (R283). -/
def destSample (s : State) (d : Nat) (t : Ticks) : State :=
  let s := ratioWatch s d t
  let x := destOf s d
  match x.change with
  | some g => changeSample s d t x g
  | none => plainSample s d x

/-- A fade is counted on its channel while that exists. -/
def countFade (s : State) (c : ObjId) : State := if objExists s c then bumpProp s c pAudioChFades else s

/-- A change not made by n₀ + T is made with fades, counted on the channels that fade (R283). -/
def forceChange (s : State) (d : Nat) : State :=
  let x := destOf s d
  match x.change with
  | none => s
  | some g =>
    let fo := !g.stopped && x.playing.isSome && g.fadeOut.isNone
    let fi := g.incoming.isSome && g.fadeIn.isNone
    let s := match x.playing with | some c => if fo then countFade s c else s | none => s
    let s := match g.incoming with | some c => if fi then countFade s c else s | none => s
    setDest s d { x with change := some { g with
      begun := true
      fadeOut := if fo then some 0 else g.fadeOut
      fadeIn := if fi then some 0 else g.fadeIn } }

/-- Every path that reads or writes a party starts again under the start rule (R277, R278). -/
def restartPaths (s : State) (party : ObjId) (tc : Ticks) : State :=
  (objsOf s clsAudioCh).foldl (fun s c =>
    let mine := srcParty s (audioSrcOf s c) == some party || dstParty s (audioDestOf s c) == some party
    if mine && audioActive s c && wantedOn s (audioDestOf s c) == some c then
      let d := audioDestOf s c
      let s := setPath s c { path0 with wasActive := true }
      startPath (setDest s d { destOf s d with playing := none, change := none }) d c tc none
    else s) s

end Sys2Proof.Machine
end

