-- ==== Sys2Proof/Machine/Operands.lean ====
section
/-! DEFINITION. The operands of a property write: what the range of every property makes of a written value
(R9, R36, R43 and the property tables). `v` is the device with the newest values of the object merged in. -/

namespace Sys2Proof.Machine

/-- An object as a property value. -/
def objIn (v : State) (cs : List Nat) (x : Int) : Int := if isObjOf v cs x.toNat then x else 0

/-- A standalone surface that the host may name as a source (R216, R473). -/
def hostSurface (v : State) (o : ObjId) : Bool :=
  match surfOf v o with
  | some f => f.ring == 0 && decide (f.owner = .host)
  | none => false

/-- Clamp a rational to a range of quotients by its numerator, then its denominator to 1 to 65,535. -/
def clampRate (num den : Int) (hi : Int) : List Int :=
  let d := clampInt 1 65535 den
  [clampInt d (hi * d) num, d]

/-! ### Kinds (R104, R266) -/

/-- The properties of a PORT_IN that apply to a kind other than all; the others apply to every kind but NONE. -/
def portInApplies (kind pid : Nat) : Bool :=
  if pid = pPortInKind then true
  else if pid = pPortInLanes then kind == 1 || kind == 2 || kind == 3
  else if pid = pPortInLinks then kind == 1 || kind == 2
  else if pid = pPortInLaneRate then kind == 1
  else if pid = pPortInEngines then kind == 1 || kind == 2 || kind == 4
  else if pid = pPortInRing ∨ pid = pPortInFormat ∨ pid = pPortInGeometry ∨ pid = pPortInPartialPolicy then
    kind == 1 || kind == 2 || kind == 4
  else if pid = pPortInRate then kind == 1 || kind == 2 || kind == 4 || kind == 6
  else if pid = pPortInAncRing ∨ pid = pPortInAncFilter then kind == 2 || kind == 6
  else if pid = pPortInParent ∨ pid = pPortInFlow ∨ pid = pPortInPathSkew then kind == 4 || kind == 5 || kind == 6
  else if pid = pPortInEthMode ∨ pid = pPortInIpConfig then kind == 3
  else if pid = pPortInAudioChannels ∨ pid = pPortInAudioFormat then kind == 2 || kind == 5
  else if pPortInRoiRect ≤ pid ∧ pid ≤ pPortInRoiTrigger then kind == 1 || kind == 2 || kind == 4
  else true

def portOutApplies (kind pid : Nat) : Bool :=
  if pid = pPortOutKind then true
  else if pid = pPortOutLanes then kind == 1 || kind == 5
  else if pid = pPortOutEngines then kind == 1 || kind == 2 || kind == 5
  else if pid = pPortOutParent ∨ pid = pPortOutFlow ∨ pid = pPortOutPacketSize then kind == 2 || kind == 3 || kind == 4
  else if pid = pPortOutSdiStd ∨ pid = pPortOutPsf then kind == 1
  else if pid = pPortOutSampling then kind == 1 || kind == 2 || kind == 5
  else if pid = pPortOutChromaSiting then kind == 1 || kind == 2 || kind == 5
  else if pid = pPortOutAncRing ∨ pid = pPortOutTimecode ∨ pid = pPortOutTcOffset then kind == 1 || kind == 4
  else if pid = pPortOutSenderType then kind == 2
  else if pid = pPortOutDpMax ∨ pid = pPortOutPanelReplay ∨ pid = pPortOutAux then kind == 5
  else if pid = pPortOutAudioChannels ∨ pid = pPortOutAudioFormat then kind == 1 || kind == 3 || kind == 5
  else true

/-- Whether a property applies to its object's kind as it runs. A port of kind NONE has no kind yet: nothing reads there as
not applying (DEDUCED). -/
def propApplies (s : State) (o : ObjId) (pid : Nat) : Bool :=
  match objCls o with
  | 1 => getPropN s o pPortInKind == 0 || portInApplies (getPropN s o pPortInKind) pid
  | 2 => getPropN s o pPortOutKind == 0 || portOutApplies (getPropN s o pPortOutKind) pid
  | _ => true

/-- Formats that a kind of PORT_IN can deliver: the patterns of Table 4.7 for MSL, 4:2:2 and 4:4:4 for SDI and ST 2110,
with 16-bit ST 2110 samples as S24 (R82, R93, R97); ingress writes linear formats. -/
def portFormatOk (kind c : Nat) : Bool :=
  fmtDefined c && fmtLayout c == 0 &&
  (match kind with
  | 1 => [0x10, 0x11, 0x12, 0x13, 0x14].contains (fmtBase c)
  | 2 => [0x20, 0x21, 0x23, 0x30, 0x32, 0x34, 0x35].contains (fmtBase c)
  | 4 => [0x20, 0x21, 0x23, 0x30, 0x32, 0x34, 0x35, 0x41, 0x42, 0x43].contains (fmtBase c)
  | _ => fmtDefined c)

/-- The samplings that a kind of PORT_OUT can carry (R250, R254, R257). -/
def samplingOk (kind x : Nat) : Bool :=
  match kind with
  | 1 => decide (x ≤ 5)
  | 2 => x != 6 && decide (x ≤ 9)
  | 5 => [0, 1, 2, 3, 4, 5, 6].contains x
  | _ => x == 0

/-! ### Lanes (R78, R246, R333) -/

/-- The lanes that Hinge Links take (R24). -/
def hlLanesTaken (s : State) : List Nat :=
  (List.range 5).flatMap fun n =>
    let a := getPropN s sysObj pSystemHlLanes (2 * n)
    let b := getPropN s sysObj pSystemHlLanes (2 * n + 1)
    if a ≤ 95 ∧ b ≤ 95 ∧ a / 24 = b / 24 then [a, b] else []

/-- The lanes bound to running PORT_INs other than one: those of kinds MSL, SDI and ETH, which receive on lanes (R77). -/
def rxBound (s : State) (o : ObjId) : List Nat :=
  ((List.range 128).map (objId clsPortIn)).flatMap fun p =>
    if p = o ∨ !([1, 2, 3].contains (getPropN s p pPortInKind)) ∨ getProp s p pPortInState = 0 then []
    else (getPropsN s p pPortInLanes 64).filter fun l => decide (l ≤ 95)

/-- The lanes whose transmit halves are taken by PORT_OUTs other than one, or by Ethernet interfaces. -/
def txBound (s : State) (o : ObjId) : List Nat :=
  (((List.range 128).map (objId clsPortOut)).flatMap fun p =>
    if p = o ∨ !([1, 5].contains (getPropN s p pPortOutKind)) ∨ getProp s p pPortOutState = 0 then []
    else (getPropsN s p pPortOutLanes 4).filter fun l => decide (l ≤ 95)) ++
  (((List.range 128).map (objId clsPortIn)).flatMap fun p =>
    if getProp s p pPortInKind = 3 ∧ getProp s p pPortInState ≠ 0 then
      (getPropsN s p pPortInLanes 64).filter fun l => decide (l ≤ 95)
    else [])

/-- One group of a lane list: taken lanes go, then lanes outside the first lane's quadrant (R78 steps 2 and 3). -/
def laneGroup (taken : List Nat) (g : List Nat) : List Nat :=
  let g := g.map fun l => if taken.contains l then 0xFF else l
  match g.find? fun l => decide (l ≤ 95) with
  | none => g
  | some f => g.map fun l => if l ≤ 95 ∧ l / 24 = f / 24 then l else 0xFF

/-- Lanes that an Ethernet mode takes (Table 4.11). -/
def ethLanes (mode : Nat) : Nat := match mode with | 0 => 1 | 1 => 4 | 2 => 2 | _ => 8

/-- Put the used entries of a list back at their places, entries beyond `kept` as unused. -/
def placeUsed : List Nat → List Nat → List Nat
  | [], _ => []
  | x :: xs, ks => if x ≤ 95 then (match ks with | k :: r => k :: placeUsed xs r | [] => 0xFF :: placeUsed xs []) else 0xFF :: placeUsed xs ks

/-- Where the list that the host wrote is kept, beside the list as applied. -/
abbrev rawLanes : Nat := 64

/-- The links of an MSL port, or the group of another kind, of a list as written (R78 steps 1 to 3). -/
def laneRuns (v : State) (o : ObjId) (raw : List Nat) : List (List Nat) :=
  let kind := getPropN v o pPortInKind
  let used := raw.filter fun l => decide (l ≤ 95)
  let taken := hlLanesTaken v ++ rxBound v o
  let groups : List (List Nat) :=
    if kind = 1 then
      let n := max (getPropN v o pPortInLinks) 1
      let k := used.length / n
      (List.range n).map fun i => (used.drop (i * k)).take k
    else [used.take (if kind = 2 then getPropN v o pPortInLinks else ethLanes (getPropN v o pPortInEthMode))]
  groups.map (laneGroup taken)

/-- `port_in.lanes` as applied (R78); a kind without lanes keeps the list as written (R104). -/
def lanesIn (v : State) (o : ObjId) (raw : List Nat) : List Nat :=
  if (getProp v o pPortInKind = 1 ∨ getProp v o pPortInKind = 2 ∨ getProp v o pPortInKind = 3) then
    placeUsed raw (laneRuns v o raw).flatten
  else raw.map fun l => if l ≤ 95 then l else 0xFF

/-- The lanes that a kind of PORT_OUT sends on at most: one for single-link SDI, four for quad-link and DP (Table 11.1). -/
def outLaneCount (v : State) (o : ObjId) : Nat :=
  if getPropN v o pPortOutKind = 1 then (if getPropN v o pPortOutSdiStd = 5 then 4 else 1) else 4

/-- `port_out.lanes` as applied (R78, R246); a kind without lanes keeps the list as written (R266). -/
def lanesOut (v : State) (o : ObjId) (raw : List Nat) : List Nat :=
  if [1, 5].contains (getPropN v o pPortOutKind) then
    placeUsed raw (laneGroup (hlLanesTaken v ++ txBound v o) ((raw.filter fun l => decide (l ≤ 95)).take (outLaneCount v o)))
  else raw.map fun l => if l ≤ 95 then l else 0xFF

/-- Whether a lane is bound to a port. -/
def laneBound (s : State) (l : Nat) : Bool := (rxBound s 0).contains l || (txBound s 0).contains l

/-- `system.hl_lanes` as applied at boot (R333): no port is bound then. -/
def hlLanesApplied (role : Nat) (raw : List Nat) : List Nat :=
  (List.range 5).flatMap fun n =>
    let a := atD raw (2 * n) 0xFF
    let b := atD raw (2 * n + 1) 0xFF
    if a ≤ 95 ∧ b ≤ 95 ∧ a / 24 = b / 24 ∧ ¬(role = 0 ∧ n = 0) then [a, b] else [0xFF, 0xFF]

/-! ### Audio operands (R271, R273, R290) -/

/-- The level of an ST 2110-30 format byte; above 5 is applied as 0. -/
def audioLevel (f : Nat) : Nat := if bitsOf f 2 0 ≤ 5 then bitsOf f 2 0 else 0

/-- A format byte as applied: levels A, B and C run at 48 kHz. -/
def audioFormatApplied (dp : Bool) (f : Nat) : Nat :=
  if dp then f
  else
    let l := audioLevel f
    let b5 := if l ≤ 2 then 0 else bit01 (bitOf f 5)
    l + 16 * bit01 (bitOf f 4) + 32 * b5

/-- The channels that a level allows at its rate. -/
def audioLimit (f : Nat) : Nat :=
  match audioLevel f, bitOf f 5 with
  | 2, _ => 64
  | 5, true => 32
  | 5, false => 64
  | 3, true => 4
  | _, _ => 8

/-- The samples of one channel in a packet of an ST 2110-30 flow: a packet time is 1 ms at levels A and AX and 125 µs at the others. -/
def packetSamples (f : Nat) : Nat :=
  (if bitOf f 5 then 96 else 48) / if audioLevel f = 0 ∨ audioLevel f = 3 then 1 else 8

/-- A channel count as applied for a kind of port. -/
def audioChannels (kind : Nat) (f : Nat) (n : Nat) (out : Bool) : Nat :=
  if out then (match kind with | 1 => min n 32 | 3 => min (max n 1) (audioLimit f) | 5 => min n 8 | _ => 0)
  else match kind with | 2 => min n 32 | 5 => min (max n 1) (audioLimit f) | _ => 0

/-! ### Elements -/

/-- What the range makes of one element; an enumeration with a rule of its own is judged by that rule alone. -/
def ruleValue (v : State) (r : PropRow) (x : Int) : Int :=
  match r.rule with
  | .any => x
  | .clamp lo hi => clampInt lo hi x
  | .aboveAs hi a => if hi < x then a else x
  | .mask m => (x.toNat % 2 ^ 64 &&& m : Nat)
  | .flag => int01 (x != 0)
  | .objOf cs => objIn v cs x
  | .special lo hi => if r.ty = .enum then x else clampInt lo hi x

/-- Each phase of a coefficient table made to sum to 4,096 at its centre tap (R170). -/
def normPhase (taps phase : Nat) (cs : List Int) : List Int :=
  let c := if phase < 32 then taps / 2 - 1 else taps / 2
  cs.zipIdx.map fun x => if x.2 = c then x.1 + (4096 - cs.sum) else x.1

/-- The Hinge Link rate as applied. -/
def hlRateApplied (x : Int) : Int :=
  if x < 8000 then 8000
  else if x ≤ 32000 then x
  else if x < 53125 then 32000
  else if x < 56000 then 53125
  else 56000

/-- The kinds that a REF accepts (Table 14.1, R313). -/
def refKindOk (v : State) (o : ObjId) (k : Nat) : Bool :=
  let n := objInst o
  if n < 8 then
    (k == 1 || k == 2 || k == 4 || k == 5 || (k == 3 && n % 2 == 0)) &&
    !(n % 2 == 1 && getProp v (objId clsRef (n - 1)) pRefKind == 3)
  else if n < 16 then k == 6
  else k == 7

/-- Whether a ring has a writer other than one stage of a route (R118). -/
def ringTaken (v : State) (r : ObjId) (stage : Nat) (ring : ObjId) : Bool :=
  match ringOf v ring with
  | some g => match g.writer with
    | some (.stage q i) => q != r || i != stage
    | some (.port _) => true
    | none => false
  | none => true

/-- The elements of a property whose range depends on other values, as applied. Empty: none of them changes. -/
def fixGroup (v : State) (o : ObjId) (pid : Nat) : List (Nat × Int) :=
  let g (p : Nat) (i : Nat := 0) : Int := getProp v o p i
  match objCls o with
  | 1 =>
    let kind := getPropN v o pPortInKind
    if pid = pPortInLanes then
      (lanesIn v o ((getProps v o pPortInLanes rawLanes 64).map Int.toNat)).zipIdx.map fun x => (x.2, (x.1 : Int))
    else if pid = pPortInLinks then
      [(0, if kind = 1 then clampInt 1 4 (g pid) else if kind = 2 then (if g pid ≤ 1 then 1 else 4) else 1)]
    else if pid = pPortInEngines then
      [(0, min (min (g pid) 32) (match kind with | 1 => 32 | 2 => 1 | 4 => 8 | _ => 32))]
    else if pid = pPortInFormat then [(0, if portFormatOk kind (g pid).toNat then g pid else 0)]
    else if pid = pPortInRate then (clampRate (g pid 0) (g pid 1) 1000000).zipIdx.map fun x => (x.2, x.1)
    else if pid = pPortInParent then
      [0, 1].map fun i =>
        let p := (g pid i).toNat
        (i, if objCls p = clsPortIn ∧ objInst p < 128 ∧ getProp v p pPortInKind = 3 then g pid i else 0)
    else if pid = pPortInRoiRect then
      (List.range 4).flatMap fun i =>
        let w := g pPortInGeometry 0
        let h := g pPortInGeometry 1
        let x := min (g pid (4 * i)) (w - 1)
        let y := min (g pid (4 * i + 1)) (h - 1)
        [(4 * i, x), (4 * i + 1, y), (4 * i + 2, min (g pid (4 * i + 2)) (w - x)), (4 * i + 3, min (g pid (4 * i + 3)) (h - y))]
    else if pid = pPortInRoiPlane then
      let fmt := (g pPortInFormat).toNat
      (List.range 4).map fun i => (i, if g pid i ≤ (fmtRoiPlanes fmt : Nat) then g pid i else 0)
    else if pid = pPortInAudioChannels then
      [(0, (audioChannels kind (g pPortInAudioFormat).toNat (g pid).toNat false : Nat))]
    else if pid = pPortInAudioFormat then [(0, (audioFormatApplied false (g pid).toNat : Nat))]
    else []
  | 2 =>
    let kind := getPropN v o pPortOutKind
    if pid = pPortOutLanes then
      (lanesOut v o ((getProps v o pPortOutLanes rawLanes 4).map Int.toNat)).zipIdx.map fun x => (x.2, (x.1 : Int))
    else if pid = pPortOutParent then
      [0, 1].map fun i =>
        let p := (g pid i).toNat
        (i, if objCls p = clsPortIn ∧ objInst p < 128 ∧ getProp v p pPortInKind = 3 then g pid i else 0)
    else if pid = pPortOutSampling then [(0, if samplingOk kind (g pid).toNat then g pid else 0)]
    else if pid = pPortOutAncRing then
      [(0, match ringOf v (g pid).toNat with | some r => if fmtBase r.format = 1 then g pid else 0 | none => 0)]
    else if pid = pPortOutDpMax then
      let x := (g pid).toNat
      let l := x % 16
      [(0, ((if l = 1 ∨ l = 2 ∨ l = 4 then l else 4) + 16 * min (x / 16) 2 : Nat))]
    else if pid = pPortOutAudioChannels then
      [(0, (audioChannels kind (g pPortOutAudioFormat).toNat (g pid).toNat true : Nat))]
    else if pid = pPortOutAudioFormat then [(0, (audioFormatApplied (kind == 5) (g pid).toNat : Nat))]
    else []
  | 4 =>
    match ringOf v o with
    | none => []
    | some r =>
      let n : Int := r.length
      if pid = pRingCapturePre then
        let pre := clampInt 0 (n - 1) (g pid)
        [(0, pre)]
      else if pid = pRingCapturePost then [(0, clampInt 1 (n - g pRingCapturePre) (g pid))]
      else if pid = pRingCaptureAudio then
        let f := clampInt 0 1023 (g pid 0)
        [(0, f), (1, min (clampInt 0 64 (g pid 1)) (1024 - f))]
      else []
  | 5 =>
    if pid = pRouteSource then
      let x := (g pid).toNat
      [(0, if (ringOf v x).isSome || hostSurface v x then g pid else 0)]
    else if pid = pRouteStageRings then
      (List.range 4).map fun i =>
        (i, if ringTaken v o i (g pid i).toNat || (List.range i).any (fun j => g pid j == g pid i) then 0 else g pid i)
    else if pid = pRoutePlayPos then
      match ringOf v (g pRouteSource).toNat with
      | some r => if r.pre.length + r.post.length = 0 then [] else [(0, clampInt 0 ((r.pre.length + r.post.length : Nat) - 1 : Int) (g pid))]
      | none => []
    else if pid = pRoutePlaySpeed then [(0, clampInt (-65535) 65535 (g pid 0)), (1, clampInt 1 65535 (g pid 1))]
    else []
  | 6 =>
    let ok (x : Int) : Bool := objCls x.toNat == clsRoute && objExists v x.toNat &&
      getProp v x.toNat pRouteHead == g pLayerHead
    if pid = pLayerRoute then [(0, if ok (g pid) then g pid else 0)]
    else if pid = pLayerBackup then [(0, if ok (g pid) && g pid != g pLayerRoute then g pid else 0)]
    else []
  | 7 =>
    let pre := g pHeadPrefetchLines
    if pid = pHeadRaster then
      let ha := clampInt 16 16384 (g pid 0)
      let va := clampInt 16 16384 (g pid 1)
      [(0, ha), (1, va), (2, clampInt (ha + 16) 32767 (g pid 2)), (3, clampInt (va + pre + 1) 32767 (g pid 3))]
    else if pid = pHeadHaspLine then
      [(0, clampInt 0 (max 0 (g pHeadRaster 3 - g pHeadRaster 1 - 1 - pre)) (g pid))]
    else if pid = pHeadSync then
      let hb := g pHeadRaster 2 - g pHeadRaster 0
      let vb := g pHeadRaster 3 - g pHeadRaster 1
      let hs := clampInt 0 (hb - 1) (g pid 0)
      let vs := clampInt 0 (vb - 1) (g pid 2)
      [(0, hs), (1, clampInt 1 (hb - hs) (g pid 1)), (2, vs), (3, clampInt 1 (vb - vs) (g pid 3))]
    else if pid = pHeadMatchLine then [(0, clampInt 0 (g pHeadRaster 3 - 1) (g pid))]
    else []
  | 8 =>
    if pid = pShaperCoefH then
      (List.range 64).flatMap fun p =>
        (normPhase 16 p ((List.range 16).map fun t => g pid (16 * p + t))).zipIdx.map fun x => (16 * p + x.2, x.1)
    else if pid = pShaperCoefV then
      (List.range 64).flatMap fun p =>
        (normPhase 8 p ((List.range 8).map fun t => g pid (8 * p + t))).zipIdx.map fun x => (8 * p + x.2, x.1)
    else if pid = pShaperTapsV then [(0, clampInt 2 8 ((g pid + 1) / 2 * 2))]
    else if pid = pShaperToneKnee then [(0, clampInt 0 (g pShaperToneTarget - 1) (g pid))]
    else []
  | 9 => if pid = pTconvDelay then [(0, if g pid = 4294967295 then g pid else clampInt 0 1000000000 (g pid))] else []
  | 10 =>
    if pid = pAudioPortWordBits then [(0, min (clampInt 8 32 (g pid)) (g pAudioPortSlotBits))]
    else if pid = pAudioPortOffset then
      [(0, clampInt 0 (max 0 (g pAudioPortSlotBits - g pAudioPortWordBits)) (min (g pid) 31))]
    else if pid = pAudioPortRxMask ∨ pid = pAudioPortTxMask then
      [(0, ((g pid).toNat % 2 ^ (g pAudioPortSlots).toNat : Nat))]
    else []
  | 12 =>
    if pid = pRefKind then [(0, if refKindOk v o (g pid).toNat then g pid else 0)]
    else if pid = pRefPort then
      let p := (g pid).toNat
      [(0, if objCls p = clsPortIn ∧ objInst p < 128 ∧ getProp v p pPortInKind = 3 then g pid else 0)]
    else []
  | 13 =>
    if pid = pCadenceRate then (clampRate (g pid 0) (g pid 1) 1000).zipIdx.map fun x => (x.2, x.1) else []
  | 14 =>
    if pid = pChainSource then [(0, objIn v [clsHead, clsCadence] (g pid))]
    else if pid = pChainExposurePort then
      let p := (g pid).toNat
      [(0, if objCls p = clsPortIn ∧ objInst p < 128 ∧ getProp v p pPortInKind = 1 then g pid else 0)]
    else []
  | 18 =>
    if pid = pGroupMembers then
      (List.range 256).map fun i =>
        let x := (g pid i).toNat
        (i, (min (bitsOf x 47 32) 511 * 2 ^ 32 + x % 2 ^ 32 : Nat))
    else []
  | 19 =>
    if pid = pSystemHlRate then [(0, hlRateApplied (g pid))]
    else if pid = pSystemHlLanes then (List.range 10).map fun i => (i, if g pid i ≤ 95 then g pid i else 255)
    else if pid = pSystemFsBankMasks then
      (List.range 16).map fun i =>
        let x := (g pid i).toNat
        let home := 10 + i % 4
        (i, ((bitsOf x 30 14) * 2 ^ 14 + 2 ^ home : Nat))
    else if pid = pSystemFsLatencyTarget then
      (List.range 5).map fun i => (i, clampInt 1000 (if i = 0 then 8000 else 1000000) (g pid i))
    else if pid = pSystemStrobePort then
      (List.range 8).map fun i =>
        let p := (g pid i).toNat
        (i, if objCls p = clsPortIn ∧ objInst p < 128 ∧ getProp v p pPortInKind = 1 then g pid i else 0)
    else if pid = pSystemMbPolicy then
      if (List.range 16).any fun i => bitOf (g pid i).toNat 7 then [] else [(0, ((g pid 0).toNat % 128 + 128 : Nat))]
    else if pid = pSystemTbSet then
      let x := (g pid 1).toNat
      [(0, ((g pid 0).toNat % 2 ^ 48 : Nat)), (1, ((min (x / 65536 % 2 ^ 30) 999999999) * 65536 + x % 65536 : Nat))]
    else []
  | _ => []

/-- The other properties of the object whose ranges a write changes: they are fixed after it. -/
def dependants (o : ObjId) (pid : Nat) : List Nat :=
  match objCls o with
  | 1 =>
    if pid = pPortInKind then [pPortInLinks, pPortInEngines, pPortInFormat, pPortInLanes]
    else if pid = pPortInLinks ∨ pid = pPortInEthMode then [pPortInLinks, pPortInLanes]
    else []
  | 2 => if pid = pPortOutKind ∨ pid = pPortOutSdiStd then [pPortOutSampling, pPortOutLanes] else []
  | 4 => if pid = pRingCapturePre then [pRingCapturePost] else []
  | _ => []

/-- The ranges of an AT_HINGE write that other AT_HINGE values give are judged at the hinge that applies it: for these
properties a write is clamped to its type (R58, R243). -/
def judgedAtHinge (o : ObjId) (pid : Nat) : Bool := objCls o == clsHead && (pid == pHeadHaspLine || pid == pHeadSync)

/-- The elements of a property after a write that has been merged into `v`, and of its dependants: what changes. -/
def fixAll (v : State) (o : ObjId) : List Nat → List (Nat × Nat × Int) × State
  | [] => ([], v)
  | p :: ps =>
    let fs := (fixGroup v o p).filter fun e => decide (getProp v o p e.1 ≠ e.2)
    let v' := fs.foldl (fun v e => setProp v o p e.1 e.2) v
    let rest := fixAll v' o ps
    (fs.map (fun e => (p, e.1, e.2)) ++ rest.1, rest.2)

/-- A write of elements from an index on: the elements as applied, with what other elements they change. -/
def writeElements (v : State) (o : ObjId) (r : PropRow) (idx : Nat) (xs : List Int) : List (Nat × Nat × Int) :=
  let xs := xs.map (ruleValue v r)
  let v1 := setProps v o r.pid idx xs
  let raw := (objCls o == clsPortIn && r.pid == pPortInLanes) || (objCls o == clsPortOut && r.pid == pPortOutLanes)
  let v1 := if raw then setProps v1 o r.pid (rawLanes + idx) xs else v1
  let fixed := if judgedAtHinge o r.pid then ([], v1) else fixAll v1 o (r.pid :: dependants o r.pid)
  (xs.zipIdx.map fun x => (r.pid, idx + x.2, getProp fixed.2 o r.pid (idx + x.2))) ++
    (if raw then xs.zipIdx.map fun x => (r.pid, rawLanes + idx + x.2, x.1) else []) ++
    fixed.1.filter fun e => !(e.1 == r.pid && decide (idx ≤ e.2.1 ∧ e.2.1 < idx + xs.length))

end Sys2Proof.Machine
end

