-- ==== Sys2Proof/Machine/Banks.lean ====
section
/-! DEFINITION. The three banks of a head: ownership, staging, admission, sealing, staging completion, withdrawal and
discard (R56, R57, R60, R63 to R67, R70, R73, R142, R145, R472). -/

namespace Sys2Proof.Machine

/-! ### Ownership (R56, R472) -/

/-- Put the entries of a later map over those of an earlier one. -/
def mapOver {α : Type} (below above : Map α) : Map α := above.foldl (fun m e => mapPut m e.1 e.2) below

/-- Every bank of a head that has not applied: sealed commits in order, what requests that wait have taken, then staging. -/
def headBanks (s : State) (h : Nat) : List (Map Int) :=
  ((headRt s h).commits.map (·.values)) ++ (headRt s h).taken.map (·.values) ++ [(headRt s h).staging]

/-- What a request took out of a head at its start. -/
def takenOf (s : State) (h : Nat) (r : Request) : Option Taken :=
  (headRt s h).taken.find? fun t => t.mb == r.mb && t.cnt == r.cnt

/-- Whether some bank of a head names a unit in a route's stage units (R472). -/
def bankNames (s : State) (h : Nat) (u : ObjId) : Bool :=
  (headBanks s h).any fun m => m.any fun e => keyPid e.1 == pRouteStageUnits && objCls (keyObj e.1) == clsRoute &&
    e.2 == (u : Int)

/-- Whether a route's active bank names a unit in its stage units, whatever stages it has (R472). -/
def activeNames (s : State) (r : ObjId) (u : ObjId) : Bool := (getPropsN s r pRouteStageUnits 32).contains u

/-- The head that owns a unit: the one of a route that names the unit in any bank. -/
def unitOwner (s : State) (u : ObjId) : Option Nat :=
  match (objsOf s clsRoute).find? fun r => getPropN s r pRouteHead != 0 && activeNames s r u with
  | some r => headIdx (getPropN s r pRouteHead)
  | none => (List.range 24).find? fun h => bankNames s h u

/-- Where a write of an AT_HINGE property goes. -/
inductive Target where
  | now'
  | head (h : Nat)
  | held (route : ObjId)
deriving DecidableEq, Repr

/-- The head that an object ID of class HEAD names, as a target. -/
def targetOf (o : ObjId) : Target := match headIdx o with | some h => .head h | none => .now'

/-- The target of AT_HINGE writes to an object (R56, R141, R285, R411, R472). -/
def hingeTarget (s : State) (o : ObjId) : Target :=
  match objCls o with
  | 7 => targetOf o
  | 6 => targetOf (getPropN s o pLayerHead)
  | 5 => if getProp s o pRouteHead = 0 then .held o else targetOf (getPropN s o pRouteHead)
  | 8 | 9 => match unitOwner s o with | some h => .head h | none => .now'
  | 11 =>
    let r := getPropN s o pAudioChRoute
    if r = 0 then .now' else targetOf (getPropN s r pRouteHead)
  | 14 => targetOf (getPropN s o pChainSource)
  | 15 =>
    -- the chain of a lamp: its instance is 1,536c + 24p + k (R420)
    targetOf (getPropN s (objId clsChain (objInst o / 1536)) pChainSource)
  | _ => .now'

/-- The stored values of AT_RESTART and AT_BOOT properties, with the level that VX_PIN_LEVEL stored (R37, R53). -/
def storedView (s : State) : Map Int :=
  if s.cc.pin = 0 then s.stored else mapPut s.stored (propKey sysObj pSystemCompatLevel 0) s.cc.pin

/-- The newest values of an object: stored ones, then each bank's in order (R37). -/
def newestView (s : State) (o : ObjId) : State :=
  let mine (m : Map Int) : Map Int := m.filter fun e => keyObj e.1 == o
  let s1 := applyDelta s (mine (storedView s))
  match hingeTarget s o with
  | .head h => (headBanks s h).foldl (fun v m => applyDelta v (mine m)) s1
  | .held r => applyDelta s1 (mine (routeRt s r).held)
  | .now' => s1

/-- Whether anything of an object is staged or pending (R141, R285). -/
def hasPending (s : State) (o : ObjId) : Bool :=
  s.heads.any fun h => (h.2.staging.any fun e => keyObj e.1 == o) ||
    (h.2.taken.any fun t => t.values.any fun e => keyObj e.1 == o) || h.2.commits.any fun c => c.removes.contains o || c.values.any fun e => keyObj e.1 == o

/-- Whether a value not yet applied differs from the active one (PENDING, R37). -/
def pendingDiffers (s : State) (o : ObjId) (pid idx : Nat) : Bool :=
  let k := propKey o pid idx
  let act := getProp s o pid idx
  let diff (m : Map Int) : Bool := match mapGet m k with | some x => x != act | none => false
  (s.heads.any fun h => diff h.2.staging || h.2.taken.any (fun t => diff t.values) || h.2.commits.any fun c => diff c.values) ||
  diff (routeRt s o).held

/-- Stage values in a head's staging bank. -/
def stageValues (s : State) (h : Nat) (es : List (Nat × Int)) : State :=
  updHead s h fun x => { x with staging := es.foldl (fun m e => mapPut m e.1 e.2) x.staging }

/-! ### Evaluating a commit (R142) -/

/-- The layers that a commit's values name belong to their heads from here on (R157, R227). -/
def fixLayers (v : State) (values : Map Int) : State :=
  values.foldl (fun v e =>
    let o := keyObj e.1
    if objCls o = clsLayer ∧ !(layerRt v o).headFixed ∧ getProp v o pLayerHead ≠ 0 then
      setLayerRt v o { layerRt v o with headFixed := true }
    else v) v

/-- Apply a commit's values and removals to a state's configuration. -/
def applyBank (v : State) (values : Map Int) (removes : List ObjId) : State :=
  removes.foldl dropObject (fixLayers (applyDelta v values) values)

/-- Clamp a head's raster, hasp line and sync against one another as one hinge applies them (R58, R243). -/
def clampRaster (s : State) (o : ObjId) : State := (fixAll s o [pHeadRaster, pHeadHaspLine, pHeadSync]).2

/-- The device once banks have applied, each with its values and removals. -/
def evalBanks (s : State) (bs : List (Map Int × List ObjId)) : State :=
  let v := bs.foldl (fun v b => applyBank v b.1 b.2) s
  let hs := (bs.flatMap fun b => (b.1.filter fun e => objCls (keyObj e.1) == clsHead).map fun e => keyObj e.1).eraseDups
  hs.foldl clampRaster v

def commitBanks (cs : List Commit) : List (Map Int × List ObjId) := cs.map fun c => (c.values, c.removes)

/-- The device once every sealed commit and one more have applied. -/
def evalState (s : State) (values : Map Int) (removes : List ObjId) : State :=
  evalBanks s (commitBanks (allCommits s) ++ [(values, removes)])

/-- What the sealed commits have reserved, evaluated again: each with the commits sealed no later than it (R145). -/
def rechargeCommits (s : State) : State :=
  let cs := allCommits s
  let again (c : Commit) : Commit :=
    { c with charges := chargesOf (evalBanks s (commitBanks (cs.filter fun d => decide (d.sealed ≤ c.sealed)))) }
  { s with heads := s.heads.map fun h => (h.1, { h.2 with commits := h.2.commits.map again }) }

/-- The SURFACE of a format for a head's hold surface (R238). -/
def holdFormat (v : State) (h : ObjId) : Nat := if getProp v h pHeadCompFormat = 1 then 0x8021 else 0x8020

/-- The dimensions of an ACCUMULATE stage's accumulator (R216): BYTES width and height for an input. -/
def accGeometry (p : Nat × Nat × Nat × Nat) : Nat × Nat :=
  let ps := fmtPlanes p.1 p.2.1 p.2.2.1
  (3 * (ps.map (·.1)).foldl max 0, (ps.map (·.2)).sum)

/-- What a configuration needs of firmware's surfaces: a key, the object that fails, format, width and height. -/
structure Need where
  key : Nat
  obj : ObjId
  fmt : Nat
  w : Nat
  h : Nat
  owner : SurfOwner
deriving DecidableEq, Repr

/-- The keys of firmware's surfaces: a head's hold surface, a TCONV's accumulator, a delay line's part. -/
def delayKey (party : ObjId) (part : Nat) : Nat := 0x100000000 + party * 16 + part

/-- Whether the surface under a key exists with a geometry. -/
def holdOf (s : State) (h : Nat) : ObjId := (headRt s h).holdSurf
def surfIs (s : State) (o : ObjId) (fmt w h : Nat) : Bool :=
  match surfOf s o with
  | some f => f.format == fmt && f.width == w && f.height == h
  | none => false

/-- The accumulator that a stage holds. -/
def accOf (s : State) (u : ObjId) : ObjId := getPropN s u pTconvAccSurface

/-- Whether a TCONV leads an ACCUMULATE stage that runs or will run (R216). -/
def accumulates (s : State) (u : ObjId) : Bool :=
  getProp s u pTconvMode == 2 && (objsOf s clsRoute).any fun r =>
    (getProp s r pRouteState != 0 || (liveRoutes s).contains r) &&
      (routeStages s r).any fun g => g.kind == 2 && atD g.units 0 0 == u

/-- Free the accumulator of every stage that has left ACCUMULATE (R216). -/
def freeStrayAccs (s : State) : State :=
  (List.range 13).foldl (fun s i =>
    let u := objId clsTconv i
    if accOf s u = 0 ∨ accumulates s u then s else setProp (freeSurface s (accOf s u)) u pTconvAccSurface 0 0) s

/-- Firmware's surfaces that an evaluated configuration needs and the device lacks (R216, R238, R288). -/
def needsOf (s v : State) : List Need :=
  let holds := (List.range 24).filterMap fun h =>
    let o := headObj h
    let ra := rasterOf v o
    let f := holdFormat v o
    if headRuns v o && getProp v o pHeadStillAfter != 0 && !surfIs s (holdOf s h) f ra.1 ra.2.1 then
      some (⟨o, o, f, ra.1, ra.2.1, .hold⟩ : Need) else none
  let accs := (liveRoutes v).flatMap fun r => (routeStages v r).zipIdx.filterMap fun g =>
    let u := atD g.1.units 0 0
    if g.1.kind = 2 ∧ getProp v u pTconvMode = 2 then
      match picOf v (stageInput v r g.2) with
      | some p =>
        let a := accGeometry p
        if surfIs s (accOf s u) 1 a.1 a.2 then none else some (⟨u, u, 1, a.1, a.2, .accumulator⟩ : Need)
      | none => none
    else none
  let run (r : ObjId) : Bool := (liveRoutes v).contains r || routeLive v r
  let delays := audioProducers.flatMap fun p =>
    let ds := blockDelays v run p
    let n := srcChannels v p
    let rate := classRate (rateClass v p)
    let lines := ceilDiv (ds.foldl max 0 * rate.1) (1000000 * rate.2) + 512
    let ch := ((objsOf v clsAudioCh).find? fun c => pathReserved v run c && decide (getProp v c pAudioChDelay ≠ 0) &&
      decide (srcBase v p ≤ getPropN v c pAudioChSource ∧ getPropN v c pAudioChSource < srcBase v p + n)).getD p
    if ds.isEmpty ∨ srcBase v p = noChannel then []
    else (List.range (ceilDiv n 64)).filterMap fun k =>
      let w := min 64 (n - 64 * k)
      match surfOf s (mapGetD s.delayLines (p * 16 + k) 0) with
      | some f => if lines ≤ f.height ∧ f.width = w then none else some (⟨delayKey p k, ch, 0x50, w, lines, .delayLine⟩ : Need)
      | none => some ⟨delayKey p k, ch, 0x50, w, lines, .delayLine⟩
  (holds ++ accs ++ delays).filter fun n => !(allCommits s).any fun c => c.made.any fun m => m.1 == n.key &&
    surfIs s m.2 n.fmt n.w n.h

/-- Allocate firmware's surfaces, or name the object that cannot have its own: reason RINGS. -/
def makeNeeds (s : State) : List Need → Refused ⊕ (List (Nat × ObjId) × State)
  | [] => .inr ([], s)
  | n :: ns =>
    match allocSurface s n.fmt n.w n.h 0 0 n.owner with
    | none => .inl { reason := 3, object := n.obj }
    | some (o, s) =>
      match makeNeeds s ns with
      | .inl e => .inl e
      | .inr (m, s) => .inr ((n.key, o) :: m, s)

/-- What an admitted commit has reserved. -/
structure Admitted where
  state : State
  charges : Map Nat
  made : List (Nat × ObjId)
deriving DecidableEq, Repr

/-- The objects for which a bank's values change what stands in one configuration to what stands in another. -/
def touchedBy (w v : State) (values : Map Int) : List ObjId :=
  ((values.filter fun e => decide (mapGet w.props e.1 ≠ mapGet v.props e.1)).map fun e => keyObj e.1).eraseDups

/-- An evaluated configuration with the hold surface that its commit's own admission gives a head: the head's object stands
for a surface still to be allocated (R238). -/
def expectHold (v : State) (h : Nat) : State :=
  if headRuns v (headObj h) && getProp v (headObj h) pHeadStillAfter != 0 && decide (holdOf v h = 0) then
    updHead v h fun x => { x with holdSurf := headObj h }
  else v

/-- Run admission for values and removals on a head (R142), and reserve what it passes (R145, R174, R235). -/
def admitValues (s : State) (h : Nat) (values : Map Int) (removes : List ObjId) : Refused ⊕ Admitted :=
  let v := expectHold (evalState s values removes) h
  match admissionChecks s v (headObj h) with
  | some e => .inl e
  | none =>
    match makeNeeds s ((needsOf s v).filter fun n => decide (n.owner ≠ .hold ∨ n.key = headObj h)) with
    | .inl e => .inl e
    | .inr (made, s1) =>
      let now' := evalState s [] []
      let s2 := reserveAll s1 now' v (headObj h) (touchedBy now' v values) (some (headRt s h).nextCommit)
      .inr ⟨restoreIfFreed s1 s2 v, chargesOf v, made⟩

/-! ### Sealing (R56, R63, R67, R73) -/

/-- Seal values as a commit of a head: the staging bank is emptied for a commit of the bank itself. -/
def sealCommit (a : Admitted) (h : Nat) (src : CommitSrc) (values : Map Int) (removes : List ObjId)
    (release : Option Ticks) : Nat × State :=
  let s := a.state
  let x := headRt s h
  let c : Commit := ⟨x.nextCommit, src, values, removes, s.now, none, 0, none, none, false, release, a.charges,
    false, a.made⟩
  let x := { x with
    commits := x.commits ++ [c], nextCommit := x.nextCommit + 1
    staging := if removes.isEmpty then [] else x.staging }
  let s := setHeadRt s h x
  let s := a.made.foldl (fun s m =>
    if headIdx m.1 = some h ∧ getProp s m.1 pHeadHoldSurface = 0 then setProp s m.1 pHeadHoldSurface 0 m.2 else s) s
  (c.id, s)

/-- `head.commit_state` (Table 3.1). -/
def commitState (s : State) (h : Nat) : Nat :=
  let cs := (headRt s h).commits.filter fun c => c.staged.isSome
  let waiting (c : Commit) : Bool := match c.release with | some r => decide (s.now < r) | none => false
  if cs.isEmpty then 0
  else if cs.any (fun c => c.held) || s.hif.brace then 3
  else if cs.any fun c => c.late.isSome then 2
  else if cs.all waiting then 4
  else 1

/-- Find and change a commit of a head. -/
def commitOf (s : State) (h id : Nat) : Option Commit := (headRt s h).commits.find? fun c => c.id == id
def updCommit (s : State) (h id : Nat) (f : Commit → Commit) : State :=
  updHead s h fun x => { x with commits := x.commits.map fun c => if c.id = id then f c else c }

/-- The frame period of a head in ticks, as numerator and denominator; one second without a cadence. -/
def periodOf (s : State) (h : ObjId) : Nat × Nat :=
  match headRate s h with
  | some r => (secT * r.2, max r.1 1)
  | none => (secT, 1)

def framePeriod (s : State) (h : ObjId) : Ticks := (periodOf s h).1 / (periodOf s h).2

/-- The start of line n of a frame that starts at F (R223). -/
def lineAt (s : State) (h : ObjId) (F : Ticks) (n : Nat) : Ticks :=
  let p := periodOf s h
  F + n * p.1 / (p.2 * max (getPropN s h pHeadRaster 3) 1)

/-- H+1L: the start of the line that follows the hasp line of the last hinge (R59). -/
def afterHinge (s : State) (h : Nat) : Ticks :=
  let o := headObj h
  let x := headRt s h
  let th := x.lastHinge.getD s.now
  match x.prevZero with
  | some f =>
    let p := periodOf s o
    let k := ceilDiv ((th - f) * (p.2 * max (getPropN s o pHeadRaster 3) 1)) p.1
    lineAt s o f (k + 1)
  | none => lineAt s o th 1

/-- Whole lines between two instants of a head. -/
def linesBetween (s : State) (h : ObjId) (a b : Ticks) : Nat :=
  let p := periodOf s h
  (b - a) * (p.2 * max (getPropN s h pHeadRaster 3) 1) / p.1

/-- COMMIT_LATE (Table 3.5). -/
def raiseLate (s : State) (h : Nat) (c : Commit) (cause lines : Nat) : State :=
  let mt : Nat × Nat := match c.src with
    | .request mb _ tag _ => (mb, tag)
    | .removal mb _ tag _ => (mb, tag)
    | .group _ mb tag => (mb, tag)
  let tag := if mt.1 = 15 then 0xFFFF else mt.2
  let count := (getPropN s (headObj h) pHeadHingeCount + 1) % 2 ^ 32
  postEvent (bumpProp s (headObj h) pHeadLateCommits) 0x0701 (headObj h)
    (mt.1 * 2 ^ 60 + cause * 2 ^ 56 + min lines 255 * 2 ^ 48 + tag * 2 ^ 32 + count)

/-! ### Completion, withdrawal and discard -/

/-- The payload of Table 3.4. -/
def commitPayload (hinge : Nat) (t : Ticks) (outcome props : Nat) : List Byte :=
  toLe 8 hinge ++ timeBytes t ++ toLe 1 outcome ++ toLe 1 0 ++ toLe 4 props

/-- How many properties a bank holds values of: the elements of an array are one property's value. -/
def propCount (m : Map Int) : Nat := (m.map fun e => e.1 / 0x1000000).eraseDups.length

/-- Complete the request behind a commit, or report to its group. -/
def commitDone (s : State) (h : Nat) (c : Commit) (status outcome hinge : Nat) (t : Ticks) : State :=
  match c.src with
  | .request mb cnt _ _ =>
    match flightOf s mb cnt with
    | some f => completeFlight s f { status := status, payload := commitPayload hinge t outcome (propCount c.values) }
    | none => s
  | .removal mb cnt _ _ =>
    -- Table 3.4 is the payload of VX_COMMIT; R67 gives VX_DESTROY none
    match flightOf s mb cnt with
    | some f => completeFlight s f { status := status }
    | none => s
  | .group gid _ _ =>
    reportOutcome s gid (headObj h) (if outcome = 5 then 4 else outcome) hinge (if outcome ≤ 3 then some t else none)

/-- The last hinge of a head. -/
def lastHingeTime (s : State) (h : ObjId) : Ticks :=
  timeOfPair (getPropN s h pHeadHingeTime 0) (getPropN s h pHeadHingeTime 1)

/-- Release the slices that a commit reserved (R174), and reserve again what the configuration without it needs. -/
def releaseSlices (s : State) (h : Nat) (c : Commit) : State :=
  let mine (r : SliceRes) : Bool := r.by' == some c.id && resHead s r == headObj h
  if s.slices.any mine then
    let s1 := { s with slices := s.slices.filter fun r => !mine r }
    let w := evalState s1 [] []
    let s2 := reserveAll s1 w w (headObj h) [] ((headRt s1 h).commits.getLast?.map (·.id))
    restoreIfFreed s s2 w
  else s

/-- Release what a commit reserved (R145, R174). -/
def releaseCommit (s : State) (h : Nat) (c : Commit) : State :=
  let s := releaseSlices s h c
  c.made.foldl (fun s m =>
    let s := if headIdx m.1 = some h then setProp s m.1 pHeadHoldSurface 0 (headRt s h).holdSurf else s
    freeSurface s m.2) s

/-- Take a commit out of a head without applying it. -/
def removeCommit (s : State) (h : Nat) (c : Commit) : State :=
  rechargeCommits (releaseCommit (updHead s h fun x => { x with commits := x.commits.filter fun d => decide (d.id ≠ c.id) }) h c)

/-- Withdraw a commit: its values return to the staging bank, beneath those staged after it (R66, R74). -/
def withdrawCommit (s : State) (h : Nat) (c : Commit) : State :=
  let s := removeCommit s h c
  updHead s h fun x => { x with staging := mapOver c.values x.staging }

/-- A commit of a head withdrawn at its deadline completes with ABANDONED (R46, R66). -/
def withdrawAtDeadline (s : State) (h : Nat) (c : Commit) : State :=
  let s := withdrawCommit s h c
  let o := headObj h
  commitDone s h c stAbandoned 4 (getPropN s o pHeadHingeCount) (lastHingeTime s o)

/-- VX_DISCARD on a head (R65): its staging bank, and the commits sealed before the discard's start. -/
def discardHead (s : State) (h : Nat) (before : Option Nat) : State :=
  let cs := (headRt s h).commits.filter fun c => match before with | some n => decide (c.id < n) | none => true
  let s := updHead s h fun x => { x with staging := [] }
  let o := headObj h
  cs.foldl (fun s c =>
    commitDone (removeCommit s h c) h c stAbandoned 5 (getPropN s o pHeadHingeCount) (lastHingeTime s o)) s

/-- Run a request's effect on the banks that it took: what was staged since lies over what it leaves. -/
def withTaken (s : State) (r : Request) (f : State → State) : State :=
  let hs := (List.range 24).filterMap fun h => (takenOf s h r).map fun t => (h, t.values, (headRt s h).staging)
  let s := hs.foldl (fun s e => updHead s e.1 fun x => { x with staging := e.2.1 }) s
  hs.foldl (fun s e => updHead s e.1 fun x => { x with
    staging := mapOver x.staging e.2.2
    taken := x.taken.filter fun t => !(t.mb == r.mb && t.cnt == r.cnt) }) (f s)

end Sys2Proof.Machine
end

