-- ==== Sys2Proof/Machine/Cadence.lean ====
section
/-! DEFINITION. Frame pulses of the cadence generators and the raster times that follow from them (R223 to R226, R326). -/

namespace Sys2Proof.Machine

/-- Pulse n of a cadence (R326), with the offset in ticks. -/
def pulseAt (num den : Nat) (off n : Int) : Int :=
  let q := (off * num).fdiv (den * secT : Nat)
  ((n - q) * (den * secT : Nat) + off * num).fdiv (num : Int)

/-- The least n whose pulse lies at or after t: from the quotient, at most three steps up. -/
def pulseSearch (num den : Nat) (off t : Int) : Nat → Int → Int
  | 0, n => n
  | k + 1, n => if t ≤ pulseAt num den off n then n else pulseSearch num den off t k (n + 1)

def pulseIndex (num den : Nat) (off t : Int) : Int :=
  let q := (off * num).fdiv (den * secT : Nat)
  pulseSearch num den off t 4 ((t * num - off * num).fdiv (den * secT : Nat) + q - 1)

/-- The offset of a cadence in ticks. -/
def cadenceOff (s : State) (c : ObjId) : Int := getProp s c pCadenceOffset * nsT

/-- The first pulse of a cadence at or after an instant. -/
def firstPulse (s : State) (c : ObjId) (t : Ticks) : Ticks :=
  let num := max (getPropN s c pCadenceRate 0) 1
  let den := getPropN s c pCadenceRate 1
  (pulseAt num den (cadenceOff s c) (pulseIndex num den (cadenceOff s c) t)).toNat

/-- `head.phase` in ticks, reduced modulo the frame period (R224). -/
def phaseOf (s : State) (h : ObjId) : Ticks :=
  let p := periodOf s h
  let ph := getPropN s h pHeadPhase * nsT
  if p.1 ≤ ph * p.2 then ph - ph * p.2 / p.1 * p.1 / p.2 else ph

/-- The first frame start of a head at or after an instant. -/
def frameStart (s : State) (h : ObjId) (t : Ticks) : Ticks :=
  let c := getPropN s h pHeadCadence
  let ph := phaseOf s h
  firstPulse s c (t - ph) + ph

/-- The hasp line's number: V_act + `head.hasp_line` (R58). -/
def haspLine (s : State) (h : ObjId) : Nat := getPropN s h pHeadRaster 1 + getPropN s h pHeadHaspLine

/-- H₀ of a starting head: the first hasp line at least 100 µs after an instant; the frame start after it, and H₀. -/
def startSearch (s : State) (h : ObjId) (t : Ticks) : Nat → Ticks → Ticks × Ticks
  | 0, f => (f, lineAt s h f (haspLine s h))
  | k + 1, f =>
    let hinge := lineAt s h f (haspLine s h)
    if t + 100 * usT ≤ hinge then (frameStart s h (f + 1), hinge) else startSearch s h t k (frameStart s h (f + 1))

def firstHinge (s : State) (h : ObjId) (t : Ticks) : Ticks × Ticks :=
  startSearch s h t 6 (frameStart s h (t - framePeriod s h))

/-- The frame start of a retimed head: at least the blanking lines after the hinge (R226). -/
def retimedStart (s : State) (h : ObjId) (t : Ticks) : Ticks :=
  let p := periodOf s h
  let n := getPropN s h pHeadRaster 3 - haspLine s h
  frameStart s h (t + ceilDiv (n * p.1) (p.2 * max (getPropN s h pHeadRaster 3) 1))

/-- Where pixel x of line n of the frame at F is handed to egress (R223). -/
def pixelAt (s : State) (h : ObjId) (F : Ticks) (n x : Nat) : Ticks :=
  let p := periodOf s h
  lineAt s h F n + x * p.1 / (p.2 * max (getPropN s h pHeadRaster 3 * getPropN s h pHeadRaster 2) 1)

end Sys2Proof.Machine
end

