-- ==== Sys2Proof/Machine/Ancillary.lean ====
section
/-! DEFINITION. Ancillary packets: the words and the checksum of ST 291-1, and the time code of ST 12-2 (R94, R251, R253). Their
layout is that of the standards, which the spec names and does not repeat (PRESUMED: log entry 175). -/

namespace Sys2Proof.Machine

/-! ### ST 291-1 -/

/-- The parity of the low 8 bits of a number. -/
def parity8 (v : Nat) : Bool := (List.range 8).foldl (fun b i => xor b (bitOf v i)) false

/-- A byte as a 10-bit word: bit 8 is its even parity, bit 9 the inverse of bit 8. -/
def parityWord (v : Nat) : Nat := v % 256 + if parity8 v then 0x100 else 0x200

/-- A sum of 9 bits as a checksum word: bit 9 is the inverse of bit 8. -/
def closeSum (v : Nat) : Nat := v % 512 + if bitOf v 8 then 0 else 0x200

/-- The checksum word over the words from the DID on. -/
def ancChecksum (words : List Nat) : Nat := closeSum (words.foldl (fun a w => a + w % 512) 0)

/-- The words of a packet in 10 bits: data flag, DID, SDID, data count, user data words, checksum. The checksum is generated
(R20, R251), whatever the packet carried. -/
def ancWords (did sdid : Nat) (udw : List Nat) : List Nat :=
  let body := [parityWord did, parityWord sdid, parityWord udw.length] ++ udw.map (· % 1024)
  [0x000, 0x3FF, 0x3FF] ++ body ++ [ancChecksum body]

/-! ### ST 12-2 -/

/-- The kinds of ATC packet, by their first distributed binary bits. -/
abbrev atcLtc : Nat := 0

/-- The user data words of an ATC packet: four bits of the time code word in bits 7:4 of each, one bit of DBB1 or DBB2 in bit 3. -/
def atcUdw (code dbb : Nat) : List Nat :=
  (List.range 16).map fun k => parityWord (code / 16 ^ k % 16 * 16 + bit01 (bitOf dbb k) * 8)

/-- An ATC packet's time code word and its kind. -/
def atcRead (a : AncPacket) : Option (Nat × Nat) :=
  if a.did % 256 ≠ 0x60 ∨ a.sdid % 256 ≠ 0x60 ∨ a.words.length < 16 then none
  else
    let ws := a.words.take 16
    some ((ws.zipIdx.map fun w => bitsOf w.1 7 4 * 16 ^ w.2).sum, ((ws.take 8).zipIdx.map fun w => bit01 (bitOf w.1 3) * 2 ^ w.2).sum)

/-- The time code of a frame: ATC_LTC in preference to ATC_VITC (R94). -/
def frameTimecode (l : List AncPacket) : Option Nat :=
  let codes := l.filterMap atcRead
  ((codes.find? fun c => c.2 == atcLtc).or (codes.find? fun c => c.2 == 1 || c.2 == 2)).map (·.1)

end Sys2Proof.Machine
end

