-- ==== Sys2Proof/Machine/NetOut.lean ====
section
/-! DEFINITION. The payloads of ST 2110 flows that an egress port sends (R254): the bytes that follow the RTP header. The layouts of
ST 2110-20 and RFC 8331 are presumed (log entry 177). -/

namespace Sys2Proof.Machine

/-- Words of some bits each, most significant first, in whole bytes: zeros fill the last. -/
def beWords (bits : Nat) (ws : List Nat) : List Byte :=
  let n := ceilDiv (ws.length * bits) 8
  toBe n (ws.foldl (fun a w => a * 2 ^ bits + w % 2 ^ bits) 0 * 2 ^ (8 * n - ws.length * bits))

/-! ### ST 2110-20 -/

/-- The samples of one line in the order in which ST 2110-20 carries them: Cb, Y, Cr, Y; Y, Cb, Cr as Cb, Y, Cr; R, G, B. -/
def lineSamples (ycc sub : Bool) (planes : List (List (List Nat))) (y : Nat) : List Nat :=
  let row (k : Nat) := atD (atD planes k []) y []
  if sub then (List.range (row 1).length).flatMap fun i =>
    [atD (row 1) i 0, atD (row 0) (2 * i) 0, atD (row 2) i 0, atD (row 0) (2 * i + 1) 0]
  else (List.range (row 0).length).flatMap fun i =>
    if ycc then [atD (row 1) i 0, atD (row 0) i 0, atD (row 2) i 0] else [atD (row 0) i 0, atD (row 1) i 0, atD (row 2) i 0]

/-- The first and the last pixel group, the latter excluded, of packet k of n of a line: its groups divided evenly. -/
def groupSpan (groups n k : Nat) : Nat × Nat := (k * groups / max n 1, (k + 1) * groups / max n 1)

/-- The payload of packet k of n of a line: the high bits of the sequence number, one sample row data header, and the samples.
`g` gives the samples and the pixels of a pixel group. -/
def videoPayload (seq line bits n k : Nat) (g : Nat × Nat) (xs : List Nat) : List Byte :=
  let span := groupSpan (ceilDiv xs.length g.1) n k
  let data := beWords bits ((xs.drop (span.1 * g.1)).take ((span.2 - span.1) * g.1))
  toBe 2 (seq / 65536) ++ toBe 2 data.length ++ toBe 2 line ++ toBe 2 (span.1 * g.2) ++ data

/-! ### ST 2110-40 -/

/-- One packet of RFC 8331: stream, line and offset, then the words of ST 291-1 with a checksum generated for them, in whole
32-bit words. -/
def ancPayload (a : AncPacket) : List Byte :=
  let udw := a.words.dropLast.map (· % 1024)
  let body := beWords 10 ((ancWords a.did a.sdid udw).drop 3)
  let head := toBe 4 (bit01 a.chroma * 2 ^ 31 + a.line % 2 ^ 11 * 2 ^ 20 + a.hoffset % 2 ^ 12 * 2 ^ 8)
  padTo (roundUp (head ++ body).length 4) (head ++ body)

/-- Packets that go into one RTP payload each, as many as `room` holds of what is left. -/
def ancGroups (room : Nat) : List AncPacket → Nat → List AncPacket → List (List AncPacket)
  | [], _, acc => [acc]
  | a :: as, used, acc =>
    let n := (ancPayload a).length
    if acc ≠ [] ∧ room < used + n then acc :: ancGroups room as n [a] else ancGroups room as (used + n) (acc ++ [a])

/-- The payload of one RTP packet: the high bits of the sequence number, the length, the count, and the packets. -/
def ancFlowPayload (seq : Nat) (as : List AncPacket) : List Byte :=
  let body := as.flatMap ancPayload
  toBe 2 (seq / 65536) ++ toBe 2 body.length ++ toBe 1 as.length ++ toBe 3 0 ++ body

end Sys2Proof.Machine
end

