-- ==== Sys2Proof/Machine/SdiOut.lean ====
section
/-! DEFINITION. The SDI signal that an egress port sends: timing reference signals, line numbers, line CRCs, payload ID, ancillary
packets, embedded audio and active words (R20, R250, R251, R253). The layouts are those of the SMPTE standards that the spec names
and does not repeat (PRESUMED: log entry 177). -/

namespace Sys2Proof.Machine

/-! ### Words of a line -/

/-- The timing reference signal with the flags F and V, at the end (EAV) or the start (SAV) of the active words. -/
def trsWords (f v eav : Bool) : List Nat :=
  let p (a b : Bool) : Nat := bit01 (xor a b)
  [0x3FF, 0, 0, 0x200 + bit01 f * 256 + bit01 v * 128 + bit01 eav * 64 + p v eav * 32 + p f eav * 16 + p f v * 8 +
    bit01 (xor f (xor v eav)) * 4]

/-- The two line number words. -/
def lineNumberWords (n : Nat) : List Nat := [closeSum (n % 128 * 4), n / 128 % 16 * 4 + 0x200]

/-- One bit into the register of the line CRC, X¹⁸ + X⁵ + X⁴ + 1, bit 0 of a word first. -/
def crc18Bit (c : Nat) (b : Bool) : Nat := if xor (bitOf c 0) b then (c / 2) ^^^ 0x23000 else c / 2

/-- Words into the register of the line CRC. -/
def crc18 (c : Nat) (ws : List Nat) : Nat :=
  ws.foldl (fun c w => (List.range 10).foldl (fun c i => crc18Bit c (bitOf w i)) c) c

/-- The two CRC words. -/
def crcWords (c : Nat) : List Nat := [closeSum (c % 512), closeSum (c / 512)]

/-- The fill of stream `j`: streams go in pairs, luma first. -/
def fillWord (j : Nat) : Nat := if j % 2 = 0 then 0x040 else 0x200

/-- Words placed from the start of a space, the rest of which is filled. -/
def inSpace (room fill : Nat) (ws : List Nat) : List Nat := (ws ++ List.replicate (room - ws.length) fill).take room

/-! ### Lines and segments -/

/-- The active line that a line carries, numbered from 0: of a PsF frame, 540 lines of 1,080 in each of two segments, the even
lines in the first. -/
def activeOn (psf : Bool) (vAct vTot line : Nat) : Option Nat :=
  if psf then
    let half := vAct / 2
    if 21 ≤ line ∧ line < 21 + half then some (2 * (line - 21))
    else if 584 ≤ line ∧ line < 584 + half then some (2 * (line - 584) + 1)
    else none
  else
    let first := if vTot = 750 then 26 else if vTot = 1125 then 42 else vTot - vAct + 1
    if first ≤ line ∧ line < first + vAct then some (line - first) else none

/-- The two-sample interleave of an image, `n` times over: four sub-images each time, lines alternating between two of them and
pairs of samples between each two. A plane comes with the samples that stand for a pair. -/
def subImages : Nat → List (Nat × List (List Nat)) → List (List (Nat × List (List Nat)))
  | 0, im => [im]
  | n + 1, im =>
    ([(0, 0), (0, 1), (1, 0), (1, 1)] : List (Nat × Nat)).flatMap fun q =>
      subImages n (im.map fun p =>
        (p.1, (p.2.zipIdx.filter fun r => r.2 % 2 == q.1).map fun r => (r.1.zipIdx.filter fun v => v.2 / p.1 % 2 == q.2).map (·.1)))

/-- Two components of a line in turn. -/
def interleave : List Nat → List Nat → List Nat
  | a :: as, b :: bs => a :: b :: interleave as bs
  | _, _ => []

/-- Every second sample from one on. -/
def everyOther (odd : Nat) (r : List Nat) : List Nat := (r.zipIdx.filter fun v => v.2 % 2 == odd).map (·.1)

/-- The streams of one line of an image: luma and chroma of 4:2:2 at 10 bits; else two pairs, the second of which takes the odd
chroma samples and, at 12 bits, the two least bits of every component. -/
def lineStreams (sub : Bool) (bits : Nat) (a b c : List Nat) : List (List Nat) :=
  let top (r : List Nat) := if bits = 12 then r.map (· / 4) else r
  let low (i : Nat) : Nat :=
    let k := if sub then i / 2 else i
    let chroma := if sub && i % 2 == 1 then 0 else atD b k 0 % 4 * 4 + atD c k 0 % 4
    parityWord (atD a i 0 % 4 * 16 + chroma)
  let lows := (List.range a.length).map fun i => if bits = 12 then low i else 0x040
  if sub then
    if bits = 10 then [a, interleave b c]
    else [top a, interleave (top b) (top c), lows, List.replicate a.length 0x200]
  else
    let half (odd : Nat) := interleave (everyOther odd (top b)) (everyOther odd (top c))
    [top a, half 0, lows, half 1]

/-! ### Packets -/

/-- A packet on a line of one stream: in the horizontal ancillary space, or from the start of the active words (vertical). -/
structure SdiPacket where
  line : Nat
  stream : Nat
  vertical : Bool
  words : List Nat
deriving DecidableEq, Repr

/-- The words that packets put into one space of a line. -/
def packetsIn (ps : List SdiPacket) (line stream : Nat) (vertical : Bool) : List Nat :=
  (ps.filter fun p => p.line == line && p.stream == stream && p.vertical == vertical).flatMap (·.words)

/-- The picture rate of ST 352. -/
def payloadRate (rate : Nat × Nat) : Nat :=
  let codes : List (Nat × Nat × Nat) := [(24000, 1001, 2), (24, 1, 3), (48000, 1001, 4), (25, 1, 5), (30000, 1001, 6), (30, 1, 7),
    (48, 1, 8), (50, 1, 9), (60000, 1001, 10), (60, 1, 11)]
  ((codes.find? fun c => c.1 * rate.2 == c.2.1 * rate.1).map (·.2.2)).getD 0

/-- The ST 352 payload ID: standard and lines, scan and rate, sampling and width, bit depth and link. -/
def payloadId (std vAct : Nat) (psf wide : Bool) (rate : Nat × Nat) (ycc sub : Bool) (bits link : Nat) : List Nat :=
  let b1 := match std with
    | 0 => if vAct = 720 then 0x84 else 0x85
    | 1 => if vAct = 720 then 0x88 else 0x89
    | 2 => 0x8A
    | 3 => if vAct = 2160 then 0xC0 else 0xC1
    | 4 => if vAct = 2160 then 0xCE else 0xCF
    | _ => 0xD2
  [b1, bit01 (!psf) * 128 + 64 + payloadRate rate, bit01 wide * 64 + (if sub then 0 else if ycc then 1 else 2),
    link % 4 * 64 + (if bits = 12 then 2 else 1)]

/-- The ST 12-1 time code word of a time address, user bits zero; the frame-pair flag is bit 59 at 25 and 50 frames a second and
bit 27 otherwise. -/
def timeWord (t : TimeAddr) (nominal : Nat) : Nat :=
  let flag := if nominal % 25 = 0 then 59 else 27
  t.frames % 10 + t.frames / 10 % 4 * 2 ^ 8 + bit01 t.drop * 2 ^ 10 + t.seconds % 10 * 2 ^ 16 + t.seconds / 10 * 2 ^ 24 +
    t.minutes % 10 * 2 ^ 32 + t.minutes / 10 * 2 ^ 40 + t.hours % 10 * 2 ^ 48 + t.hours / 10 * 2 ^ 56 +
    bit01 t.second * 2 ^ flag

/-- The user data words of ATC_LTC for a time address (R253). -/
def ltcUdw (t : TimeAddr) (nominal : Nat) : List Nat := atcUdw (timeWord t nominal) atcLtc

/-! ### Embedded audio (R253) -/

/-- The four user data words of a sample: audio bits, block start and parity. -/
def audioUdw (start : Bool) (x : Int) : List Nat :=
  let v := twos 24 x
  let w (i : Nat) : Nat := if i = 0 then v % 16 * 16 + bit01 start * 8 else if i = 3 then v / 2 ^ 20 else v / 2 ^ (8 * i - 4) % 256
  let p := xor (parity8 (w 0)) (xor (parity8 (w 1)) (xor (parity8 (w 2)) (parity8 (w 3))))
  [parityWord (w 0), parityWord (w 1), parityWord (w 2), parityWord (w 3 + bit01 p * 128)]

/-- The check bits of one bit position: BCH with (X + 1)(X⁵ + X² + 1). -/
def bchBits (bs : List Bool) : Nat :=
  bs.foldl (fun r b => if xor (bitOf r 5) b then (2 * r % 64) ^^^ 0x2F else 2 * r % 64) 0

/-- The six check words over the first 24 words of an audio data packet. -/
def eccWords (ws : List Nat) : List Nat :=
  (List.range 6).map fun k => parityWord ((List.range 8).map fun i => bit01 (bitOf (bchBits (ws.map fun w => bitOf w i)) (5 - k)) * 2 ^ i).sum

/-- An audio data packet: group, block number, the sample's clock within its line, and one sample of each of four channels. -/
def audioPacket (group dbn clock : Nat) (start : Bool) (xs : List Int) : List Nat :=
  let did := if group < 4 then 0xE7 - group else 0xA7 - (group - 4)
  let udw := [parityWord (clock % 256), parityWord (clock / 256 % 16 + clock / 4096 % 2 * 32)] ++
    (List.range 4).flatMap fun c => audioUdw start (atD xs c 0)
  let head := [0x000, 0x3FF, 0x3FF, parityWord did, parityWord dbn, parityWord 24] ++ udw
  head ++ eccWords head ++ [ancChecksum ((head ++ eccWords head).drop 3)]

/-- The audio frame number after `n` frames: sequences of five at 30,000/1,001 and 60,000/1,001 frames a second, whose frames do not
hold whole samples; 0 elsewhere (R289). -/
def audioFrame (rate : Nat × Nat) (n : Nat) : Nat :=
  if rate.1 * 1001 = 30000 * rate.2 ∨ rate.1 * 1001 = 60000 * rate.2 then n % 5 + 1 else 0

/-- The audio control packet of a group: the audio frame number and its active channels. -/
def audioControl (group frame active : Nat) : List Nat :=
  ancWords (if group < 4 then 0xE3 - group else 0xA3 - (group - 4)) 0
    (closeSum frame :: ([0, active] ++ List.replicate 8 0).map parityWord)

/-- The packets of a frame's audio: each sample on the line after that in which it falls, in the chroma stream, and one control
packet for each group in the luma stream; groups 5 to 8 take the second pair of streams. `sent` counts the samples before. -/
def audioPackets (vTot hTot sent frame : Nat) (audio : List (List Int)) : List SdiPacket :=
  let n := (atD audio 0 []).length
  (List.range (ceilDiv audio.length 4)).flatMap fun g =>
    let xs := (audio.drop (4 * g)).take 4
    let pair := if g < 4 then 0 else 2
    (⟨9, pair, false, audioControl g frame (2 ^ xs.length - 1)⟩ : SdiPacket) ::
      (List.range n).map fun i =>
        ⟨i * vTot / n % vTot + 1, pair + 1, false,
          audioPacket g ((sent + i) % 255 + 1) (i * vTot % n * hTot / n) ((sent + i) % 192 == 0) (xs.map fun c => atD c i 0)⟩

/-! ### A frame -/

/-- The raster of each stream, and what a frame carries. -/
structure SdiPicture where
  vAct : Nat
  vTot : Nat
  hTot : Nat
  hAct : Nat
  psf : Bool
  rows : List (List (List Nat))   -- the active words of each stream, by active line
  packets : List SdiPacket
deriving DecidableEq, Repr

/-- One line of one stream, given the CRC register after the active words before it; and the register after its own. -/
def streamLine (g : SdiPicture) (line j crc : Nat) : List Nat × Nat :=
  let active := activeOn g.psf g.vAct g.vTot line
  let v := active.isNone
  let f := g.psf && decide (564 ≤ line)
  let ahead := trsWords f v true ++ lineNumberWords line
  let words := match active with
    | some y => atD (atD g.rows j []) y []
    | none => inSpace g.hAct (fillWord j) (packetsIn g.packets line j true)
  (ahead ++ crcWords (crc18 crc ahead) ++ inSpace (g.hTot - g.hAct - 12) (fillWord j) (packetsIn g.packets line j false) ++
    trsWords f v false ++ words, crc18 0 words)

/-- Line by line: every stream of each line, with the CRC registers carried from one line to the next. -/
def sdiLines (g : SdiPicture) : List Nat → List Nat → List SdiLine × List Nat
  | [], crcs => ([], crcs)
  | l :: ls, crcs =>
    let made := (List.range g.rows.length).map fun j => streamLine g l j (atD crcs j 0)
    let rest := sdiLines g ls (made.map (·.2))
    (⟨l, made.map (·.1)⟩ :: rest.1, rest.2)

/-- A frame from line 1 to its last line. -/
def sdiSignal (g : SdiPicture) (crcs : List Nat) : List SdiLine × List Nat :=
  sdiLines g ((List.range g.vTot).map (· + 1)) crcs

end Sys2Proof.Machine
end

