-- ==== Sys2Proof/Machine/Egress.lean ====
section
/-! DEFINITION. Egress ports: states, samples, SDI, ST 2110 and DisplayPort (R246 to R259, R266, R268). -/

namespace Sys2Proof.Machine

def out0 : PortOut := ⟨none, [], none, 0, 0, 0, 0, 0, [], [], 0, [], 0, [], 0, false, none⟩
def outOf (s : State) (p : ObjId) : PortOut := mapGetD s.outs (objInst p) out0
def setOut (s : State) (p : ObjId) (x : PortOut) : State := { s with outs := mapPut s.outs (objInst p) x }
def updOut (s : State) (p : ObjId) (f : PortOut → PortOut) : State := setOut s p (f (outOf s p))

def dpPins0 : DpPins := ⟨false, none, false, 0⟩
def dpPinsOf (s : State) (n : Nat) : DpPins := mapGetD s.dpPins n dpPins0
def setDpPins (s : State) (n : Nat) (x : DpPins) : State := { s with dpPins := mapPut s.dpPins n x }

/-- The pin set of a DP port and what stands on it (R258). -/
def portPins (s : State) (p : ObjId) : DpPins := dpPinsOf s (getPropN s p pPortOutAux)

/-! ### Samplings (R249, Tables 11.3 and 11.9) -/

/-- The samplings of `port_out.sampling`: YCC, subsampled to 4:2:2, bits. -/
def samplingOf (x : Nat) : Bool × Bool × Nat :=
  match x with
  | 0 => (true, true, 10) | 1 => (true, true, 12) | 2 => (true, false, 10) | 3 => (true, false, 12)
  | 4 => (false, false, 10) | 5 => (false, false, 12) | 6 => (false, false, 8)
  | 7 => (true, true, 16) | 8 => (true, false, 16) | _ => (false, false, 16)

def bitsPerPixel (x : Nat) : Nat :=
  let m := samplingOf x
  (if m.2.1 then 2 else 3) * m.2.2

/-- A head component at a width (Table 11.3), with the SDI clamp. -/
def mapWidth (sdi : Bool) (bits : Nat) (v : Int) : Nat :=
  let x : Int := match bits with
    | 8 => min ((v + 8).fdiv 16) 255
    | 10 => min ((v + 2).fdiv 4) 1023
    | 12 => v
    | _ => v * 16 + v.fdiv 256
  (if sdi then (if bits = 10 then clampInt 4 1019 x else if bits = 12 then clampInt 16 4079 x else x) else x).toNat

/-- Repeat the last pixel before an underrun to the end of its line (R241): step 2 for subsampled chroma. -/
def repeatFrom {α : Type} (step : Nat) (d : α) (rows : List (List α)) (before : α) (us : List (Nat × Nat)) : List (List α) :=
  us.foldl (fun rows u =>
    let r := atD rows u.1 []
    let k := ceilDiv u.2 step
    let v := if u.2 = 0 then (if u.1 = 0 then before else (atD rows (u.1 - 1) []).getLastD d) else atD r (k - 1) d
    rows.set u.1 (r.take k ++ List.replicate (r.length - k) v)) rows

/-- Where the lines of the frame that starts at F repeat: the head's underruns, and what the port's own engines lost. -/
def portGaps (s : State) (p : ObjId) (F : Ticks) (us : List (Nat × Nat)) : List (Nat × Nat) :=
  us ++ ((outOf s p).gaps.filter fun g => g.1 == F).map (·.2)

/-- The planes that a port sends for a frame's components. -/
def portPlanes (s : State) (p : ObjId) (grids : List Grid) (us : List (Nat × Nat)) : List (List (List Nat)) :=
  let m := samplingOf (getPropN s p pPortOutSampling)
  let sdi := getProp s p pPortOutKind == 1
  let siting := getPropN s p pPortOutChromaSiting % 2
  grids.zipIdx.map fun g =>
    let sub := m.2.1 && decide (1 ≤ g.2)
    let a := if sub then downChroma siting true false g.1 else g.1
    let rows := a.map fun r => r.map (mapWidth sdi m.2.2)
    repeatFrom (if sub then 2 else 1) 0 rows (atD (outOf s p).lastPixel g.2 0) us

/-! ### What a port carries (R250, R254, R257) -/

/-- The raster and rate of a port's head: H_act, V_act, H_tot, V_tot, rate. -/
def portRaster (s : State) (p : ObjId) : (Nat × Nat × Nat × Nat) × (Nat × Nat) :=
  let h := getPropN s p pPortOutHead
  (rasterOf s h, (headRate s h).getD (0, 1))

/-- The picture sizes and total lines of an SDI standard. -/
def sdiSizes (std : Nat) : List (Nat × Nat × Nat) :=
  match std with
  | 0 | 1 | 2 => [(1280, 720, 750), (1920, 1080, 1125), (2048, 1080, 1125)]
  | 3 | 4 => [(1920, 1080, 1125), (2048, 1080, 1125), (3840, 2160, 2250), (4096, 2160, 2250)]
  | _ => [(7680, 4320, 4500), (8192, 4320, 4500)]

/-- The payload rate of an SDI standard in bits per second, before 1/1.001. -/
def sdiRate (std : Nat) : Nat :=
  match std with
  | 0 => 1485000000 | 1 | 2 => 2970000000 | 3 => 5940000000 | 4 => 11880000000 | _ => 47520000000

/-- Whether a standard carries a sampling (Table 11.4). -/
def sdiSampling (std x : Nat) : Bool :=
  match std with
  | 0 => x == 0
  | 1 => [0, 2, 3, 4, 5].contains x
  | _ => decide (x ≤ 5)

/-- How often the two-sample interleave divides a picture into four, down to 720 or 1,080 lines. -/
def sdiDepth (vAct : Nat) : Nat := if vAct < 2160 then 0 else if vAct < 4320 then 1 else 2

/-- The frame rates of the progressive picture formats. -/
def sdiFrameRates : List (Nat × Nat) :=
  [(24, 1), (25, 1), (30, 1), (48, 1), (50, 1), (60, 1), (24000, 1001), (30000, 1001), (48000, 1001), (60000, 1001)]

/-- The pixel rate of a picture format before 1/1.001: 74.25 MHz, twice that above 30 frames a second from 1,080 lines on, and
four times as much for each division by the two-sample interleave. -/
def sdiPixelRate (vAct : Nat) (rate : Nat × Nat) : Nat :=
  74250000 * 4 ^ sdiDepth vAct * if vAct ≠ 720 ∧ 30 * rate.2 < rate.1 then 2 else 1

/-- Whether a standard carries a raster and rate in a sampling: a picture format of the standard with the totals that its pixel
rate gives, and 20 bits for each total pixel in 4:2:2 at 10 bits or twice that in every other sampling, at the standard's rate or
1/1.001 of it; two segments have a place in 1,125 lines alone (R250; log entry 177). -/
def sdiCarries (std x : Nat) (psf : Bool) (r : Nat × Nat × Nat × Nat) (rate : Nat × Nat) : Bool :=
  let m := if x = 0 then 20 else 40
  let pixels := r.2.2.1 * r.2.2.2 * rate.1
  let at' (n k : Nat) : Bool := k == n * rate.2 || k * 1001 == n * 1000 * rate.2
  (sdiSizes std).contains (r.1, r.2.1, r.2.2.2) && (sdiFrameRates.any fun f => f.1 * rate.2 == rate.1 * f.2) &&
    at' (sdiPixelRate r.2.1 rate) pixels && at' (sdiRate std) (pixels * m) && !(psf && r.2.1 == 720)

/-- Table 11.6: lanes and rate code, in order. -/
def dpConfigs : List (Nat × Nat) := [(1, 0), (1, 1), (2, 0), (1, 2), (2, 1), (4, 0), (2, 2), (4, 1), (4, 2)]

def dpLaneRate (code : Nat) : Nat := match code with | 0 => 10000000000 | 1 => 13500000000 | _ => 20000000000

/-- Whether a configuration carries the stream rate S of a port (R257). -/
def dpCarries (s : State) (p : ObjId) (c : Nat × Nat) : Bool :=
  let r := portRaster s p
  decide (r.1.2.2.1 * r.1.2.2.2 * r.2.1 * bitsPerPixel (getPropN s p pPortOutSampling) * 132 * 100 ≤
    c.1 * dpLaneRate c.2 * 128 * 99 * r.2.2)

/-- The first configuration within `port_out.dp_max`, the bound lanes and the sink that carries S. -/
def dpChoose (s : State) (p : ObjId) : Option (Nat × Nat) :=
  let x := getPropN s p pPortOutDpMax
  let bound := ((getPropsN s p pPortOutLanes 4).filter fun l => decide (l ≤ 95)).length
  let sink := (portPins s p).sink.getD (4, 2)
  dpConfigs.find? fun c =>
    decide (c.1 ≤ x % 16 ∧ c.2 ≤ x / 16 ∧ c.1 ≤ bound ∧ c.1 ≤ sink.1 ∧ c.2 ≤ sink.2) && dpCarries s p c

/-- Whether the link is trained: `port_out.dp_link`. -/
def dpTrained (s : State) (p : ObjId) : Option (Nat × Nat) :=
  if getProp s p pPortOutDpLink 1 = 255 then none else some (getPropN s p pPortOutDpLink 0, getPropN s p pPortOutDpLink 1)

/-- Why a port cannot carry its head: 2 raster or rate, 3 family or sampling (R248, R249, R250). -/
def portMismatch (s : State) (p : ObjId) : Option Nat :=
  let kind := getProp s p pPortOutKind
  let h := getPropN s p pPortOutHead
  let x := getPropN s p pPortOutSampling
  if kind = 3 ∨ kind = 4 ∨ h = 0 then none
  else if (samplingOf x).1 != (getProp s h pHeadCompFormat == 1) then some 3
  else if kind = 1 then
    let std := getPropN s p pPortOutSdiStd
    let r := portRaster s p
    if !sdiSampling std x then some 3 else if sdiCarries std x (getProp s p pPortOutPsf == 1) r.1 r.2 then none else some 2
  else none

/-! ### States (R248, Table 11.2) -/

def setPrState (s : State) (p : ObjId) (v : Nat) : State :=
  if getPropN s p pPortOutPrState = v then s
  else postEvent (setProp s p pPortOutPrState 0 v) 0x0203 p v

/-- A port that enters RUNNING counts its frames from 0 (R247); one that leaves it ends Panel Replay. -/
def setOutState (s : State) (p : ObjId) (v cause : Nat) : State :=
  if getPropN s p pPortOutState = v then s
  else
    let s := postEvent (setProp s p pPortOutState 0 v) 0x0201 p (v + cause * 256)
    let s := updOut s p fun x => { x with sent := 0, gaps := [], resume := false }
    if v ≠ 2 ∧ getProp s p pPortOutPrState = 2 then setPrState s p 1 else s

/-- Start training (R258). -/
def dpTrain (s : State) (p : ObjId) (cause : Nat) : State :=
  let s := setProp (setProp s p pPortOutDpLink 0 0) p pPortOutDpLink 1 255
  setOutState (updOut s p fun x => { x with why := cause, failedAt := none }) p 4 cause

/-- Bring a port that is not STOPPED to the state that its head, its sink and its link give (R248, R257, R258). -/
def evalOut (s : State) (p : ObjId) (cause : Nat) : State :=
  let kind := getProp s p pPortOutKind
  let h := getPropN s p pPortOutHead
  if getProp s p pPortOutState = 0 then s
  else if kind = 5 ∧ !(portPins s p).hpd then setOutState s p 5 5
  else if kind == 5 && (match dpTrained s p with | some c => !dpCarries s p c | none => true) then
    match dpChoose s p with
    | none => setOutState (setProp (setProp s p pPortOutDpLink 0 0) p pPortOutDpLink 1 255) p 3 4
    | some _ => if getProp s p pPortOutState = 4 then s else dpTrain s p cause
  else if kind ≠ 3 ∧ (h = 0 ∨ getProp s h pHeadRasterState ≠ 2) then setOutState s p 1 cause
  else
    match portMismatch s p with
    | some c => setOutState s p 3 c
    | none => setOutState s p 2 cause

/-- The egress ports that name a head. -/
def headPorts (s : State) (h : ObjId) : List ObjId :=
  ((List.range 128).map (objId clsPortOut)).filter fun p => getPropN s p pPortOutHead == h && getProp s p pPortOutKind != 0

/-- The raster state of a head changed: RASTER_STATE, and its ports follow (R225, R226, R248). -/
def setRasterState (s : State) (h : Nat) (v : Nat) : State :=
  let o := headObj h
  if getPropN s o pHeadRasterState = v then s
  else
    let s := setProp s o pHeadRasterState 0 v
    let s := postEvent s 0x0707 o (getPropN s o pHeadHingeCount % 2 ^ 32 * 2 ^ 32 + v)
    (headPorts s o).foldl (fun s p => evalOut s p 1) s

/-! ### Time code (R253) -/

/-- Drop-frame counting, at 30,000/1,001 and 60,000/1,001 frames a second. -/
def dropFrame (rate : Nat × Nat) : Bool := rate.1 * 1001 == 30000 * rate.2 || rate.1 * 1001 == 60000 * rate.2

/-- The time address of a frame index at a frame rate. -/
def timeAddr (rate : Nat × Nat) (idx : Nat) : TimeAddr :=
  let nominal := ceilDiv rate.1 rate.2
  let pair := decide (30 < nominal)
  let base := if pair then nominal / 2 else nominal
  let i := if pair then idx / 2 else idx
  let drop := dropFrame rate
  let i := if drop then i + 18 * (i / 17982) + (if 1 < i % 17982 then 2 * ((i % 17982 - 2) / 1798) else 0) else i
  let b := max base 1
  ⟨i / (b * 3600) % 24, i / (b * 60) % 60, i / b % 60, i % b, drop, pair && idx % 2 == 1⟩

/-- The frames that ST 12-1 counts in 24 hours of addresses. -/
def countedDay (rate : Nat × Nat) : Nat :=
  let nominal := max (ceilDiv rate.1 rate.2) 1
  if dropFrame rate then 144 * 17982 * (nominal / 30) else 86400 * nominal

/-- The time address of the frame after a hinge at T_H: the index may lie before or after the day, and the addresses go on there. -/
def timeOf (s : State) (p : ObjId) (th : Ticks) : TimeAddr :=
  let rate := (portRaster s p).2
  let x := ((th % (86400 * secT) : Nat) : Int) + getProp s p pPortOutTcOffset * secT
  let idx := (x * rate.1).fdiv (max rate.2 1 * secT : Nat)
  timeAddr rate (idx % (countedDay rate : Nat)).toNat

/-! ### At a hinge (R248, R253, R255, R258, R259) -/

/-- The TRO of R255 in ns. -/
def troOf (s : State) (h : ObjId) : Nat :=
  let p := periodOf s h
  let n := getPropN s h pHeadRaster 3 - getPropN s h pHeadRaster 1 - getPropN s h pHeadHaspLine + 1
  n * p.1 / (p.2 * max (getPropN s h pHeadRaster 3) 1 * nsT)

/-- Whether the lines from H+1L to line 0 last as long as the sink's resynchronisation. -/
def replayFits (s : State) (p : ObjId) : Bool :=
  let h := getPropN s p pPortOutHead
  let q := periodOf s h
  let n := getPropN s h pHeadRaster 3 - haspLine s h - 1
  decide ((portPins s p).resync ≤ n * q.1 / (q.2 * max (getPropN s h pHeadRaster 3) 1))

/-- What Panel Replay does at a hinge: the entry sequence where the head is STILL, and the stream again from H+1L where it is not
(R259). -/
def replayStep (s : State) (p : ObjId) : State :=
  let h := getPropN s p pPortOutHead
  let was := getProp s p pPortOutPrState == 2
  if getProp s p pPortOutKind ≠ 5 ∨ !(portPins s p).sinkReplay then setPrState (updOut s p fun x => { x with resume := was }) p 0
  else
    let use := getProp s p pPortOutPanelReplay == 1 && replayFits s p && getProp s h pHeadStillState == 2 &&
      getProp s p pPortOutState == 2
    let s := updOut s p fun x => { x with resume := was && !use }
    setPrState (if use && !was then emit s (.panelReplay p true) else s) p (if use then 2 else 1)

/-- H+1L: the ports of a head whose Panel Replay ends send their stream again (R259). -/
def replayResume (s : State) (h : Nat) : State :=
  (headPorts s (headObj h)).foldl (fun s p =>
    if (outOf s p).resume then emit (updOut s p fun x => { x with resume := false }) (.panelReplay p false) else s) s

/-- What the ports of a head do at its hinge. `changed`: the hinge applied a raster, cadence or format change. -/
def egressHinge (s : State) (h : Nat) (th : Ticks) (changed : Bool) : State :=
  (headPorts s (headObj h)).foldl (fun s p =>
    let s := if changed then evalOut s p 2 else s
    let kind := getProp s p pPortOutKind
    let s := replayStep s p
    let s := if kind = 2 ∨ kind = 4 then setProp s p pPortOutTro 0 (troOf s (headObj h)) else s
    let gen := (kind = 1 ∨ kind = 4) ∧ getProp s p pPortOutTimecode = 1
    updOut s p fun x => { x with
      anc := [], hinge := th, lastHinge := x.hinge, ancRing := getPropN s p pPortOutAncRing
      time := if gen then some (timeOf s p th) else none }) s

/-! ### Ancillary packets (R252, Table 4.10) -/

/-- The packets that a run of records holds. -/
def ancRecords : Nat → List Byte → List AncPacket
  | 0, _ => []
  | n + 1, bs =>
    if bs.length < 8 then []
    else
      let dc := fieldAt bs 6 1
      let off := fieldAt bs 2 2
      ⟨fieldAt bs 0 2, off % 4096, bitOf off 15, fieldAt bs 4 1, fieldAt bs 5 1,
        (List.range (dc + 1)).map (fun i => fieldAt bs (8 + 2 * i) 2 % 1024), !bitOf off 14⟩ ::
        ancRecords n (bs.drop (roundUp (8 + 2 * (dc + 1)) 4))

/-- The raster whose lines an output numbers: that of each stream of SDI, the head's own elsewhere. -/
def lineRaster (s : State) (p : ObjId) : Bool × Nat × Nat × Nat :=
  let r := (portRaster s p).1
  let sdi := getProp s p pPortOutKind == 1
  let k := if sdi then 2 ^ sdiDepth r.2.1 else 1
  (sdi && getProp s p pPortOutPsf == 1, r.1 / k, r.2.1 / k, r.2.2.2 / k)

/-- Keep the packets that fit on a line of the vertical ancillary space: each line and stream holds `room` words. -/
def ancFit (g : Bool × Nat × Nat × Nat) : List AncPacket → Map Nat → List AncPacket × Nat
  | [], _ => ([], 0)
  | a :: as, used =>
    let key := a.line * 2 + bit01 a.chroma
    let u := mapGetD used key 0
    let n := a.words.length + 6
    if 1 ≤ a.line ∧ a.line ≤ g.2.2.2 ∧ (activeOn g.1 g.2.2.1 g.2.2.2 a.line).isNone ∧ u + n ≤ g.2.1 then
      let x := ancFit g as (mapPut used key (u + n))
      (a :: x.1, x.2)
    else
      let x := ancFit g as used
      (x.1, x.2 + 1)

/-- ANC_COPY: the packets of the newest frame, for the frame that follows the hinge (R252). `same`: the record has the same frame
number after the copy as before it; a copy of which it has not fails. -/
def ancCopy (s : State) (p : ObjId) (same : Bool) : State :=
  let x := outOf s p
  let kind := getProp s p pPortOutKind
  if (kind ≠ 1 ∧ kind ≠ 4) ∨ x.ancRing = 0 ∨ getProp s p pPortOutState ≠ 2 then s
  else
    match ringOf s x.ancRing with
    | none => s
    | some r =>
      match ringNewest s r with
      | none => s
      | some (_, f, rc) =>
        if !same then bumpProp (setOut s p { x with anc := [] }) p pPortOutAncSkipped
        else if x.lastAnc = some rc.frame then setOut s p { x with anc := [] }
        else
          let bytes := memRead s.frame f.base (min f.size 65544)
          let n := fieldAt bytes 4 4 % 2 ^ 31
          let body := (bytes.drop 8).take (min (fieldAt bytes 0 4) 65536)
          let fit := ancFit (lineRaster s p) (ancRecords (min n 8192) body) []
          bumpProp (setOut s p { x with anc := fit.1, lastAnc := some rc.frame }) p pPortOutAncSkipped 0 fit.2

/-! ### Sending ST 2110 (R254 to R256) -/

/-- The RTP timestamp of a frame (R255). -/
def rtpTime (th : Ticks) : Nat := th * 90000 / secT % 2 ^ 32

/-- Bits of one line and packets of one line (R254). -/
def lineBytes2110 (s : State) (p : ObjId) : Nat :=
  ceilDiv ((portRaster s p).1.1 * bitsPerPixel (getPropN s p pPortOutSampling)) 8
def linePackets (s : State) (p : ObjId) : Nat := ceilDiv (lineBytes2110 s p) (getPropN s p pPortOutPacketSize - 20)

/-- Samples and pixels in one pixel group, which no packet splits. -/
def pixelGroup (sampling : Nat) : Nat × Nat :=
  match sampling with
  | 0 | 1 | 7 => (4, 2) | 2 | 4 => (12, 4) | 3 | 5 => (6, 2) | _ => (3, 1)

/-- The headers of a port's packets on a leg: from `port_out.flow`, and the address and MAC of the leg's interface (R254). -/
def netHeader (s : State) (p : ObjId) (leg : Nat) : NetHeader :=
  let e := getPropN s p pPortOutParent leg
  let f (i : Nat) := getPropN s p pPortOutFlow i
  let ip (i : Nat) := getPropN s e pPortInIpConfig i
  let mac := ip 3 + ip 4 % 65536 * 2 ^ 32
  ⟨if mac = 0 then Config.macAddress (objInst e) else mac, ip 0, f leg, bitsOf (f 2) (16 * leg + 15) (16 * leg),
    bitsOf (f 3) 6 0, bitsOf (f 3) 13 8, bitsOf (f 3) 23 16⟩

/-- Send a packet on each leg whose interface is up (R256): a parent that is not STOPPED. `payload` makes what follows the RTP
header from the number of the packet. -/
def sendLegs (s : State) (p : ObjId) (ts : Nat) (marker : Bool) (payload : Nat → List Byte) : State :=
  let seq := (outOf s p).seq
  let s := ([0, 1] : List Nat).foldl (fun s leg =>
    let e := getPropN s p pPortOutParent leg
    if e ≠ 0 ∧ getProp s e pPortInState ≠ 0 then
      emit s (.packet p leg (netHeader s p leg) (seq % 65536) ts marker (payload seq))
    else s) s
  updOut s p fun x => { x with seq := (seq + 1) % 2 ^ 32 }

/-- The destination channels of a party. -/
def partyDests (s : State) (p : ObjId) : List Nat :=
  let b := dstBase s p
  if b = noChannel then [] else (List.range (dstChannels s p)).map (b + ·)

/-- The first `n` sample periods of a party's destination channels that wait to be sent, by channel; they leave with what is sent. -/
def takeAudio (s : State) (p : ObjId) (n : Nat) : List (List Int) × State :=
  let ds := partyDests s p
  (ds.map fun d => (destOf s d).sent.take n, ds.foldl (fun s d => setDest s d { destOf s d with sent := (destOf s d).sent.drop n }) s)

/-- All that may wait. -/
abbrev allWaiting : Nat := 4096

/-- A frame as a port sends it: the start of its line 0, T_H, its components and the lines that underran. -/
structure SentFrame where
  zero : Ticks
  hinge : Ticks
  grids : List Grid
  under : List (Nat × Nat)
deriving DecidableEq, Repr

/-- When packet k of n of active line y leaves: spread over the next raster line, or half as far apart for sender type W (R255). -/
def packetAt (s : State) (p : ObjId) (F : Ticks) (n y k : Nat) : Ticks :=
  let h := getPropN s p pPortOutHead
  let a := lineAt s h F (y + 1)
  let apart := if getProp s p pPortOutSenderType = 2 then 2 else 1
  a + k * (lineAt s h F (y + 2) - a) / (apart * max n 1)

/-- The packets that a D2110 frame carries: what was copied, then its time code (R253). -/
def frameAnc (s : State) (p : ObjId) : List AncPacket :=
  let x := outOf s p
  let r := (portRaster s p).2
  x.anc ++ (x.time.map fun t => (⟨10, 0, false, 0x60, 0x60, ltcUdw t (ceilDiv r.1 r.2) ++ [0], true⟩ : AncPacket)).toList

/-- ST2110_PACKET_SEND (R254, R255): packet k of active line y of the frame, or of the port's one run per frame. -/
def packetSend (s : State) (p : ObjId) (f : SentFrame) (y k : Nat) : State :=
  if getProp s p pPortOutState ≠ 2 ∨ s.now < (outOf s p).silentTo then s
  else match getPropN s p pPortOutKind with
    | 2 =>
      let x := getPropN s p pPortOutSampling
      let m := samplingOf x
      let n := linePackets s p
      let v := (portRaster s p).1.2.1
      if n ≤ k ∨ v ≤ y then s
      else
        let xs := lineSamples m.1 m.2.1 (portPlanes s p f.grids (portGaps s p f.zero f.under)) y
        sendLegs (tickTo (packetAt s p f.zero n y k) s) p (rtpTime f.hinge) (decide (y + 1 = v ∧ k + 1 = n)) fun seq =>
          videoPayload seq y m.2.2 n k (pixelGroup x) xs
    | 3 =>
      -- one packet time's samples, with the number of the first on the media clock (R279, R290)
      let f := getPropN s p pPortOutAudioFormat
      let bits := if bitOf f 4 then 24 else 16
      let rate := if bitOf f 5 then 96000 else 48000
      let n := packetSamples f
      let waiting := (destOf s (dstBase s p)).sent.length
      if (partyDests s p).isEmpty ∨ waiting < n then s
      else
        let (a, s) := takeAudio s p n
        sendLegs s p ((s.now * rate / secT + 1 - waiting) % 2 ^ 32) false fun _ =>
          beWords bits ((List.range n).flatMap fun i => a.map fun c => twos bits (if bits = 24 then atD c i 0 else txSample 16 (atD c i 0)))
    | 4 =>
      let runs := ancGroups (getPropN s p pPortOutPacketSize - 20) (frameAnc s p) 0 []
      match runs[k]? with
      | none => s
      | some as => sendLegs s p (rtpTime (outOf s p).hinge) (decide (k + 1 = runs.length)) fun seq => ancFlowPayload seq as
    | _ => s

/-! ### Sending SDI and DisplayPort (R249 to R253, R257) -/

/-- The packets that an SDI frame carries: the payload ID in every luma stream, ATC_LTC, copied packets and audio. -/
def sdiPackets (s : State) (p : ObjId) (streams : Nat) (audio : List (List Int)) : List SdiPacket :=
  let x := outOf s p
  let r := portRaster s p
  let m := samplingOf (getPropN s p pPortOutSampling)
  let g := lineRaster s p
  let id (link : Nat) := ancWords 0x41 0x01 ((payloadId (getPropN s p pPortOutSdiStd) r.1.2.1 g.1 (g.2.1 == 2048) r.2 m.1 m.2.1 m.2.2 link).map
    parityWord)
  let lines := if g.1 then [10, 572] else [10]
  (lines.flatMap fun l => (List.range (streams / 2)).map fun j => (⟨l, 2 * j, false, id (j * 4 / max (streams / 2) 1)⟩ : SdiPacket)) ++
    (x.time.map fun t => (⟨10, 0, false, ancWords 0x60 0x60 (ltcUdw t (ceilDiv r.2.1 r.2.2))⟩ : SdiPacket)).toList ++
    (x.anc.map fun a => (⟨a.line, bit01 a.chroma, true, ancWords a.did a.sdid a.words.dropLast⟩ : SdiPacket)) ++
    audioPackets g.2.2.2 (r.1.2.2.1 / 2 ^ sdiDepth r.1.2.1) x.audioSent (audioFrame r.2 x.sent) audio

/-- The SDI signal of a frame (R251). -/
def sdiSend (s : State) (p : ObjId) (planes : List (List (List Nat))) (audio : List (List Int)) : State :=
  let r := (portRaster s p).1
  let m := samplingOf (getPropN s p pPortOutSampling)
  let g := lineRaster s p
  let images := subImages (sdiDepth r.2.1) (planes.zipIdx.map fun pl => (if m.2.1 && decide (1 ≤ pl.2) then 1 else 2, pl.1))
  let rows := images.flatMap fun im =>
    let lines := (List.range g.2.2.1).map fun y =>
      let row (k : Nat) := atD (atD im k (0, [])).2 y []
      lineStreams m.2.1 m.2.2 (row 0) (row 1) (row 2)
    (List.range (if m.2.1 && m.2.2 == 10 then 2 else 4)).map fun j => lines.map fun l => atD l j []
  let made := sdiSignal ⟨g.2.2.1, g.2.2.2, r.2.2.1 / 2 ^ sdiDepth r.2.1, g.2.1, g.1, rows, sdiPackets s p rows.length audio⟩ (outOf s p).crcs
  emit (updOut s p fun x => { x with crcs := made.2, audioSent := x.audioSent + (atD audio 0 []).length }) (.sdi p made.1)

/-- The MSA timing of a DisplayPort stream (R257): sync begins at its start in the blanking after the active part. -/
def msaOf (s : State) (p : ObjId) : MsaTiming :=
  let h := getPropN s p pPortOutHead
  let r := (portRaster s p).1
  let q (i : Nat) := getPropN s h pHeadSync i
  ⟨r.2.2.1, r.2.2.2, r.2.2.1 - r.1 - q 0, r.2.2.2 - r.2.1 - q 2, q 1, q 3, r.1, r.2.1⟩

/-- The audio of a DisplayPort stream, at 16 bits where bit 6 of `port_out.audio_format` selects them (R272). -/
def dpAudio (s : State) (p : ObjId) (a : List (List Int)) : List (List Int) :=
  if bitOf (getPropN s p pPortOutAudioFormat) 6 then a.map fun c => c.map (txSample 16) else a

/-- A frame has been handed to egress: every RUNNING port of the head has sent it (R240, R248). -/
def sendFrame (s : State) (h : Nat) (grids : List Grid) (us : List (Nat × Nat)) : State :=
  (headPorts s (headObj h)).foldl (fun s p =>
    let kind := getProp s p pPortOutKind
    if getProp s p pPortOutState ≠ 2 ∨ kind = 3 then s
    else
      let s := wrapProp s p pPortOutFrames
      let planes := portPlanes s p grids (portGaps s p (headRt s h).lineZero us)
      let s := updOut s p fun x => { x with
        lastPixel := planes.map fun pl => (pl.getLastD []).getLastD 0
        sent := x.sent + 1 }
      if kind = 1 then
        let (a, s) := takeAudio s p allWaiting
        -- ST 299-1 has four groups of channels, ST 299-2 eight (R253, R289)
        sdiSend s p planes (a.take (if getPropN s p pPortOutSdiStd ≤ 2 then 16 else 32))
      else if kind = 5 ∧ getProp s p pPortOutPrState ≠ 2 then
        let (a, s) := takeAudio s p allWaiting
        emit s (.video p (msaOf s p) planes (dpAudio s p a))
      else s) s

/-! ### DisplayPort links (R258) -/

def isDp (s : State) (p : ObjId) : Bool := getProp s p pPortOutKind == 5 && getProp s p pPortOutState != 0

/-- The DP ports that use a pin set. -/
def pinPorts (s : State) (n : Nat) : List ObjId :=
  ((List.range 128).map (objId clsPortOut)).filter fun p => isDp s p && getPropN s p pPortOutAux == n

/-- Training runs where a configuration qualifies. -/
def trainPort (s : State) (p : ObjId) : State := if (dpChoose s p).isSome then dpTrain s p 5 else evalOut s p 5

/-- Hot-plug detect of a pin set rises. -/
def dpHpdRise (s : State) (n : Nat) : State :=
  (pinPorts s n).foldl trainPort (setDpPins s n { dpPinsOf s n with hpd := true })

/-- Hot-plug detect of a pin set has been low for 2 ms. -/
def dpHpdLow (s : State) (n : Nat) : State :=
  (pinPorts s n).foldl (fun s p =>
    setOutState (setProp (setProp s p pPortOutDpLink 0 0) p pPortOutDpLink 1 255) p 5 5) (setDpPins s n dpPins0)

/-- An IRQ_HPD pulse or a reported loss of lock starts training again. -/
def dpIrqHpd (s : State) (n : Nat) : State :=
  if (dpPinsOf s n).hpd then
    ((pinPorts s n).filter fun p => (dpChoose s p).isSome).foldl (fun s p => dpTrain s p 5) s
  else s

/-- Training ends (R257, R258): the first configuration that the sink supports and that carries S, or MISMATCH. -/
def dpLinkDone (s : State) (p : ObjId) (r : DpResult) : State :=
  if !isDp s p || getProp s p pPortOutState != 4 then s
  else
    let s := setDpPins s (getPropN s p pPortOutAux)
      { portPins s p with sink := some (r.lanes, r.rate), sinkReplay := r.panelReplay, resync := r.resync }
    match dpChoose s p with
    | none => setOutState s p 3 4
    | some c =>
      if r.success then
        let s := setProp (setProp s p pPortOutDpLink 0 c.1) p pPortOutDpLink 1 c.2
        let s := postEvent s 0x0202 p (c.1 + c.2 * 16 + 256)
        let s := if r.panelReplay ∧ getProp s p pPortOutPrState = 0 then setPrState s p 1 else s
        evalOut s p (outOf s p).why
      else postEvent (updOut s p fun x => { x with failedAt := some s.now }) 0x0202 p (c.1 + c.2 * 16)

/-- A link that could not be trained is tried again 100 ms later, and the port stays in TRAINING meanwhile. -/
def dpRetry (s : State) (p : ObjId) : State :=
  match (outOf s p).failedAt with
  | none => s
  | some t =>
    if !isDp s p || getProp s p pPortOutState != 4 || decide (s.now < t + 100 * msT) then s
    else match dpChoose s p with
      | some _ => dpTrain s p (outOf s p).why
      | none => evalOut s p 4

end Sys2Proof.Machine
end

