-- ==== Sys2Proof/Machine/Stages.lean ====
section
/-! DEFINITION. The jobs of a route's stages: source-paced SHAPE jobs and hinge-paced CONVERT jobs, and how a route
stops (R138 to R140, R176, R179, R194, R195, R206 to R220). -/

namespace Sys2Proof.Machine

/-! ### Views -/

/-- The stages of a route as it runs, with their indices. -/
def stagesIdx (s : State) (r : ObjId) : List (StageCfg × Nat) := (routeStages s r).zipIdx

/-- Whether a stage has a job in progress. -/
def stageBusy (x : StageRt) : Bool :=
  x.job.isSome || (match x.conv with | some c => !c.ended | none => false)

def routeBusy (s : State) (r : ObjId) : Bool := (stagesIdx s r).any fun g => stageBusy (stageRt s r g.2)

/-- Low 32 bits of the hinge count of a route's head. -/
def headCount (s : State) (h : ObjId) : Nat := getPropN s h pHeadHingeCount
def hingeArg (s : State) (h : ObjId) (low : Nat) : Nat := headCount s h % 2 ^ 32 * 2 ^ 32 + low

/-- Set `route.state` and raise ROUTE_STATE with a hinge count (R159). -/
def setRouteState (s : State) (r : ObjId) (v hinge : Nat) : State :=
  if getPropN s r pRouteState = v then s
  else postEvent (setProp s r pRouteState 0 v) 0x0501 r (hinge % 2 ^ 32 * 2 ^ 32 + v)

/-- The units of a stage as objects, for properties that follow the stage. -/
def setUnits (s : State) (us : List ObjId) (pidS pidT : Nat) (v : Int) : State :=
  us.foldl (fun s u => setProp s u (if objCls u = clsShaper then pidS else pidT) 0 v) s

/-! ### Starting and stopping routes (R140) -/

/-- The writer of a stage's ring. -/
def bindStage (s : State) (r : ObjId) (i : Nat) (ring : ObjId) : State :=
  updRing s ring fun g => { g with writer := some (.stage r i) }
def unbindStage (s : State) (r : ObjId) (ring : ObjId) : State :=
  updRing s ring fun g => match g.writer with
    | some (.stage q _) => if q = r then { g with writer := none } else g
    | _ => g

/-- What the units of a running route's stages report. -/
def claimUnits (s : State) (r : ObjId) : State :=
  let s := (stagesIdx s r).foldl (fun s g =>
    let s := bindStage s r g.2 g.1.ring
    let s := g.1.units.foldl (fun s u =>
      if objCls u = clsShaper then setProp (setProp s u pShaperRoute 0 r) u pShaperState 0 1
      else setProp (setProp s u pTconvRoute 0 r) u pTconvState 0 1) s
    if g.1.kind = 2 then
      match picOf s (stageInput s r g.2), picOf s g.1.ring with
      | some _, some out =>
        let u := atD g.1.units 0 0
        let pu := bandPixels out g.1.units.length (tconvBand (getPropN s u pTconvMode) out.1)
        setProp s u pTconvGuard 0 ((tconvGuard s u pu / nsT : Nat) : Int)
      | _, _ => s
    else s) s
  setRouteRt s r { routeRt s r with
    units := (routeStages s r).map (·.units), ringsHeld := (routeStages s r).map (·.ring) }

/-- Release what a route holds as its last job ends, and enter IDLE (R140, R145). -/
def routeIdle (s : State) (r : ObjId) : State :=
  let x := routeRt s r
  let s := x.ringsHeld.foldl (fun s g => unbindStage s r g) s
  let s := x.units.flatten.foldl (fun s u =>
    let s := if objCls u = clsShaper then
        setProp (setProp (setProp s u pShaperRoute 0 0) u pShaperState 0 0) u pShaperSlices 0 10
      else setProp (setProp s u pTconvRoute 0 0) u pTconvState 0 0
    if objCls u = clsTconv ∧ getProp s u pTconvAccSurface ≠ 0 then
      setProp (freeSurface s (getPropN s u pTconvAccSurface)) u pTconvAccSurface 0 0 else s) s
  let s0 := s
  let s := { s with slices := s.slices.filter fun z => decide (z.owner ≠ r) || resWaits s z, charges := mapDel s.charges r }
  let s := setProp s r pRouteCharge 0 0
  let s := setRouteRt s r { routeRt0 with held := x.held }
  let s := setRouteState s r 0 x.stopHinge
  let s := if x.removed then dropObject { s with routes := mapDel s.routes r } r else s
  restoreIfFreed s0 s (evalState s [] [])

/-- A route begins to run at a hinge (R140). -/
def routeStart (s : State) (r : ObjId) (t : Ticks) : State :=
  let hinge := headCount s (getPropN s r pRouteHead)
  if getProp s r pRouteState = 2 then setRouteState s r 1 hinge
  else
    let x := routeRt s r
    let fresh (g : StageRt) : StageRt := { stageRt0 with prevOut := none, seqHinge := t, seqOrder := s.orders, waitOrder := g.waitOrder * 0 }
    let s := claimUnits (setRouteRt s r { x with stages := x.stages.map fresh, startHinge := t }) r
    setRouteState s r 1 hinge

/-- A route stops at a hinge (R140). -/
def routeStop (s : State) (r : ObjId) : State :=
  let hinge := headCount s (getPropN s r pRouteHead)
  let x := routeRt s r
  let s := setRouteRt s r { x with stopHinge := hinge, stages := x.stages.map fun g => { g with waiting := none } }
  let s := setRouteState s r 2 hinge
  if routeBusy s r then s else routeIdle s r

/-! ### Input frames (R13, R138, R209) -/

/-- Skip a waiting or offered frame (R138). -/
def skipFrame (s : State) (r : ObjId) : State := bumpProp s r pRouteSkipped

/-- Drop a waiting frame whose surface is claimed, set FREEING or LOST (R138). -/
def dropWaiting (s : State) (o : ObjId) : State :=
  s.routes.foldl (fun s e =>
    (List.range e.2.stages.length).foldl (fun s i =>
      let x := stageRt s e.1 i
      if x.waiting = some o then skipFrame (setStageRt s e.1 i { x with waiting := none }) e.1 else s) s) s

/-- A writer claims a surface of its ring: a frame that waited there is dropped (R118, R138). -/
def writerClaim (s : State) (ring : ObjId) : Option (ObjId × State) :=
  (claimSurface s ring).map fun e => (e.1, dropWaiting e.2 e.1)

/-! ### SHAPE jobs -/

/-- The parameters of a unit as a job takes them. -/
def paramsOf (u : ObjId) (m : Map Int) : Params := fun pid idx => (mapGet m (propKey u pid idx)).getD (propDefault u pid idx)

/-- The source peak that the next job applies (R195). -/
def jobPeak (s : State) (u : ObjId) (x : StageRt) : Int :=
  if x.toneReset || getProp s u pShaperToneMeasure == 0 || getProp s u pShaperToneMode != 1 then getProp s u pShaperToneSrcPeak
  else nextPeak x.toneLs x.tonePeak (getProp s u pShaperToneSpeed)

/-- A source-paced stage takes its waiting frame (R138). -/
def shapeStart (s : State) (r : ObjId) (i : Nat) : State :=
  match (routeStages s r)[i]? with
  | none => s
  | some g =>
    let x := stageRt s r i
    match x.waiting with
    | none => s
    | some o =>
      if g.kind ≠ 1 ∨ getProp s r pRouteState ≠ 1 ∨ stageBusy x then s
      else
        let alone := match surfOf s o with | some f => f.ring == 0 | none => false
        match surfOf s o with
        | none => skipFrame (setStageRt s r i { x with waiting := none }) r
        | some f =>
          if alone && x.published then s
          else match (if leaseable s f then surfFrame f else none) with
            | none => skipFrame (setStageRt s r i { x with waiting := none }) r
            | some rc =>
              match writerClaim s g.ring with
              | none => reportOverrun (setStageRt s r i { x with waiting := none, published := alone || x.published }) g.ring 0
              | some (out, s) =>
                let u := atD g.units 0 0
                let ls := jobPeak s u x
                let s := addLease s o (.job r i)
                let s := setProp s u pShaperToneApplied 0 ls
                let job : ShapeJob := ⟨o, out, rc, headCount s (getPropN s r pRouteHead), s.now, u,
                  s.props.filter (fun e => keyObj e.1 == u), getPropN s u pShaperTapsApplied,
                  g.units.any fun v => placeGloved s (spareIdx v)⟩
                setStageRt s r i { x with
                  waiting := none, job := some job, published := alone || x.published
                  toneReset := false, toneLs := ls.toNat }

/-- The record of a SHAPE job's output (R138). -/
def shapeRecord (r : ObjId) (j : ShapeJob) : FrameRec :=
  { j.rcd with source := r, hinge := j.hinge, flags := j.rcd.flags % 32 }

/-- A SHAPE job ends: its frame is written and its record issued, and the lease released (R179, R194). -/
def shapeEnd (s : State) (r : ObjId) (i : Nat) : State :=
  let x := stageRt s r i
  match x.job with
  | none => s
  | some j =>
    let s := dropLease s j.input (.job r i)
    let us := atD (routeRt s r).units i []
    let s := us.foldl (fun s u => wrapProp s u pShaperJobs) s
    if j.lost then abandonSurface (setStageRt s r i { x with job := none }) j.output
    else
      match surfOf s j.input, surfOf s j.output with
      | some fi, some fo =>
        let g := paramsOf j.unit j.params
        let res := shapeFrame g j.taps j.rcd.frame x.toneLs fi.format fi.width fi.height
          fo.format fo.width fo.height (readSurf s.frame fi)
        let s := { s with frame := writeSurf s.frame fo res.planes }
        let s := issueRecord s j.output (shapeRecord r j)
        let s := setProp (setProp s j.unit pShaperClipCounts 0 res.gamutClips) j.unit pShaperClipCounts 1 res.rangeClips
        let measuring := g pShaperToneMeasure 0 == 1 && g pShaperToneMode 0 == 1
        let s := if measuring then setProp s j.unit pShaperToneMeasured 0 res.peak else s
        setStageRt s r i { x with job := none, tonePeak := if measuring then res.peak else x.tonePeak }
      | _, _ => setStageRt s r i { x with job := none }

/-! ### CONVERT jobs -/

/-- The CONVERT stage of a route: its index and configuration. -/
def convStage (s : State) (r : ObjId) : Option (Nat × StageCfg) :=
  ((routeStages s r).zipIdx.find? fun g => g.1.kind == 2).map fun g => (g.2, g.1)

/-- The accumulator as read and written: 24-bit sums by row and word (R216). -/
def accRead (s : State) (a : Surf) (row words : Nat) : List Nat :=
  let st := (surfPlanes a).head?.elim 0 (·.stride)
  (List.range words).map fun j => leNat (memRead s.frame (a.base + row * st + 3 * j) 3)
def accWrite (s : State) (a : Surf) (row : Nat) (vs : List Nat) : State :=
  let st := (surfPlanes a).head?.elim 0 (·.stride)
  { s with frame := memWrite s.frame (a.base + row * st) (vs.flatMap fun v => toLe 3 v) }

/-- The D of Table 9.3. -/
def jobDelay (s : State) (r : ObjId) (u : ObjId) (x : StageRt) (pu : Nat) : Nat :=
  let h := getPropN s r pRouteHead
  if getProp s u pTconvDelay ≠ 0xFFFFFFFF then getPropN s u pTconvDelay * nsT
  else
    let mode := getPropN s u pTconvMode
    let base := framePeriod s h + tconvGuard s u pu
    let d := if mode = 3 ∨ mode = 4 then 0
      else if mode = 2 then
        base + (match x.latched with
          | some (n, d) => getPropN s u pTconvAccPositions * d * secT / (2 * max n 1)
          | none => 0)
      else base
    min d (4000000000 * nsT)

/-- The complete inputs of a stage's sequence in order of completion. -/
def seqInputs (s : State) (ring : ObjId) (after : Nat) : List (ObjId × Surf × FrameRec) :=
  match ringOf s ring with
  | none => []
  | some g =>
    let l := (ringMembers g).filterMap fun o => match surfOf s o with
      | some f => match surfFrame f with
        | some rc => if after < f.done ∧ leaseable s f then some (o, f, rc) else none
        | none => none
      | none => none
    l.foldl (fun acc e => acc.takeWhile (fun y => decide (y.2.1.done < e.2.1.done)) ++ e ::
      acc.dropWhile (fun y => decide (y.2.1.done < e.2.1.done))) []

/-- The a and b of R212 among a job's inputs. -/
def jobA (j : ConvJob) : Option ConvIn :=
  (j.inputs.filter fun i => decide ((i.ts : Int) ≤ j.tOut)).foldl (fun b i => match b with
    | some x => if x.ts < i.ts then some i else some x
    | none => some i) none
def jobB (j : ConvJob) : Option ConvIn := j.inputs.find? fun i => decide (j.tOut < (i.ts : Int))

/-- The input that NEAREST uses (R212). -/
def nearInput (j : ConvJob) : Option ConvIn :=
  match jobA j, jobB j with
  | some a, some b => some (if nearestIsA j.tOut a.ts b.ts then a else b)
  | a, b => a <|> b

/-- Release the leases of inputs that a job no longer uses. -/
def keepInputs (s : State) (r : ObjId) (i : Nat) (j : ConvJob) (keep : ConvIn → Bool) : ConvJob × State :=
  let gone := j.inputs.filter fun x => x.leased && !keep x
  ({ j with inputs := j.inputs.filter keep }, gone.foldl (fun s x => dropLease s x.surf (.job r i)) s)

/-- Release the leases of inputs whose values a job will not read; it goes on judging by them. -/
def releaseInputs (s : State) (r : ObjId) (i : Nat) (j : ConvJob) (gone : ConvIn → Bool) : ConvJob × State :=
  ({ j with inputs := j.inputs.map fun x => if gone x then { x with leased := false } else x },
    (j.inputs.filter fun x => x.leased && gone x).foldl (fun s x => dropLease s x.surf (.job r i)) s)

/-- Take an input into a job with a lease. -/
def takeInput (s : State) (r : ObjId) (i : Nat) (j : ConvJob) (o : ObjId) (f : Surf) (rc : FrameRec) : ConvJob × State :=
  ({ j with inputs := j.inputs ++ [⟨o, rc.frame, rc.ts, true, f.done, false, false⟩] }, addLease s o (.job r i))

/-- A parameter of a job as the hinge that started it gave it (R210). -/
def jobParam (j : ConvJob) (pid : Nat) : Nat := (paramsOf j.unit j.params pid 0).toNat

/-- The hold job's sub-window of an input and its distance. -/
def holdAt (j : ConvJob) (ts : Nat) : Int × Int :=
  let m := jobParam j pTconvHoldSamples
  let lw := max (j.tOut - j.w0) 1
  (holdWindow ts j.w0 m lw, holdDist ts j.w0 m lw)

/-- Decide every sub-window before `upTo`: the chosen inputs are queued for their folds, others are released (R217). -/
def holdDecide (j : ConvJob) (upTo : Int) : ConvJob :=
  let due := j.inputs.filter fun x => !x.folded && decide ((holdAt j x.ts).1 < upTo)
  { j with
    decidedTo := max j.decidedTo upTo
    inputs := j.inputs.map fun x => if due.contains x then { x with folded := true } else x
    queue := j.queue ++ due.map fun x => (x.surf, (holdAt j x.ts).1.toNat, 1) }

/-- Latch an input rate for a stage: TCONV_PERIOD where it is the first since the route started or differs from the one
latched before (R213, R220). -/
def latchRate (s : State) (r : ObjId) (i : Nat) (u : ObjId) (hinge : Nat) (q : Nat × Nat) : State :=
  let x := stageRt s r i
  let pt := q.2 * secT / max q.1 1
  let same := match x.latched with | some o => o.1 * q.2 == q.1 * o.2 | none => false
  let s := setProp (setStageRt s r i { x with latched := some q }) u pTconvInputPeriod 0 pt
  if same then s else postEvent s 0x0903 u (hinge % 2 ^ 32 * 2 ^ 32 + pt % 2 ^ 32)

/-- The rate of the first input that completes during a job that had none (R213). -/
def jobRate (s : State) (r : ObjId) (i : Nat) (u : ObjId) (j : ConvJob) (rc : FrameRec) : ConvJob × State :=
  if j.pNum ≠ 0 ∨ rc.rateNum = 0 ∨ rc.rateDen = 0 ∨ j.ended then (j, s)
  else ({ j with pNum := rc.rateNum, pDen := rc.rateDen }, latchRate s r i u j.hinge (rc.rateNum, rc.rateDen))

/-- A complete input reaches a job (R209, R212, R213, R217). -/
def jobInput (s : State) (r : ObjId) (i : Nat) (u : ObjId) (j : ConvJob) (o : ObjId) (f : Surf) (rc : FrameRec) :
    ConvJob × State :=
  let (j, s) := jobRate s r i u j rc
  if j.cut || j.ended || j.lost || !leaseable s f then (j, s)
  else
    let ts : Int := rc.ts
    match j.mode with
    | 2 =>
      let n := jobParam j pTconvAccPositions
      let pos := accPosition ts j.tOut n j.pNum (max j.pDen 1)
      if pos < 0 ∨ (n : Int) ≤ pos then (j, s)
      else
        let w := atD j.norm pos.toNat 0
        let seen := (j.queue ++ j.folded).any fun q => q.2.1 == pos.toNat
        if w = 0 ∨ seen then (j, s)
        else
          let (j, s) := takeInput s r i j o f rc
          ({ j with queue := j.queue ++ [(o, pos.toNat, w)] }, s)
    | 3 | 4 =>
      if ts < j.w0 then (j, s)
      else if j.tOut ≤ ts then (holdDecide j (jobParam j pTconvHoldSamples), s)
      else
        let p := holdAt j rc.ts
        let j := holdDecide j p.1
        if p.1 < j.decidedTo then (j, s)
        else match j.inputs.find? fun x => !x.folded && decide ((holdAt j x.ts).1 = p.1) with
        | some b =>
          let d := (holdAt j b.ts).2
          if p.2 < d ∨ (p.2 = d ∧ rc.ts < b.ts) then
            let (j, s) := keepInputs s r i j fun x => x != b
            takeInput s r i j o f rc
          else (j, s)
        | none => takeInput s r i j o f rc
    | _ =>
      if j.decided then (j, s)
      else if ts ≤ j.tOut then
        match jobA j with
        | some a =>
          if a.ts < rc.ts then
            let (j, s) := keepInputs s r i j fun x => x != a
            takeInput s r i j o f rc
          else (j, s)
        | none => takeInput s r i j o f rc
      else if (jobB j).isSome then (j, s)
      else
        let (j, s) := takeInput s r i j o f rc
        let j := { j with decided := true }
        -- NEAREST reads one of the two alone (R209, R212)
        if j.mode = 0 then releaseInputs s r i j fun x => nearInput j != some x else (j, s)

/-- Whether a job has met its mode's completion rule. -/
def jobMet (j : ConvJob) : Bool :=
  match j.mode with
  | 2 => ((j.norm.filter (· != 0)).length == j.folded.length) && j.foldingNow.isNone
  | 3 | 4 => j.foldingNow.isNone && j.queue.isEmpty && (j.cut || decide ((jobParam j pTconvHoldSamples : Int) ≤ j.decidedTo))
  | _ => j.decided

/-- Set the job of a CONVERT stage, and start its finishing pass once it may. -/
def putJob (s : State) (r : ObjId) (i : Nat) (j : ConvJob) : State :=
  let j := if jobMet j || (j.cut && j.foldingNow.isNone) then { j with finishing := true } else j
  setStageRt s r i { stageRt s r i with conv := some j }

/-- The inputs of a sequence that a job's rule selects among those that have completed (R209, R212, R213, R217). -/
def selectIns (j : ConvJob) (es : List SeenIn) : List SeenIn :=
  match j.mode with
  | 2 =>
    let n := jobParam j pTconvAccPositions
    let pos (e : SeenIn) : Int := accPosition e.ts j.tOut n j.pNum (max j.pDen 1)
    if j.pNum = 0 then []
    else es.filter fun e => decide (0 ≤ pos e ∧ pos e < n) && decide (atD j.norm (pos e).toNat 0 ≠ 0) &&
      es.all fun d => decide (e.order ≤ d.order) || decide (pos d ≠ pos e)
  | 3 | 4 =>
    let ins := es.filter fun e => decide (j.w0 ≤ (e.ts : Int) ∧ (e.ts : Int) < j.tOut)
    ins.filter fun e =>
      let p := holdAt j e.ts
      ins.all fun d =>
        let q := holdAt j d.ts
        decide (q.1 ≠ p.1) || decide (p.2 < q.2 ∨ (p.2 = q.2 ∧ e.ts ≤ d.ts))
  | _ =>
    let all := { j with inputs := es.map fun e => ⟨e.surf, 0, e.ts, false, e.order, false, false⟩ }
    let keep := if j.mode = 0 then [nearInput all] else [jobA all, jobB all]
    es.filter fun e => keep.any fun k => match k with | some i => i.order == e.order | none => false

/-- Whether a frame that completed still stands in its surface. -/
def stillHeld (s : State) (e : SeenIn) : Bool :=
  match surfOf s e.surf with | some f => decide (f.done = e.order ∧ f.state ≠ .writing) | none => true

/-- Count the inputs that a job would use and that were overwritten before it could lease them (R209). -/
def countMissed (s : State) (r : ObjId) (i : Nat) (u : ObjId) (j : ConvJob) : State :=
  let x := stageRt s r i
  let gone := (selectIns j x.seen).filter fun e => !e.counted && !stillHeld s e
  if gone.isEmpty then s
  else
    bumpProp (setStageRt s r i { x with
      seen := x.seen.map fun e => if gone.contains e then { e with counted := true } else e }) u pTconvMissedInputs 0 gone.length

/-- A CONVERT stage starts its job at H+1L of a hinge (R139, R206, R209, R213, R220). -/
def convStart (s : State) (r : ObjId) : State :=
  match convStage s r with
  | none => s
  | some (i, g) =>
    let h := getPropN s r pRouteHead
    let hr := headRt s (objInst h)
    let x := stageRt s r i
    match hr.lastHinge, picOf s g.ring with
    | some tk, some out =>
      let started := match x.conv with | some c => c.tk == tk | none => false
      if getProp s r pRouteState ≠ 1 ∨ getProp s h pHeadRasterState = 0 ∨ started || stageBusy x then s
      else
        let s := tickTo (afterHinge s (objInst h)) s
        let u := atD g.units 0 0
        let mode := getPropN s u pTconvMode
        let ring := stageInput s r i
        let pu := bandPixels out g.units.length (tconvBand mode out.1)
        let ins := seqInputs s ring x.seqOrder
        let newest := ins.getLast?.map fun e => (e.2.2.rateNum, e.2.2.rateDen)
        let x := match newest with | some p => { x with latched := some p } | none => x
        let p := newest.getD (0, 1)
        let d := jobDelay s r u x pu
        let tNext := tk + framePeriod s h
        let tOut : Int := (tNext : Int) - d
        let guardT := tconvGuard s u pu
        let w0 := x.prevWin.getD (tOut - framePeriod s h)
        let s := match newest with
          | some q => latchRate s r i u (headCount s h) q
          | none => s
        let s := setProp (setProp s u pTconvDelayApplied 0 (d / nsT : Nat)) u pTconvGuard 0 (guardT / nsT : Nat)
        let norm := if mode = 2 then tconvNorm s u else []
        let noFrame := match x.prevOut with | some q => decide (tOut ≤ q) | none => false
        let past := x.past ++ (match x.conv with | some c => if c.cut then [c] else [] | none => [])
        let job : ConvJob := ⟨headCount s h, tk, tNext, tOut, (tNext : Int) - guardT, w0, mode, p.1, p.2, norm, [], none, [],
          [], 0, false, false, false, none, g.units.any (fun v => placeGloved s (spareIdx v)), false, [], u,
          s.props.filter (fun e => keyObj e.1 == u), ring, 0⟩
        -- a job that may write no frame ends as it starts, and the hold windows go on from the latest before it (R208, R217)
        if noFrame then
          g.units.foldl (fun s u => wrapProp s u pTconvJobs)
            (setStageRt s r i { x with prevOut := some tOut, conv := some { job with ended := true }, past := past })
        else
        let (outSurf, s) : Option ObjId × State := match writerClaim s g.ring with
          | some (o, s) => (some o, s)
          | none => (none, reportOverrun s g.ring 0)
        let job := { job with output := outSurf }
        let x := { x with
          prevOut := some tOut, prevWin := some (match x.prevWin with | some w => max w tOut | none => tOut)
          conv := some job, past := past }
        let s := countMissed (setStageRt s r i x) r i u job
        let (job, s) := ins.foldl (fun (a : ConvJob × State) e => jobInput a.2 r i u a.1 e.1 e.2.1 e.2.2) (job, s)
        putJob s r i job
    | _, _ => s

/-- The planes of a surface in the layout of a format of the same base (R203). -/
def planesAs (s : State) (f : Surf) (fmt : Nat) : List (List (List Nat)) :=
  let p := readSurf s.frame f
  if fmtPlanes f.format f.width f.height = fmtPlanes fmt f.width f.height then p
  else fromComps fmt f.width f.height (toComps f.format p)

/-- Values of a surface as native words or double-word samples, by plane and line of a format's layout. -/
def surfValues (s : State) (f : Surf) (fmt : Nat) : List (List (List Nat)) := (planesAs s f fmt).map (planeValues fmt)

/-- Apply the fold of one input: into the accumulator, or into the output surface (R215, R217). -/
def foldInto (s : State) (u : ObjId) (j : ConvJob) (q : ObjId × Nat × Nat) : State :=
  match surfOf s q.1 with
  | none => s
  | some f =>
    if j.mode = 2 then
      match surfOf s (getPropN s u pTconvAccSurface) with
      | none => s
      | some a =>
        let rows := (readSurf s.frame f).flatten
        rows.zipIdx.foldl (fun s w =>
          let old := accRead s a w.2 w.1.length
          accWrite s a w.2 ((w.1.zip old).map fun e => accFold j.folded.isEmpty e.2 q.2.2 e.1)) s
    else
      match j.output.bind (surfOf s) with
      | none => s
      | some o =>
        let new := surfValues s f o.format
        let vals := if j.folded.isEmpty then new
          else List.zipWith (fun a b => List.zipWith (fun x y => List.zipWith (fun v w => if j.mode = 3 then max v w else min v w) x y) a b)
            (surfValues s o o.format) new
        { s with frame := writeSurf s.frame o (vals.map fun p => planeWords o.format p) }

/-- The next fold starts (R210). -/
def foldStart (s : State) (r : ObjId) : State :=
  match convStage s r with
  | none => s
  | some (i, _) =>
    match (stageRt s r i).conv with
    | some j =>
      if j.ended ∨ j.foldingNow.isSome ∨ j.cut ∨ j.queue.isEmpty then s
      else putJob s r i { j with foldingNow := some 0 }
    | none => s

/-- A fold ends: its arithmetic stands, its lease is released (R210, R215). -/
def foldEnd (s : State) (r : ObjId) : State :=
  match convStage s r with
  | none => s
  | some (i, g) =>
    match (stageRt s r i).conv with
    | some j =>
      match j.foldingNow, j.queue with
      | some _, q :: qs =>
        let u := atD g.units 0 0
        let s := if j.lost then s else foldInto s u j q
        let j' := { j with
          foldingNow := none, queue := if j.cut then [] else qs, folded := j.folded ++ [q]
          accSum := j.accSum + q.2.2
          inputs := j.inputs.map fun x => if x.surf = q.1 ∧ x.leased then { x with leased := false, used := true } else x }
        putJob (dropLease s q.1 (.job r i)) r i j'
      | _, _ => s
    | none => s

/-- Count late inputs, and report them at most once per millisecond (R211). -/
def countLate (s : State) (r : ObjId) (i : Nat) (u : ObjId) (hinge n : Nat) : State :=
  if n = 0 then s
  else
    let x := stageRt s r i
    let since := x.lateSince + n
    let s := bumpProp s u pTconvLateInputs 0 n
    let due : Bool := match x.lastLate with | none => true | some t => decide (t + msT ≤ s.now)
    if due then
      postEvent (setStageRt s r i { x with lateSince := 0, lastLate := some s.now }) 0x0901 u
        (hinge % 2 ^ 32 * 2 ^ 32 + min since 65535)
    else setStageRt s r i { x with lateSince := since }

/-- The cut-off of the job passes (R210, R211). -/
def convCut (s : State) (r : ObjId) : State :=
  match convStage s r with
  | none => s
  | some (i, g) =>
    match (stageRt s r i).conv with
    | some j =>
      if j.cut ∨ j.ended then s
      else
        let s := tickTo j.tCut.toNat s
        let u := atD g.units 0 0
        let j := if j.mode = 3 ∨ j.mode = 4 then holdDecide j (jobParam j pTconvHoldSamples) else j
        -- a fold in progress runs on; without one, the first decided fold starts now; the others never run
        let run := j.queue.take 1
        let late := j.queue.drop 1
        let s := late.foldl (fun s q => dropLease s q.1 (.job r i)) s
        let j := { j with
          cut := true, decided := true, queue := run
          foldingNow := if run.isEmpty then none else some 0
          inputs := j.inputs.map fun x => if late.any (fun q => q.1 == x.surf) then { x with leased := false } else x }
        countLate (putJob s r i j) r i u j.hinge late.length
    | none => s

/-- Combine two or one input into the output of NEAREST, BLEND or MCI: planes, fallback blocks, and a scene cut. -/
def mixFrames (s : State) (j : ConvJob) (fmt w h : Nat) : Option (List (List (List Nat)) × Nat × Bool × List ConvIn) :=
  let pick (c : ConvIn) : Option (List (List (List Nat)) × Nat × Bool × List ConvIn) :=
    (surfOf s c.surf).map fun f => (planesAs s f fmt, 0, false, [c])
  match jobA j, jobB j with
  | some a, some b =>
    let near := if nearestIsA j.tOut a.ts b.ts then a else b
    if j.mode = 0 then pick near
    else
      match surfOf s a.surf, surfOf s b.surf with
      | some fa, some fb =>
        let wb := blendWeight j.tOut a.ts b.ts
        if j.mode = 1 then
          let va := surfValues s fa fmt
          let vb := surfValues s fb fmt
          some ((List.zipWith (fun x y => List.zipWith (fun k l => List.zipWith (fun (m n : Nat) => (blendMix wb m n).toNat) k l) x y)
            va vb).map (planeWords fmt), 0, false, [a, b])
        else
          let m := mciCompose fmt w h (toComps fmt (planesAs s fa fmt)) (toComps fmt (planesAs s fb fmt)) wb (jobParam j pTconvMcRange) (jobParam j pTconvMcSadLimit)
          if jobParam j pTconvMcCut * m.blocks < m.fallbacks * 1000 then
            (pick near).map fun e => (e.1, m.fallbacks, true, e.2.2.2)
          else some (fromComps fmt w h m.grids, m.fallbacks, false, [a, b])
      | _, _ => none
  | some a, none => pick a
  | none, some b => pick b
  | none, none => none

/-- The record of a CONVERT job (R208). -/
def convRecord (s : State) (r : ObjId) (j : ConvJob) (frame : Nat) : FrameRec :=
  let c := headRate s (getPropN s r pRouteHead)
  ⟨frame, j.tOut.toNat, r, flSynthetic, (c.getD (0, 1)).1, (c.getD (0, 1)).2, j.hinge, 0, 0⟩

/-- The inputs that a job used, by latest timestamp: frame numbers. -/
def latestFrame (l : List ConvIn) : Nat :=
  ((l.foldl (fun b i => match b with | some x => if x.ts < i.ts then some i else some x | none => some i)
    (none : Option ConvIn)).map (·.frame)).getD 0

/-- Write the frame of a job and its record. -/
def convWrite (s : State) (r : ObjId) (u : ObjId) (j : ConvJob) (o : ObjId) (planes : Option (List (List (List Nat))))
    (used : List ConvIn) : State :=
  match surfOf s o with
  | none => s
  | some f =>
    let s := match planes with | some p => { s with frame := writeSurf s.frame f p } | none => s
    let s := issueRecord s o (convRecord s r j (latestFrame used))
    let s := setTimeProp s u pTconvLastOut j.tOut.toNat
    let fs := used.map (·.frame)
    setProp (setProp (setProp s u pTconvLastInputs 0 (fs.foldl min (fs.headD 0) : Nat)) u pTconvLastInputs 1 (fs.foldl max 0 : Nat))
      u pTconvLastInputs 2 fs.length

/-- The finishing pass of a job ends (R208, R215, R217 to R219). -/
def convFinish (s : State) (r : ObjId) : State :=
  match convStage s r with
  | none => s
  | some (i, g) =>
    match (stageRt s r i).conv with
    | none => s
    | some j =>
      if j.ended ∨ !j.finishing then s
      else
        let u := atD g.units 0 0
        let done (s : State) : State :=
          let (j, s) := keepInputs s r i j fun _ => false
          let s := (atD (routeRt s r).units i []).foldl (fun s u => wrapProp s u pTconvJobs) s
          let s := if j.mode = 3 ∨ j.mode = 4 then
              let n := ((stageRt s r i).seen.filter fun e => decide (j.w0 ≤ (e.ts : Int) ∧ (e.ts : Int) < j.tOut)).length
              setProp s u pTconvCoverage 0 (if n = 0 then 0 else j.folded.length * 1000 / n : Nat) else s
          setStageRt s r i { stageRt s r i with conv := some { j with ended := true } }
        let used := j.inputs.filter (·.used)
        match j.output with
        | none => done s
        | some o =>
          match surfOf s o with
          | none => done s
          | some f =>
            if j.lost then done (abandonSurface s o)
            else if j.mode = 2 then
              if j.folded.isEmpty then done (abandonSurface s o)
              else
                match surfOf s (getPropN s u pTconvAccSurface), picOf s (stageInput s r i) with
                | some a, some p =>
                  let to24 := fmtIs24 f.format && !fmtIs24 p.1
                  let shape := fmtPlanes p.1 p.2.1 p.2.2.1
                  let rows := (shape.foldl (fun (acc : List (List (List Nat)) × Nat) pl =>
                    (acc.1 ++ [(List.range pl.2).map fun y => accRead s a (acc.2 + y) pl.1], acc.2 + pl.2)) ([], 0)).1
                  let vals := rows.map fun pl => pl.map fun l => l.map fun v => accFinish to24 v j.accSum
                  -- the accumulator has the input's planes; the output's layout and width may differ (R203)
                  let planes := if to24 || fmtPlanes p.1 p.2.1 p.2.2.1 != fmtPlanes f.format f.width f.height then
                      fromComps f.format f.width f.height (toComps p.1 vals) else vals
                  done (convWrite s r u j o (some planes) used)
                | _, _ => done (abandonSurface s o)
            else if j.mode = 3 ∨ j.mode = 4 then
              if j.folded.isEmpty then done (abandonSurface s o) else done (convWrite s r u j o none used)
            else
              match mixFrames s j f.format f.width f.height with
              | none => done (abandonSurface s o)
              | some m =>
                let s := if j.mode = 5 then setProp s u pTconvMcFallbacks 0 m.2.1 else s
                let s := if m.2.2.1 then
                    postEvent (bumpProp s u pTconvMcFallbacks 1) 0x0902 u (j.hinge % 2 ^ 32 * 2 ^ 32 + min m.2.1 65535) else s
                done (convWrite s r u j o (some m.1) m.2.2.2)

/-- Whether a job would have used an input that completed after its cut-off (R211, R212): judged beside the inputs that
the job took and those that completed before this one. -/
def lateUse (j : ConvJob) (rc : FrameRec) (order : Nat) : Bool :=
  let ts : Int := rc.ts
  let later := j.after.filter fun x => decide (x.order < order)
  let all := j.inputs ++ later
  match j.mode with
  | 2 =>
    let n := jobParam j pTconvAccPositions
    let p := if j.pNum = 0 then (rc.rateNum, rc.rateDen) else (j.pNum, j.pDen)
    let posOf (t : Int) : Int := accPosition t j.tOut n p.1 (max p.2 1)
    let pos := posOf ts
    decide (0 ≤ pos ∧ pos < n) && decide (atD j.norm pos.toNat 0 ≠ 0) && !(j.folded.any fun q => q.2.1 == pos.toNat) &&
      !(later.any fun x => posOf x.ts == pos)
  | 3 | 4 =>
    decide (j.w0 ≤ ts ∧ ts < j.tOut) &&
    (let p := holdAt j rc.ts
     all.all fun x => decide ((holdAt j x.ts).1 ≠ p.1) || decide (p.2 < (holdAt j x.ts).2))
  | _ =>
    let a := jobA { j with inputs := all }
    let b := jobB { j with inputs := all }
    if ts ≤ j.tOut then
      (match a with | some x => decide (x.ts < rc.ts) | none => true) &&
      (j.mode != 0 || (match b with | some x => nearestIsA j.tOut rc.ts x.ts | none => true))
    else
      b.isNone && (j.mode != 0 || (match a with | some x => !nearestIsA j.tOut x.ts rc.ts | none => true))

/-- TCONV_LATE_INPUT: counted once, against the oldest job of its ring that would have used it. -/
def lateInput (s : State) (r o : ObjId) : State :=
  match convStage s r with
  | none => s
  | some (i, g) =>
    match surfOf s o, (surfOf s o).bind surfFrame with
    | some f, some rc =>
      let x := stageRt s r i
      let late (j : ConvJob) : Bool := j.ring == f.ring && j.cut && decide (j.tCut < (f.doneAt : Int)) && lateUse j rc f.done
      match (x.past ++ x.conv.toList).find? late with
      | some j => countLate s r i (atD g.units 0 0) j.hinge 1
      | none => s
    | _, _ => s

/-- An input that completes after a job's cut-off is noted with the job (R211). -/
def noteAfter (f : Surf) (o : ObjId) (rc : FrameRec) (j : ConvJob) : ConvJob :=
  if j.cut && j.ring == f.ring then { j with after := j.after ++ [⟨o, rc.frame, rc.ts, false, f.done, false, false⟩] } else j

/-- A stopping route's last job has ended (R140). -/
def lastJobEnd (s : State) (r : ObjId) : State :=
  if getProp s r pRouteState = 2 ∧ !routeBusy s r then routeIdle s r else s

/-! ### A frame becomes complete -/

/-- A source-paced stage has a new input frame (R138). -/
def offerFrame (s : State) (r : ObjId) (i : Nat) (o : ObjId) : State :=
  let x := stageRt s r i
  let s := if x.waiting.isSome then skipFrame s r else s
  setStageRt s r i { x with waiting := some o, waitOrder := s.orders }

/-- Every stage and route that reads a ring or surface sees a complete frame. -/
def frameArrived (s : State) (o : ObjId) : State :=
  match surfOf s o with
  | none => s
  | some f =>
    match surfFrame f with
    | none => s
    | some rc =>
      let src := if f.ring = 0 then o else f.ring
      (objsOf s clsRoute).foldl (fun s r =>
        if getProp s r pRouteState ≠ 1 then s
        else
          (stagesIdx s r).foldl (fun s g =>
            let x := stageRt s r g.2
            let s := setStageRt s r g.2 { x with conv := x.conv.map (noteAfter f o rc), past := x.past.map (noteAfter f o rc) }
            if stageInput s r g.2 ≠ src ∨ (g.2 = 0 ∧ getProp s r pRoutePlay = 1) then s
            else if g.1.kind = 1 then offerFrame s r g.2 o
            else
              let x := stageRt s r g.2
              let s := if x.seqOrder < f.done then
                  setStageRt s r g.2 { x with seen := x.seen ++ [⟨o, rc.ts, f.done, false⟩] }
                else s
              match (stageRt s r g.2).conv with
              | some j =>
                let u := atD g.1.units 0 0
                let (j, s) := jobInput s r g.2 u j o f rc
                if j.ended then s else putJob s r g.2 j
              | none => s) s) s

end Sys2Proof.Machine
end

