-- ==== Sys2Proof/Machine/Units.lean ====
section
/-! DEFINITION. Faulty units, spares, moves, tests and lane switchovers (R12, R155, R260 to R265, R439 to R448). -/

namespace Sys2Proof.Machine

/-! ### Ingress ports, as far as a fault touches them -/

def portIn0 : PortIn :=
  ⟨none, [], 0, 0, 0, 0, none, none, none, [], false, none, 0, none, [none, none], [none, none, none, none], 0, 0, 0,
    [], [], false, [], [], none⟩
def portIn (s : State) (p : ObjId) : PortIn := mapGetD s.ports (objInst p) portIn0
def setPortIn (s : State) (p : ObjId) (x : PortIn) : State := { s with ports := mapPut s.ports (objInst p) x }
def updPortIn (s : State) (p : ObjId) (f : PortIn → PortIn) : State := setPortIn s p (f (portIn s p))

/-- The open frame of a port is not completed. -/
def dropOpen (s : State) (p : ObjId) : State :=
  let x := portIn s p
  match x.opened with
  | none => s
  | some f =>
    let s := setPortIn s p { x with opened := none }
    match f.surface with | some o => abandonSurface s o | none => s

/-! ### Drops and events (R101) -/

/-- A frame is counted as dropped; FRAME_DROPPED at most once per millisecond and port. -/
def portDropped (s : State) (p : ObjId) (number cause : Nat) (n : Nat := 1) : State :=
  if n = 0 then s
  else
    let s := bumpProp s p pPortInDropped 0 n
    let x := portIn s p
    let k := x.drops + n
    let due : Bool := match x.lastDropEvt with | none => true | some t => decide (t + msT ≤ s.now)
    if due then
      postEvent (setPortIn s p { x with drops := 0, lastDropEvt := some s.now }) 0x0105 p
        (number % 2 ^ 48 + cause * 2 ^ 48 + min k 255 * 2 ^ 56)
    else setPortIn s p { x with drops := k }

/-- A fault cuts the open frame of a port short: it is not completed, and it is counted (R262, R440, R446). -/
def cutOpen (s : State) (p : ObjId) : State :=
  match (portIn s p).opened with
  | some f => if f.surface.isSome then portDropped (dropOpen s p) p f.number 0 else dropOpen s p
  | none => s

/-! ### Roles (Table 20.9) -/

/-- How many units a kind of Table 20.5 has. -/
def unitCount (kind : Nat) : Nat :=
  match kind with
  | 0 => 104 | 1 => 128 | 2 => 34 | 3 => 13 | 4 => 26 | 5 => 72 | 6 => 72 | _ => 0

/-- Set the role of a unit of kinds 2 to 6; `holds` is bit 3 of its entry. -/
def setRole (s : State) (q role : Nat) (holds : Bool) : State :=
  setProp s sysObj pSystemSpareMap q (role + 8 * bit01 holds : Nat)

/-- The role of any unit: 0 in service, 1 free spare, 2 gloved (or frozen), 3 retired. -/
def kindRole (s : State) (kind index : Nat) : Nat :=
  match kind with
  | 0 => getPropN s sysObj pSystemCoreState index
  | 1 => match getPropN s sysObj pSystemFsPcState index with | 0 => 0 | 1 => 1 | 4 => 3 | _ => 2
  | k => unitRole s (unitIdx k index)

/-- Set the role of any unit. -/
def setKindRole (s : State) (kind index role : Nat) : State :=
  match kind with
  | 0 => setProp s sysObj pSystemCoreState index role
  | 1 => setProp s sysObj pSystemFsPcState index (match role with | 0 => 0 | 1 => 1 | 2 => 3 | _ => 4)
  | k => setRole s (unitIdx k index) role (unitHolds s (unitIdx k index) && role != 1 && role != 3)

/-- The entry of a unit as VX_REPAIR reports it: the encoding of `system.spare_map` (Table 20.6). -/
def roleCode (s : State) (kind index : Nat) : Nat :=
  if 2 ≤ kind then getPropN s sysObj pSystemSpareMap (unitIdx kind index) else kindRole s kind index

/-- The place whose work a unit does: its own, or the one that names it. -/
def placeOf (s : State) (q : Nat) : Nat :=
  match s.places.find? fun e => e.2 == q with
  | some e => e.1
  | none => q

/-- The first index of a kind in `system.spare_map`. -/
def kindBase (kind : Nat) : Nat := unitIdx kind 0

/-- The units that may be spares for one, in ascending physical index: for engines, those of its own island (R12). -/
def spareChoices (kind index : Nat) : List Nat :=
  if 5 ≤ kind then
    let isl := if index < 64 then index / 8 else index - 64
    (List.range 8).map (8 * isl + ·) ++ [64 + isl]
  else List.range (unitCount kind)

/-- Whether unit `i` is a free spare for another unit of its kind that no other move has chosen. -/
def spareFree (s : State) (kind index i : Nat) : Bool :=
  i != index && unitRole s (unitIdx kind i) == 1 && !unitHolds s (unitIdx kind i) &&
    !s.works.any fun w => w.kind == kind && (w.spare == some i || (w.index == i && w.test))

/-- The lowest-numbered free spare for a unit. -/
def freeSpare (s : State) (kind index : Nat) : Option Nat := (spareChoices kind index).find? (spareFree s kind index)

def workOf (s : State) (kind index : Nat) : Option UnitWork := s.works.find? fun w => w.kind == kind && w.index == index
def dropWork (s : State) (kind index : Nat) : State :=
  { s with works := s.works.filter fun w => !(w.kind == kind && w.index == index) }
def putWork (s : State) (w : UnitWork) : State := { dropWork s w.kind w.index with works := (dropWork s w.kind w.index).works ++ [w] }

/-! ### Which work a unit does -/

/-- The object of a place: a SHAPER, a TCONV or a HEAD. -/
def placeObj (kind place : Nat) : ObjId :=
  match kind with
  | 2 => objId clsShaper place
  | 3 => objId clsTconv (place - 34)
  | _ => objId clsHead (place - 47)

/-- The routes whose stages hold a unit, running or stopping. -/
def routesOfUnit (s : State) (u : ObjId) : List ObjId :=
  (objsOf s clsRoute).filter fun r => getProp s r pRouteState != 0 && (routeRt s r).units.any fun us => us.contains u

/-- Jobs in progress on a unit write no frame (R155). -/
def loseJobs (s : State) (u : ObjId) : State :=
  (routesOfUnit s u).foldl (fun s r =>
    let x := routeRt s r
    setRouteRt s r { x with stages := x.stages.zipIdx.map fun g =>
      if (atD x.units g.2 []).contains u then
        { g.1 with job := g.1.job.map (fun j => { j with lost := true }), conv := g.1.conv.map fun j => if j.ended then j else { j with lost := true } }
      else g.1 }) s

/-- The head on whose hinges a unit's move waits: a running one that it is or serves. -/
def headOfUnit (s : State) (kind place : Nat) : Option Nat :=
  match kind with
  | 4 => if getProp s (placeObj 4 place) pHeadRasterState = 2 ∨ getProp s (placeObj 4 place) pHeadRasterState = 3 then some (place - 47) else none
  | 2 | 3 =>
    (routesOfUnit s (placeObj kind place)).findSome? fun r =>
      match headIdx (getPropN s r pRouteHead) with
      | some h => if getProp s (headObj h) pHeadRasterState = 0 then none else some h
      | none => none
  | _ => none

/-- The ports whose engines an ingress or egress place is. -/
def portsOfEngine (s : State) (kind place : Nat) : List ObjId :=
  if kind = 5 then ((List.range 128).map (objId clsPortIn)).filter fun p => (portIn s p).engines.contains (place - 73)
  else ((List.range 128).map (objId clsPortOut)).filter fun p => (outOf s p).engines.contains (place - 137)

/-- Whether an egress or ingress port has an engine that is gloved. -/
def engineGloved (s : State) (kind : Nat) (engines : List Nat) : Bool :=
  engines.any fun e => placeGloved s (unitIdx kind e)

/-- The active line of a head's frame under way, and the pixel in it: from line 0 at `lineZero`. -/
def scanPos (s : State) (h : Nat) : Nat × Nat :=
  let o := headObj h
  let z := (headRt s h).lineZero
  if s.now ≤ z then (0, 0)
  else
    let y := linesBetween s o z s.now
    (y, (s.now - lineAt s o z y) * getPropN s o pHeadRaster 2 / max (lineAt s o z (y + 1) - lineAt s o z y) 1)

/-- From here to the end of the frame the egress engines repeat the last pixel (R440, R241). -/
def freezePicture (s : State) (h : Nat) : State :=
  let v := getPropN s (headObj h) pHeadRaster 1
  let w := getPropN s (headObj h) pHeadRaster 0
  let p := scanPos s h
  if v ≤ p.1 then s
  else updHead s h fun x => { x with
    underAt := (x.underAt.filter fun u => decide (u.1 < p.1)) ++ [(p.1, min p.2 w)] ++
      (List.range (v - p.1 - 1)).map fun k => (p.1 + 1 + k, 0) }

/-- What gloving a unit does to the work in progress on it. -/
def gloveEffects (s : State) (kind q : Nat) : State :=
  let p := placeOf s q
  match kind with
  | 2 | 3 => loseJobs s (placeObj kind p)
  | 4 => freezePicture s (p - 47)
  | 5 => (portsOfEngine s 5 p).foldl cutOpen s
  | _ => s

/-! ### Faults and moves -/

/-- UNIT_FAULT: a unit of a kind, and the reason in the order of R439. -/
def faultEvent (s : State) (kind index why : Nat) : State :=
  postEvent s 0x1382 sysObj (kind + index * 256 + why % 256 * 65536)

/-- No spare: the unit stays gloved (R446). -/
def noSpare (s : State) (kind index : Nat) : State :=
  let s := postEvent s 0x1386 sysObj (kind + index * 256)
  if kind = 6 then
    (portsOfEngine s 6 (placeOf s (unitIdx 6 index))).foldl (fun s p =>
      setOutState s p 0 6) s
  else s

/-- The spare takes over the work of a place: UNIT_MOVED, and the old unit is gloved for its test. -/
def moveUnit (s : State) (w : UnitWork) (spare : Nat) (hinge : Nat) : State :=
  let q := unitIdx w.kind w.index
  let n := unitIdx w.kind spare
  let p := placeOf s q
  let s := { s with places := if n = p then mapDel s.places p else mapPut s.places p n }
  let s := setRole s n 0 (n != p)
  let s := setRole s q (if unitRole s q = 0 then 2 else unitRole s q) false
  let s := { s with works := s.works.map fun x => if x.kind = w.kind ∧ x.index = w.index then { x with test := true, hinge := hinge } else x }
  let s := if unitRole s q = 2 then s else if w.req.isNone then dropWork s w.kind w.index else s
  postEvent s 0x1383 sysObj (w.kind + w.index * 256 + spare * 65536 + bit01 w.planned * 2 ^ 24 + hinge % 2 ^ 32 * 2 ^ 32)

/-- Moves that wait for a hinge of a head take place there, in ascending physical index; a planned one waits out the brace
state (R433). -/
def spareTakeover (s : State) (h : Nat) : State :=
  s.works.foldl (fun s w =>
    match w.spare with
    | some n =>
      if !w.test && !(w.planned && s.hif.brace) && decide (2 ≤ w.kind ∧ w.kind ≤ 4) && headOfUnit s w.kind (placeOf s (unitIdx w.kind w.index)) == some h then
        moveUnit s w n (getPropN s (headObj h) pHeadHingeCount)
      else s
    | none => s) s

/-- Moves of ingress engines take place at their port's next frame start. -/
def engineTakeover (s : State) (p : ObjId) : State :=
  s.works.foldl (fun s w =>
    match w.spare with
    | some n =>
      if !w.test && !(w.planned && s.hif.brace) && w.kind == 5 && (portsOfEngine s 5 (placeOf s (unitIdx 5 w.index))).contains p then moveUnit s w n 0 else s
    | none => s) s

/-- Whether nothing depends on a unit's work now: it moves at once (log entry 40). -/
def idleUnit (s : State) (kind index : Nat) : Bool :=
  let p := placeOf s (unitIdx kind index)
  if kind = 5 then (portsOfEngine s 5 p).isEmpty else (headOfUnit s kind p).isNone

/-- Firmware chooses and prepares a spare for one unit (R440). -/
def takeSpare (s : State) (kind index : Nat) : State :=
  match workOf s kind index with
  | none => s
  | some w =>
    if w.spare.isSome || w.test || kind < 2 || kind == 6 then s
    else match freeSpare s kind index with
      | none => dropWork (noSpare s kind index) kind index
      | some n =>
        let s := setRole s (unitIdx kind n) 0 true
        let w := { w with spare := some n }
        let s := putWork s w
        if idleUnit s kind index then moveUnit s w n 0 else s

/-- The units whose faults were declared on the same clock, and which take spares before one: those of lower index (R445). -/
def firstFaults (s : State) (kind index : Nat) : List Nat :=
  match workOf s kind index with
  | none => []
  | some w => (List.range index).filter fun i => match workOf s kind i with
    | some x => x.declared.isSome && x.declared == w.declared && x.spare.isNone && !x.test && spareChoices kind i == spareChoices kind index
    | none => false

/-- Firmware chooses and prepares a spare, in ascending index for faults of one clock (R440, R445). -/
def prepareSpare (s : State) (kind index : Nat) : State :=
  takeSpare ((firstFaults s kind index).foldl (fun s i => takeSpare s kind i) s) kind index

/-- Firmware declares a unit of kinds 2 to 6 faulty (R439, R440, R445). -/
def unitFault (s : State) (kind index cause : Nat) : State :=
  if kind < 2 ∨ unitCount kind ≤ index ∨ 2 ≤ kindRole s kind index then s
  else
    let q := unitIdx kind index
    let s := faultEvent s kind index cause
    let spare := unitRole s q == 1
    -- a chosen spare that fails before its move gives the move back to its unit, and firmware chooses again
    let chosen := s.works.find? fun w => w.kind == kind && w.spare == some index && !w.test
    let s := setRole s q 2 (unitHolds s q && chosen.isNone)
    match chosen with
    | some w =>
      let s := putWork s { w with spare := none }
      prepareSpare (putWork s ⟨kind, index, none, false, true, none, 0, 0, none⟩) kind w.index
    | none =>
      if spare then putWork s ⟨kind, index, none, false, true, none, 0, 0, none⟩
      else
        let s := gloveEffects s kind q
        match workOf s kind index with
        | some w => putWork s { w with planned := false }
        | none => putWork s ⟨kind, index, none, false, false, none, 0, 0, some s.now⟩

/-- What the hand-over of a port's engine costs: its line in progress repeats the last pixel, if the line falls to the engine's gang
position, and embedded audio is silent for the 10 µs of the span (R81, R247, R441). -/
def spanLost (s : State) (p : ObjId) (place : Nat) : State :=
  let s := updOut s p fun x => { x with silentTo := s.now + 10 * usT }
  match headIdx (getPropN s p pPortOutHead) with
  | none => s
  | some h =>
    let pos := scanPos s h
    let v := getPropN s (headObj h) pHeadRaster 1
    let x := outOf s p
    if pos.1 < v ∧ ((x.sent * v + pos.1) % max x.engines.length 1 = x.engines.idxOf place) then
      let z := (headRt s h).lineZero
      updOut s p fun x => { x with
        gaps := x.gaps.filter (fun g => decide (g.1 + 2 * framePeriod s (headObj h) ≥ z)) ++
          [(z, pos.1, min pos.2 (getPropN s (headObj h) pHeadRaster 0))] }
    else s

/-- `head.hinge_count` of the head whose raster an egress engine of a place sends; 0 without one (Tables 20.6 and 20.10). -/
def engineHinge (s : State) (place : Nat) : Nat :=
  ((portsOfEngine s 6 place).findSome? fun p => headIdx (getPropN s p pPortOutHead)).elim 0
    fun h => getPropN s (headObj h) pHeadHingeCount

/-- The island's switch logic moves a faulty egress engine in hardware (R441): engine of a place 0 to 63. -/
def egressSwitch (s : State) (place : Nat) : State :=
  let q := unitAt s (unitIdx 6 place)
  let index := if q < 201 then q - 137 else q - 145
  if unitRole s q = 3 then s
  else
    let s := if unitRole s q = 2 then s else unitFault s 6 index 3
    match workOf s 6 index with
    | none => s
    | some w =>
      if w.test then s
      else match freeSpare s 6 index with
        | none => dropWork (noSpare s 6 index) 6 index
        | some n =>
          let s := (portsOfEngine s 6 (unitIdx 6 place)).foldl (fun s p => spanLost s p place) s
          moveUnit s { w with spare := some n } n (engineHinge s (unitIdx 6 place))

/-! ### Tests and repair -/

/-- The completion of VX_REPAIR (Table 20.6). -/
def repairPayload (result state : Nat) (spare : Option Nat) (hinge : Nat) : List Byte :=
  toLe 1 result ++ toLe 1 state ++ toLe 2 (spare.getD 0xFFFF) ++ toLe 8 hinge

/-- Complete the request behind a move or a test. -/
def repairDone (s : State) (w : UnitWork) (result : Nat) : State :=
  match w.req with
  | none => s
  | some (mb, cnt) =>
    match flightOf s mb cnt with
    | some f => completeFlight s f { payload := repairPayload result (roleCode s w.kind w.index) w.spare w.hinge }
    | none => s

/-- A gloved unit's self-test ends (R442). -/
def unitTested (s : State) (kind index : Nat) (passed : Bool) : State :=
  if unitCount kind ≤ index then s
  else
    let w := (workOf s kind index).getD ⟨kind, index, none, false, true, none, 0, 0, none⟩
    let pure' := w.action == 2 && kindRole s kind index == 3 && w.req.isSome
    if kindRole s kind index ≠ 2 ∧ !pure' then s
    else
      let s := setKindRole s kind index (if passed then 1 else 3)
      let s := postEvent s 0x1384 sysObj (kind + index * 256 + bit01 passed * 65536)
      let waiting := w.spare.isSome && !w.test
      if waiting then s else repairDone (dropWork s kind index) w (if passed then 0 else 1)

/-- Whether a move or a test of a unit is under way. -/
def unitBusy (s : State) (kind index : Nat) : Bool :=
  s.works.any fun w => w.kind == kind && (w.index == index || (w.spare == some index && !w.test))

/-- Begin a planned move of a unit of kinds 2 to 6 to a spare (R443). -/
def planMoveTo (s : State) (kind index : Nat) (req : Option (Nat × Nat)) (n : Nat) : State :=
  let s := setRole s (unitIdx kind n) 0 true
  let w : UnitWork := ⟨kind, index, some n, true, false, req, 0, 0, none⟩
  let s := putWork s w
  if kind = 6 then moveUnit s w n (engineHinge s (placeOf s (unitIdx 6 index)))
  else if idleUnit s kind index then moveUnit s w n 0 else s

/-- Begin a planned move of a unit that serves: none without a free spare. -/
def planMove (s : State) (kind index : Nat) (req : Option (Nat × Nat)) : Option State :=
  if kindRole s kind index ≠ 0 ∨ unitBusy s kind index then none
  else (freeSpare s kind index).map (planMoveTo s kind index req)

/-! ### Lane cores (R260 to R265) -/

def laneTx0 : LaneTx := ⟨0, none, none, false, false, 0, 0, 0, none⟩
def laneTxOf (s : State) (l : Nat) : LaneTx := mapGetD s.laneTxs l laneTx0
def setLaneTx (s : State) (l : Nat) (x : LaneTx) : State := { s with laneTxs := mapPut s.laneTxs l x }
def coreOf (s : State) (l : Nat) : Nat := getPropN s sysObj pSystemLaneCore l

/-- The cores of a lane's quadrant in ascending order. -/
def quadrantCores (l : Nat) : List Nat := (List.range 24).map (l / 24 * 24 + ·) ++ [96 + 2 * (l / 24), 97 + 2 * (l / 24)]

/-- The lowest-numbered free spare core of a lane's quadrant that no switchover holds. -/
def freeCore (s : State) (l : Nat) : Option Nat :=
  (quadrantCores l).find? fun c => getProp s sysObj pSystemCoreState c == 1 &&
    !s.laneTxs.any (fun e => match e.2.sparing with | some x => x.1 == c | none => false) &&
    !s.works.any fun w => w.kind == 0 && w.index == c

/-- The egress port that sends on a lane. -/
def laneSender (s : State) (l : Nat) : Option ObjId :=
  ((List.range 128).map (objId clsPortOut)).find? fun p =>
    [1, 5].contains (getPropN s p pPortOutKind) && getProp s p pPortOutState != 0 && (getPropsN s p pPortOutLanes 4).contains l

/-- Whether a lane sends, so that its read-back compares: not at electrical idle, and not in Panel Replay (R248, R260). -/
def laneSends (s : State) (l : Nat) : Bool :=
  match laneSender s l with
  | some p =>
    let st := getPropN s p pPortOutState
    if getProp s p pPortOutKind = 1 then st == 2
    else
      let used : Nat := match dpTrained s p with | some c => c.1 | none => if st = 4 then ((dpChoose s p).map (·.1)).getD 0 else 0
      st != 5 && decide ((getPropsN s p pPortOutLanes 4).idxOf l < used) && getProp s p pPortOutPrState != 2 && !(outOf s p).resume
  | none => (txBound s 0).contains l || (hlLanesTaken s).contains l

/-- The samples that mismatch: bit w mod 32 of transmit word w, in both copies of a bit that ST 292-1 has sent twice (R260). -/
def sampleMisses (s : State) (l w : Nat) (sent : Word) (seen : List Bool) : Nat :=
  let twice : Bool := match laneSender s l with | some p => getProp s p pPortOutKind == 1 && getProp s p pPortOutSdiStd == 0 | none => false
  ((seen.take (if twice then 2 else 1)).filter fun b => b != sent.getLsbD (w % 32)).length

/-- LANE_NO_SPARE (R264). -/
def noCore (s : State) (l : Nat) : State :=
  let auto := getProp s sysObj pSystemSpareAuto == 1
  let held := s.laneTxs.any fun e => decide (e.1 / 24 = l / 24) && (match e.2.sparing with | some y => y.2 == 2 | none => false)
  postEvent (setLaneTx s l { laneTxOf s l with waits := auto && held }) 0x1312 sysObj (l + coreOf s l * 256 + bit01 (!auto) * 65536)

/-- The faults declared on this clock in a lane's quadrant take the free spares, in ascending lane order (R262, R264). -/
def takeCores (s : State) (l : Nat) : State :=
  let group := ((List.range 24).map (l / 24 * 24 + ·)).filter fun k => (laneTxOf s k).declared == some s.now
  let had (k : Nat) : Bool := k == l || (laneTxOf s k).sparing.isSome
  let freed := group.foldl (fun s k => setLaneTx s k { laneTxOf s k with sparing := none }) s
  group.foldl (fun s' k =>
    match (if getProp s sysObj pSystemSpareAuto = 1 then freeCore s' k else none) with
    | some n => setLaneTx s' k { laneTxOf s' k with sparing := some (n, (laneTxOf s' k).cause), waits := false }
    | none => if had k then noCore s' k else s') freed

/-- A lane is faulty: its core for a reason of R439, its switchover with a cause of Table 11.11. A planned switchover under way is
completed on the spare that it holds (R264). -/
def laneFaulty (s : State) (l cause why : Nat) : State :=
  let s := faultEvent s 0 (coreOf s l) why
  let x := { laneTxOf s l with faulty := true, cause := cause }
  match x.sparing with
  | some (n, _) => setLaneTx s l { x with sparing := some (n, cause) }
  | none => takeCores (setLaneTx s l { x with declared := some s.now }) l

/-- A lane is declared faulty: read-back (cause 0), or its PLL unlocked (cause 1) (R261, R439). -/
def laneFault (s : State) (l cause : Nat) : State := laneFaulty s l cause 5

/-- A lane's switchover loses the spare core that it had chosen: it takes the next free one (R445). -/
def nextCore (s : State) (l : Nat) : State :=
  match (laneTxOf s l).sparing with
  | none => s
  | some (_, cause) =>
    let c := coreOf s l
    let s := setLaneTx s l { laneTxOf s l with sparing := none }
    match freeCore s l with
    | some n =>
      let s := setLaneTx s l { laneTxOf s l with sparing := some (n, cause) }
      match workOf s 0 c with
      | some w => putWork s { w with spare := some n }
      | none => s
    | none => if cause = 2 then dropWork s 0 c else noCore s l

/-- Firmware declares a lane core faulty for another reason than a lane fault (R439): the lane it serves moves under R262, and a spare
core goes to its test. Which cause LANE_SPARED then carries is not stated: a free value. -/
def coreFault (s : State) (c why : Nat) : State :=
  if why = 5 then s
  else match getPropN s sysObj pSystemCoreState c with
  | 0 => match (List.range 96).find? fun l => coreOf s l == c with
    | some l => let v := freshValue s; laneFaulty v.2 l (v.1 % 2) why
    | none => s
  | 1 =>
    let s := setProp (faultEvent s 0 c why) sysObj pSystemCoreState c 2
    let held := (List.range 96).filter fun l => match (laneTxOf s l).sparing with | some y => y.1 == c | none => false
    held.foldl nextCore (putWork s ⟨0, c, none, false, true, none, 0, 0, none⟩)
  | _ => s

/-- A read-back sample (R260, R261): its mismatches are counted for the core and in their window of 256 samples, and the one with
which a window reaches `system.rb_threshold` declares the lane faulty. -/
def laneSample (s : State) (l w : Nat) (sent : Word) (seen : List Bool) : State :=
  let n := sampleMisses s l w sent seen
  if !laneSends s l || n == 0 then s
  else
    let c := coreOf s l
    let s := bumpProp s sysObj pSystemRbMismatches c n
    let x := laneTxOf s l
    let before := if x.window = w / 256 then x.hits else 0
    let limit := getPropN s sysObj pSystemRbThreshold
    let y := { x with window := w / 256, hits := before + n, since := x.since + n }
    let due : Bool := match x.lastEvt with | none => true | some t => decide (t + msT ≤ s.now)
    if before < limit ∧ limit ≤ before + n then laneFault (setLaneTx s l y) l 0
    else if due then
      postEvent (setLaneTx s l { y with since := 0, lastEvt := some s.now }) 0x1310 sysObj (l + c * 256 + y.since % 2 ^ 32 * 65536)
    else setLaneTx s l y

/-- The ports whose frame is open on a lane: those that receive on it, and those whose flow comes through an interface on it. -/
def portsOnLane (s : State) (l : Nat) : List ObjId :=
  let on (p : ObjId) : Bool := [1, 2, 3].contains (getPropN s p pPortInKind) && getProp s p pPortInState != 0 &&
    (getPropsN s p pPortInLanes 64).contains l
  ((List.range 128).map (objId clsPortIn)).filter fun p =>
    on p || (getProp s p pPortInState != 0 && decide (4 ≤ getPropN s p pPortInKind) &&
      ([0, 1].any fun i => getPropN s p pPortInParent i != 0 && on (getPropN s p pPortInParent i)))

/-- A lane whose fault waits for a spare takes one that has become free (R264). -/
def wakeLanes (s : State) : State :=
  (List.range 96).foldl (fun s l =>
    let x := laneTxOf s l
    if x.waits && x.sparing.isNone then
      match freeCore s l with
      | some n => setLaneTx s l { x with sparing := some (n, x.cause), waits := false }
      | none => s
    else s) s

/-- The slice change of a switchover: LANE_SPARED, and the old core is gloved (R262). -/
def laneSwitch (s : State) (l : Nat) (planned : Bool) : State :=
  let x := laneTxOf s l
  match x.sparing with
  | none => s
  | some (n, cause) =>
    if (cause == 2) != planned then s
    else
      let c := coreOf s l
      let s := setProp (setProp (setProp s sysObj pSystemLaneCore l n) sysObj pSystemCoreState n 0) sysObj pSystemCoreState c 2
      let s := setLaneTx s l { x with sparing := none, waits := false, faulty := false, declared := none }
      let s := if planned then s else (portsOnLane s l).foldl cutOpen s
      let s := postEvent s 0x1311 sysObj (l + c * 256 + n * 65536 + cause * 2 ^ 24)
      match workOf s 0 c with
      | some w => putWork s { w with spare := some n, test := true }
      | none => putWork s ⟨0, c, some n, planned, true, none, 0, 0, none⟩

/-- Begin a planned switchover of a core (R265). -/
def planLane (s : State) (c : Nat) (req : Option (Nat × Nat)) : Option State :=
  match (List.range 96).find? fun l => coreOf s l == c with
  | none => none
  | some l =>
    if getProp s sysObj pSystemCoreState c ≠ 0 ∨ (laneTxOf s l).sparing.isSome ∨ unitBusy s 0 c then none
    else match freeCore s l with
      | none => none
      | some n =>
        some (putWork (setLaneTx s l { laneTxOf s l with sparing := some (n, 2) }) ⟨0, c, some n, true, false, req, 0, 0, none⟩)

/-! ### Ageing (R447) -/

/-- The island of a unit of kinds 2 to 6. -/
def engineIsland (kind index : Nat) : Nat :=
  let isl := if index < 64 then index / 8 else index - 64
  (if kind = 5 then 12 else 20) + isl

end Sys2Proof.Machine
end

