-- ==== Sys2Proof/Machine/FrameStore.lean ====
section
/-! DEFINITION. The frame store's controllers: address decode, queues, scheduling, refresh, errors, freezing, spares and
planned copies (R346 to R365, R444). -/

namespace Sys2Proof.Machine

/-! ### Address decode (R346) -/

/-- Where a burst lies in its pseudo-channel. -/
structure FsPlace where
  lpc : Nat
  pc : Nat
  sid : Nat
  bg : Nat
  bank : Nat
  row : Nat
  col : Nat
deriving DecidableEq, Repr

/-- The decode of a frame-store address. -/
def fsDecode (s : State) (a : Nat) : FsPlace :=
  let c := a / 4096
  let lpc := c % 120
  let o := c / 120 * 4096 + a % 4096
  let pc := pcOfLpc s lpc
  let bb (k : Nat) : Nat := parity 32 (o &&& getPropN s sysObj pSystemFsBankMasks (4 * (pc / 32) + k))
  let q := o / 2 ^ 14
  ⟨lpc, pc, q / 24576, bb 2 + 2 * bb 3, bb 0 + 2 * bb 1, q % 24576, o / 64 % 16⟩

/-- Whether a logical pseudo-channel stays frozen: nothing has replaced what failed, released or not (R359, R361). -/
def lpcDead (s : State) (lpc : Nat) : Bool := s.fsMoves.any fun v => v.lpc == lpc && !v.planned && !v.mapped

/-- The logical pseudo-channel that a physical one serves. -/
def lpcOf (s : State) (pc : Nat) : Option Nat := (List.range 120).find? fun l => pcOfLpc s l == pc && !lpcDead s l

def fsState (s : State) (pc : Nat) : Nat := getPropN s sysObj pSystemFsPcState pc
def setFsState (s : State) (pc v : Nat) : State := setProp s sysObj pSystemFsPcState pc v

def pcRt0 : PcRt := ⟨[], [], [], [], [], [], 0, [], 0, none, none⟩
def pcRt (s : State) (pc : Nat) : PcRt := mapGetD s.pcs pc pcRt0
def setPcRt (s : State) (pc : Nat) (x : PcRt) : State := { s with pcs := mapPut s.pcs pc x }

/-! ### Urgency and order (R351, R352, R357) -/

def portClass (r : FsRequest) : Nat := r.port / 32

/-- The deadline that governs a request (Table 16.3): carried by head and egress requests, a target otherwise. -/
def withDeadline (s : State) (r : FsRequest) : FsRequest :=
  let el : Option Nat := match portClass r with
    | 0 => some 0 | 1 => some 1 | 2 => some 2 | 4 => some 3 | 5 => some 4 | _ => none
  match el with
  | some k => { r with deadline := r.issue + getPropN s sysObj pSystemFsLatencyTarget k * nsT }
  | none => r

/-- The urgency of a request. -/
def urgency (now : Ticks) (r : FsRequest) : Nat :=
  let T := r.deadline - r.issue
  let left := r.deadline - now
  let u := if r.deadline ≤ now then 3
    else if 3 * T ≤ 4 * left then 0
    else if T ≤ 2 * left then 1
    else if T ≤ 4 * left then 2
    else 3
  if portClass r = 4 ∨ portClass r = 5 then max u (r.qos / 4) else u

/-- The bank of a request within its pseudo-channel, as a key. -/
def bankKey (p : FsPlace) : Nat := p.sid * 16 + p.bg * 4 + p.bank

/-- Whether no hazard holds an operation: older overlapping writes hold it, and older overlapping reads hold a write. -/
def canIssue (x : PcRt) (o : FsOp) : Bool :=
  let older (p : FsOp) : Bool := p.req.addr / 64 == o.req.addr / 64 && decide (p.order < o.order)
  !(x.writes.any older) && !(o.req.write && x.reads.any older)

/-- Whether the first of two operations is chosen before the second. -/
def betterOp (s : State) (x : PcRt) (a b : FsOp) : Bool :=
  let ua := urgency s.now a.req
  let ub := urgency s.now b.req
  let head (o : FsOp) : Bool := portClass o.req == 3
  let opened (o : FsOp) : Bool :=
    let p := fsDecode s o.req.addr
    mapGet x.rows (bankKey p) == some p.row
  if ua ≠ ub then decide (ub < ua)
  else if ua = 3 ∧ head a ≠ head b then head a
  else if opened a ≠ opened b then opened a
  else decide (a.order < b.order)

/-- The operation that the scheduler chooses; an operation whose command failed is reissued first (R355). -/
def chooseOp (s : State) (x : PcRt) : Option FsOp :=
  match x.failing with
  | o :: _ => some o
  | [] =>
    ((x.reads ++ x.writes).filter (canIssue x)).foldl (fun best o =>
      match best with
      | some b => if betterOp s x o b then some o else some b
      | none => some o) none

/-! ### The command log (Table 16.5) -/

def logEntry (s : State) (kind : Nat) (p : FsPlace) (port urg tries tag : Nat) (failed : Bool) : FsEntry :=
  ⟨s.now / nsT % 2 ^ 32, kind, p.sid + p.bg * 4 + p.bank * 16 + bit01 failed * 128, p.row, p.col, port, urg, tries, tag⟩

def addLog (s : State) (pc : Nat) (e : FsEntry) : State :=
  let x := pcRt s pc
  setPcRt s pc { x with log := (e :: x.log).take 64 }

/-- The entry of a queued operation. -/
def queueEntry (s : State) (o : FsOp) : FsEntry :=
  let p := fsDecode s o.req.addr
  ⟨o.arrived / nsT % 2 ^ 32, bit01 o.req.write, p.sid + p.bg * 4 + p.bank * 16, p.row, p.col, o.req.port,
    urgency s.now o.req, min o.tries 255, o.req.tag⟩

def entryBytes (e : FsEntry) : List Byte :=
  toLe 4 e.time ++ toLe 1 e.kind ++ toLe 1 e.place ++ toLe 2 e.row ++ toLe 1 e.col ++ toLe 1 e.port ++ toLe 1 e.urgency ++
    toLe 1 e.tries ++ toLe 4 e.tag

/-- The 2,880 bytes of a snapshot (Table 16.4). -/
def snapBytes (x : FsSnap) : List Byte :=
  let fill (n : Nat) (es : List FsEntry) : List Byte := padTo (16 * n) (es.flatMap entryBytes)
  toLe 2 x.pc ++ toLe 1 x.cause ++ toLe 1 x.reads.length ++ toLe 1 x.writes.length ++ toLe 3 0 ++
    wordBytes (timeWords x.at') ++ toLe 8 0 ++ fill 64 x.log ++ fill 64 x.reads ++ fill 48 x.writes ++ List.replicate 32 0

/-- `system.fs_diag`: the snapshot of the selected pseudo-channel. -/
def fsDiag (s : State) : List Byte :=
  match s.snaps.find? fun x => x.pc == getPropN s sysObj pSystemFsDiagSelect with
  | some x => snapBytes x
  | none => List.replicate 2880 0

/-! ### Issue (R352, R358) -/

/-- An activate, and the neighbour refreshes that a draw of the entropy source selects. -/
def activate (s : State) (pc : Nat) (p : FsPlace) (o : FsOp) : State :=
  let x := pcRt s pc
  let key := bankKey p
  let entry (s : State) (kind row : Nat) : FsEntry := logEntry s kind { p with row := row } o.req.port (urgency s.now o.req) o.tries o.req.tag false
  let s := match mapGet x.rows key with
    | some old => addLog s pc (entry s 3 old)
    | none => s
  let s := addLog s pc (entry s 2 p.row)
  let s := setPcRt s pc { pcRt s pc with rows := mapPut (pcRt s pc).rows key p.row }
  let (draw, s) := freshValue s
  if draw % 2 ^ getPropN s sysObj pSystemFsRdProb ≠ 0 then s
  else
    let span := getPropN s sysObj pSystemFsRdSpan
    let rows := (List.range span).flatMap fun k =>
      (if k + 1 ≤ p.row then [p.row - (k + 1)] else []) ++ (if p.row + k + 1 ≤ 24575 then [p.row + k + 1] else [])
    rows.foldl (fun s r => bumpProp (addLog s pc (entry s 5 r)) sysObj pSystemFsRdRefreshes pc) s

/-- Whether a pseudo-channel's operations complete without reaching it. -/
def fsFrozen (s : State) (pc : Nat) : Bool := fsState s pc == 2

/-- Issue an operation: its row is opened where it must be, and a write lands. -/
def issueOp (s : State) (pc : Nat) (o : FsOp) : State :=
  let x := pcRt s pc
  let p := fsDecode s o.req.addr
  let keep (l : List FsOp) : List FsOp := l.filter fun q => decide (q.order ≠ o.order)
  let s := setPcRt s pc { x with reads := keep x.reads, writes := keep x.writes, failing := keep x.failing, fails := 0 }
  let s := if mapGet x.rows (bankKey p) = some p.row then s else activate s pc p o
  let s := addLog s pc (logEntry s (bit01 o.req.write) p o.req.port (urgency s.now o.req) (min (o.tries + 1) 255) o.req.tag false)
  if o.req.write then { s with frame := memWrite s.frame o.req.addr (o.req.data.take (64 - o.req.addr % 64)) } else s

/-- The pseudo-channels of a stack. -/
def stackPcs (pc : Nat) : List Nat := (List.range 32).map (pc / 32 * 32 + ·)

/-- Whether a port of a stack controller is stalled by a request older than one order at one pseudo-channel. -/
def portStalled (s : State) (pc port : Nat) (before : Option FsOp) : Bool :=
  (stackPcs pc).any fun q => (pcRt s q).stalled.any fun o => o.req.port == port && match before with
    | none => true
    | some b => decide (o.arrived < b.arrived ∨ o.arrived = b.arrived ∧ q = pc ∧ o.order < b.order)

/-- Whether a pseudo-channel's queue has room for an operation (R350). -/
def queueRoom (x : PcRt) (o : FsOp) : Bool :=
  if o.req.write then decide (x.writes.length < 48) else decide (x.reads.length < 64)

def enqueue (x : PcRt) (o : FsOp) : PcRt :=
  if o.req.write then { x with writes := x.writes ++ [o] } else { x with reads := x.reads ++ [o] }

/-- A request arrives: completed at once where the pseudo-channel, physical or logical, is frozen, queued, or stalled with its port. -/
def arrive (s : State) (pc : Nat) (r : FsRequest) : State :=
  if (fsDecode s r.addr).pc ≠ pc ∨ 144955146240 ≤ r.addr ∨ fsFrozen s pc ∨ lpcDead s (fsDecode s r.addr).lpc then s
  else
    let x := pcRt s pc
    let o : FsOp := ⟨withDeadline s r, x.count, s.now, 0⟩
    let x := { x with count := x.count + 1 }
    if portStalled s pc r.port none || !queueRoom x o then setPcRt s pc { x with stalled := x.stalled ++ [o] }
    else setPcRt s pc (enqueue x o)

/-- Stalled requests enter the queues as room appears, each port's in order. -/
def unstall (s : State) (pc : Nat) : State :=
  (pcRt s pc).stalled.foldl (fun s o =>
    let x := pcRt s pc
    if queueRoom x o && !portStalled s pc o.req.port (some o) then
      setPcRt s pc (enqueue { x with stalled := x.stalled.filter fun q => decide (q.order ≠ o.order) } o)
    else s) s

/-- FS_COMMAND_SLOT: what has arrived, and the operation that the scheduler issues. -/
def commandSlot (s : State) (pc : Nat) (arrivals : List FsRequest) (corrected : Bool) : State :=
  let s := arrivals.foldl (fun s r => arrive s pc r) s
  if fsFrozen s pc then s
  else
    let s := unstall s pc
    match chooseOp s (pcRt s pc) with
    | none => s
    | some o =>
      let s := unstall (issueOp s pc o) pc
      if corrected && !o.req.write then bumpProp s sysObj pSystemFsEccCorrected pc else s

/-! ### Refresh, training and temperature (R353, R354) -/

/-- FS_REFRESH: every row closes; timing tracking visits once in 2 ms, within the stall. -/
def refreshStep (s : State) (pc : Nat) : State :=
  let none' : FsPlace := ⟨0, pc, 0, 0, 0, 0, 0⟩
  let s := addLog s pc (logEntry s 4 none' 0 0 0 0 false)
  let x := pcRt s pc
  let s := setPcRt s pc { x with rows := [], refreshed := some s.now }
  let due : Bool := match x.trained with | none => true | some t => decide (t + 2 * msT ≤ s.now)
  if due && fsState s pc ≤ 1 then
    let s := addLog s pc (logEntry s 6 none' 0 0 0 0 false)
    setPcRt s pc { pcRt s pc with trained := some s.now }
  else s

/-- FS_TEMP_READ. -/
def tempRead (s : State) (stack : Nat) (c : Int) : State :=
  let c := clampInt (-32768) 32767 c
  let s := setProp s sysObj pSystemFsTemp stack c
  let hot := getPropN s sysObj pSystemFsHot
  let on := if bitOf hot stack then decide (83 < c) else decide (85 < c)
  if bitOf hot stack = on then s
  else postEvent (setProp s sysObj pSystemFsHot 0 (setBit hot stack on : Nat)) 0x1344 sysObj
    (stack + bit01 on * 256 + twos 16 c * 65536)

/-! ### Freezing and spares (R359 to R362) -/

/-- Bytes of the frame store that lie in a logical pseudo-channel hold nothing any more. -/
def clearLpc (m : Mem) (lpc : Nat) : Mem := m.filter fun c => decide (c.1 / 4096 % 120 ≠ lpc)

/-- While a logical pseudo-channel is frozen and unreplaced, its reads deliver zeros and its writes are not performed. -/
def dropFrozen (s : State) : State :=
  s.fsMoves.foldl (fun s v => if !v.planned && !v.mapped then { s with frame := clearLpc s.frame v.lpc } else s) s

def moveOf (s : State) (lpc : Nat) : Option FsMove := s.fsMoves.find? fun v => v.lpc == lpc
def putMove (s : State) (v : FsMove) : State :=
  { s with fsMoves := (s.fsMoves.filter fun w => decide (w.lpc ≠ v.lpc)) ++ [v] }
def dropMove (s : State) (lpc : Nat) : State := { s with fsMoves := s.fsMoves.filter fun w => decide (w.lpc ≠ lpc) }
def addStale (s : State) (lpc : Nat) : State :=
  if s.fsStale.contains lpc then s else { s with fsStale := s.fsStale ++ [lpc] }

/-- A pseudo-channel freezes: a snapshot, and every queued operation completed. -/
def freezePc (s : State) (pc cause : Nat) : State :=
  match lpcOf s pc with
  | none => s
  | some lpc =>
    if fsState s pc ≠ 0 then s
    else
      let x := pcRt s pc
      let kept := decide (s.snaps.length < 8)
      let again (write : Bool) : List FsOp := x.failing.filter fun o => o.req.write == write
      let snap : FsSnap := ⟨pc, cause, s.now, x.log.reverse, ((again false ++ x.reads).take 64).map (queueEntry s),
        ((again true ++ x.writes).take 48).map (queueEntry s)⟩
      let s := { s with snaps := if kept then s.snaps ++ [snap] else s.snaps }
      let s := setFsState s pc 2
      let s := setPcRt s pc { x with reads := [], writes := [], stalled := [], failing := [], rows := [], fails := 0 }
      let spare := match moveOf s lpc with | some v => v.spare | none => none
      let s := putMove s ⟨lpc, pc, spare, false, false, false, cause, kept⟩
      dropFrozen (addStale s lpc)

/-- Take an operation out of a pseudo-channel by its tag. -/
def opByTag (x : PcRt) (tag : Nat) : Option FsOp :=
  (x.failing ++ x.reads ++ x.writes).find? fun o => o.req.tag == tag
def removeOp (x : PcRt) (o : FsOp) : PcRt :=
  let keep (l : List FsOp) : List FsOp := l.filter fun q => decide (q.order ≠ o.order)
  { x with reads := keep x.reads, writes := keep x.writes, failing := keep x.failing }

/-- FS_PARITY_FAIL: an attempt of an operation fails; the fourth in a row freezes the pseudo-channel (R355). -/
def parityFail (s : State) (pc tag : Nat) : State :=
  let x := pcRt s pc
  if x.dead.contains tag then lateDiscard (setPcRt s pc { x with dead := x.dead.erase tag })
  else
    match opByTag x tag with
    | none => s
    | some o =>
      let p := fsDecode s o.req.addr
      let o' := { o with tries := o.tries + 1, arrived := if o.tries = 0 then s.now else o.arrived }
      let s := setPcRt s pc { removeOp x o with failing := (x.failing.filter fun q => decide (q.order ≠ o.order)) ++ [o'], fails := x.fails + 1 }
      let s := addLog s pc (logEntry s (bit01 o.req.write) p o.req.port (urgency s.now o.req) (min o'.tries 255) tag true)
      let s := bumpProp s sysObj pSystemFsParityRetries pc
      if 4 ≤ x.fails + 1 then freezePc s pc 0 else s

/-- FS_PARITY_BUDGET_END: the operation completes as abandoned (R355). -/
def parityBudgetEnd (s : State) (pc tag : Nat) : State :=
  let x := pcRt s pc
  match x.failing.find? fun o => o.req.tag == tag with
  | none => s
  | some o =>
    if s.now < o.arrived + (o.req.deadline - o.req.issue) / 4 then s
    else
      let s := setPcRt s pc { removeOp x o with dead := x.dead ++ [tag] }
      if o.req.control && o.req.write then addStale s (fsDecode s o.req.addr).lpc else s

/-- FS_UNCORRECTABLE: the data is delivered as returned, or a control read served from the other copy; the
pseudo-channel freezes (R356). -/
def uncorrectable (s : State) (pc tag : Nat) : State :=
  let x := pcRt s pc
  let s := if x.dead.contains tag then lateDiscard (setPcRt s pc { x with dead := x.dead.erase tag })
    else match opByTag x tag with
      | some o => if o.req.write then s else setPcRt s pc (removeOp x o)
      | none => s
  freezePc s pc 1

/-- Whether a pseudo-channel is a free spare that no move has chosen. -/
def sparePcFree (s : State) (q : Nat) : Bool :=
  fsState s q == 1 && !s.fsMoves.any (fun v => v.spare == some q && !v.mapped) && !unitBusy s 1 q

/-- The free spare for a pseudo-channel: of its own stack, else of another, lowest number first (R360). -/
def sparePc (s : State) (pc : Nat) : Option Nat :=
  match (stackPcs pc).find? (sparePcFree s) with
  | some q => some q
  | none => (List.range 128).find? (sparePcFree s)

/-- FS_SPARE_IN: firmware's part of a freeze. -/
def spareIn (s : State) (pc : Nat) : State :=
  match s.fsMoves.find? fun v => v.old == pc && !v.planned && !v.mapped && !v.marked with
  | none => s
  | some v =>
    let lost := (s.surfs.filter fun e => surfInPc s e.2 pc).length
    let s := postEvent s 0x1340 sysObj (pc + v.lpc * 256 + v.cause * 32768 + bit01 (!v.kept) * 65536 + lost * 2 ^ 32)
    let s := loseSurfaces s pc
    let s := (s.surfs.filter fun e => surfInPc s e.2 pc).foldl (fun s e => dropWaiting s e.1) s
    match (match v.spare with | some q => if fsState s q = 1 then some q else sparePc s pc | none => sparePc s pc) with
    | none => postEvent (putMove s { v with marked := true, spare := none }) 0x1343 sysObj (pc + v.lpc * 256)
    | some q =>
      let s := setFsState (setProp s sysObj pSystemFsPcMap v.lpc q) q 0
      let s := putMove { s with frame := clearLpc s.frame v.lpc } { v with marked := true, mapped := true, spare := some q }
      -- a surface that touches no other unreplaced pseudo-channel may be claimed again
      let dead := (s.fsMoves.filter fun w => !w.planned && !w.mapped).map (·.old)
      let s := { s with surfs := s.surfs.map fun e =>
        (e.1, if e.2.frozen && !dead.any (surfInPc s e.2) then { e.2 with frozen := false } else e.2) }
      postEvent s 0x1341 sysObj (pc + q * 256 + v.lpc * 65536)

/-- FS_MIRROR: the control copies of a replaced pseudo-channel are whole again. -/
def mirrorStep (s : State) (pc : Nat) : State :=
  match s.fsMoves.find? fun v => v.old == pc && v.mapped with
  | some v =>
    let kib := ((s.ctl.filter fun r => r.lpc == v.lpc).map fun r => r.pages * 4).sum
    let s := dropMove { s with fsStale := s.fsStale.filter fun l => decide (l ≠ v.lpc) } v.lpc
    postEvent s 0x1342 sysObj (v.lpc * 256 + kib % 2 ^ 32 * 2 ^ 32)
  | none =>
    -- copies that an abandoned write left behind are rewritten without an event
    match lpcOf s pc with
    | some l => if (moveOf s l).isNone then { s with fsStale := s.fsStale.filter fun k => decide (k ≠ l) } else s
    | none => s

/-- `system.fs_release` (R362): the snapshot is freed, and the pseudo-channel is gloved for its test. -/
def releasePc (s : State) (pc : Nat) : State :=
  if fsState s pc ≠ 2 then s
  else
    let s := setFsState { s with snaps := s.snaps.filter fun x => decide (x.pc ≠ pc) } pc 3
    match workOf s 1 pc with
    | some w => putWork s { w with test := true }
    | none => putWork s ⟨1, pc, none, false, true, none, 0, 0, none⟩

/-! ### Planned copies (R444) -/

/-- Begin a planned MIGRATE of a pseudo-channel to a spare that `choose` finds: none where it does not fit. -/
def planPcTo (s : State) (pc : Nat) (req : Option (Nat × Nat)) (choose : Option Nat) : Option State :=
  match lpcOf s pc with
  | none => none
  | some lpc =>
    if fsState s pc ≠ 0 ∨ (moveOf s lpc).isSome ∨ unitBusy s 1 pc then none
    else match choose with
      | none => none
      | some q => some (putWork (putMove s ⟨lpc, pc, some q, false, true, false, 0, false⟩) ⟨1, pc, some q, true, false, req, 0, 0, none⟩)

/-- Begin a planned MIGRATE of a pseudo-channel. -/
def planPc (s : State) (pc : Nat) (req : Option (Nat × Nat)) : Option State := planPcTo s pc req (sparePc s pc)

/-- FS_MIGRATE_COPY_DONE: the map entry changes, and the old pseudo-channel is gloved and tested. -/
def copyDone (s : State) (pc : Nat) : State :=
  match s.fsMoves.find? fun v => v.old == pc && v.planned with
  | none => s
  | some v =>
    match v.spare with
    | none => s
    | some q =>
      let s := setFsState (setFsState (setProp s sysObj pSystemFsPcMap v.lpc q) q 0) pc 3
      let s := dropMove s v.lpc
      let w := (workOf s 1 pc).getD ⟨1, pc, some q, true, false, none, 0, 0, none⟩
      -- the queues of the old pseudo-channel go to the spare
      let x := pcRt s pc
      let s := setPcRt (setPcRt s q { pcRt s q with reads := x.reads, writes := x.writes, stalled := x.stalled, failing := x.failing, count := x.count })
        pc { x with reads := [], writes := [], stalled := [], failing := [], rows := [] }
      postEvent (putWork s { w with test := true }) 0x1383 sysObj (1 + pc * 256 + q * 65536 + 2 ^ 24)

end Sys2Proof.Machine
end

