-- ==== Sys2Proof/Machine/Crypto.lean ====
section
/-! DEFINITION. The keyring's cryptography: SHA-384, HMAC, HKDF (RFC 5869), ECDSA on P-384 with deterministic nonces
(RFC 6979), as R387, R391 and R393 name them. The algorithms are those of the published standards. -/

namespace Sys2Proof.Machine

/-! ### SHA-384

The standard defines its constants as bits of the roots of primes; they are computed here in that form. -/

/-- The first 80 primes: below 410, those that no prime below 20 divides, and those primes themselves. -/
def hashPrimes : List Nat :=
  (List.range 410).filter fun p => decide (2 ≤ p) && [2, 3, 5, 7, 11, 13, 17, 19].all fun d => p % d != 0 || p == d

/-- The first 64 bits after the point of the k-th root of p, found bit by bit from the highest. -/
def rootBits (k p : Nat) : Nat :=
  (List.range 68).foldr (fun b r => if (r + 2 ^ b) ^ k ≤ p * 2 ^ (64 * k) then r + 2 ^ b else r) 0 % 2 ^ 64

/-- The constant of each round: a cube root. -/
def roundConstants : List Nat := hashPrimes.map (rootBits 3)

/-- The eight words that SHA-384 starts from: the square roots of the ninth to the sixteenth prime. -/
def hashStart : List Nat := ((hashPrimes.drop 8).take 8).map (rootBits 2)

/-- The sum of rotations of a 64-bit word to the right, modulo 2 bit by bit. -/
def turned (x : Nat) (by' : List Nat) : Nat :=
  by'.foldl (fun acc n => acc ^^^ (x / 2 ^ n ||| x * 2 ^ (64 - n) % 2 ^ 64)) 0

/-- One more word of the schedule, in front of the words so far, newest first. -/
def scheduleWord (ws : List Nat) : List Nat :=
  let near := atD ws 1 0
  let far := atD ws 14 0
  (((turned near [19, 61] ^^^ near / 64) + atD ws 6 0 + (turned far [1, 8] ^^^ far / 128) + atD ws 15 0) % 2 ^ 64) :: ws

/-- The 80 words that a block of 128 bytes gives, in order. -/
def hashSchedule (block : List Byte) : List Nat :=
  let first := (List.range 16).map fun i => beNat (slice block (8 * i) 8)
  ((List.range 64).foldl (fun ws _ => scheduleWord ws) first.reverse).reverse

/-- One round over the eight working words, with its constant and schedule word added up. -/
def hashRound (v : List Nat) (kw : Nat) : List Nat :=
  match v with
  | a :: b :: c :: d :: e :: f :: g :: h :: _ =>
    let chosen := e &&& f ||| (2 ^ 64 - 1 - e) &&& g
    let voted := (a ||| b) &&& c ||| a &&& b
    let t := h + turned e [14, 18, 41] + chosen + kw
    (t + turned a [28, 34, 39] + voted) % 2 ^ 64 :: a :: b :: c :: (d + t) % 2 ^ 64 :: [e, f, g]
  | _ => v

/-- The hash words after one block. -/
def hashBlock (v : List Nat) (block : List Byte) : List Nat :=
  let steps := List.zipWith (· + ·) roundConstants (hashSchedule block)
  List.zipWith (fun x y => (x + y) % 2 ^ 64) v (steps.foldl hashRound v)

/-- SHA-384: a one bit, zeros and the length in bits fill the last block; six of the eight words are the digest. -/
def sha384 (m : List Byte) : List Byte :=
  let zeros := (239 - m.length % 128) % 128
  let padded := m ++ 0x80#8 :: List.replicate zeros 0 ++ toBe 16 (8 * m.length)
  let blocks := (List.range (padded.length / 128)).map fun i => slice padded (128 * i) 128
  ((blocks.foldl hashBlock hashStart).take 6).flatMap (toBe 8)

/-- HMAC-SHA-384. -/
def hmac384 (key m : List Byte) : List Byte :=
  let k := padTo 128 (if 128 < key.length then sha384 key else key)
  sha384 (k.map (· ^^^ 0x5C#8) ++ sha384 (k.map (· ^^^ 0x36#8) ++ m))

/-- HKDF-Expand, by blocks. -/
def hkdfBlocks (prk info : List Byte) : Nat → Nat → List Byte → List Byte
  | 0, _, _ => []
  | n + 1, i, last =>
    let t := hmac384 prk (last ++ info ++ [BitVec.ofNat 8 i])
    t ++ hkdfBlocks prk info n (i + 1) t

/-- HKDF-SHA-384: `len` bytes of output. -/
def hkdf384 (salt ikm info : List Byte) (len : Nat) : List Byte :=
  (hkdfBlocks (hmac384 salt ikm) info (ceilDiv len 48) 1 []).take len

/-! ### P-384 -/

/-- The field, the order, the coefficient b and the base point. -/
def ecP : Nat := 2 ^ 384 - 2 ^ 128 - 2 ^ 96 + 2 ^ 32 - 1
def ecN : Nat := 0xFFFFFFFFFFFFFFFFFFFFFFFFFFFFFFFFFFFFFFFFFFFFFFFFC7634D81F4372DDF581A0DB248B0A77AECEC196ACCC52973
def ecB : Nat := 0xB3312FA7E23EE7E4988E056BE3F82D19181D9C6EFE8141120314088F5013875AC656398D8A2ED19D2A85C8EDD3EC2AEF
def ecGx : Nat := 0xAA87CA22BE8B05378EB1C71EF320AD746E1D3B628BA79B9859F741E082542A385502F25DBF55296C3A545E3872760AB7
def ecGy : Nat := 0x3617DE4A96262C6F5D9E98BF9292DC29F8F41DBD289A147CE9DA3113B5F0B8C00A60B1CE1D7E819D7A431D7C90EA0E5F

/-- b^e modulo m, e below 2^n. -/
def powMod (m : Nat) : Nat → Nat → Nat → Nat
  | 0, _, _ => 1 % m
  | n + 1, b, e => (if e % 2 = 1 then b else 1) * powMod m n (b * b % m) (e / 2) % m

/-- The inverse modulo a prime. -/
def invMod (m a : Nat) : Nat := powMod m 384 (a % m) (m - 2)

/-- Points in Jacobian coordinates; z = 0 is the point at infinity. -/
structure EcPoint where
  x : Nat
  y : Nat
  z : Nat
deriving DecidableEq, Repr

def ecInf : EcPoint := ⟨1, 1, 0⟩
def subP (a b : Nat) : Nat := (a + ecP - b % ecP) % ecP

def ecDouble (p : EcPoint) : EcPoint :=
  if p.z = 0 ∨ p.y = 0 then ecInf
  else
    let zz := p.z * p.z % ecP
    let yy := p.y * p.y % ecP
    let s := 4 * p.x * yy % ecP
    let m := 3 * subP p.x zz * (p.x + zz) % ecP
    let x := subP (m * m) (2 * s)
    ⟨x, subP (m * subP s x) (8 * yy * yy), 2 * p.y * p.z % ecP⟩

def ecAdd (p q : EcPoint) : EcPoint :=
  if p.z = 0 then q
  else if q.z = 0 then p
  else
    let z1 := p.z * p.z % ecP
    let z2 := q.z * q.z % ecP
    let u1 := p.x * z2 % ecP
    let u2 := q.x * z1 % ecP
    let s1 := p.y * q.z * z2 % ecP
    let s2 := q.y * p.z * z1 % ecP
    if u1 = u2 then (if s1 = s2 then ecDouble p else ecInf)
    else
      let h := subP u2 u1
      let r := subP s2 s1
      let hh := h * h % ecP
      let hhh := h * hh % ecP
      let v := u1 * hh % ecP
      let x := subP (subP (r * r) hhh) (2 * v)
      ⟨x, subP (r * subP v x) (s1 * hhh), p.z * q.z * h % ecP⟩

/-- k times a point, k below 2^n. -/
def ecMul : Nat → Nat → EcPoint → EcPoint
  | 0, _, _ => ecInf
  | n + 1, k, p => ecAdd (if k % 2 = 1 then p else ecInf) (ecMul n (k / 2) (ecDouble p))

/-- Affine coordinates. -/
def ecAffine (p : EcPoint) : Nat × Nat :=
  let i := invMod ecP p.z
  let ii := i * i % ecP
  (p.x * ii % ecP, p.y * ii * i % ecP)

def ecBase : EcPoint := ⟨ecGx, ecGy, 1⟩

/-- An uncompressed SEC 1 point. -/
def sec1 (p : Nat × Nat) : List Byte := 4#8 :: (toBe 48 p.1 ++ toBe 48 p.2)

/-- The public key of a private key. -/
def ecPublic (d : Nat) : List Byte := sec1 (ecAffine (ecMul 384 d ecBase))

/-- A point from its SEC 1 bytes, if it lies on the curve. -/
def ecOfSec1 (bs : List Byte) : Option EcPoint :=
  let x := beNat ((bs.drop 1).take 48)
  let y := beNat ((bs.drop 49).take 48)
  if bs.length = 97 ∧ bs.head? = some 4#8 ∧ x < ecP ∧ y < ecP ∧
    y * y % ecP = (x * x % ecP * x + (ecP - 3) * x + ecB) % ecP then some ⟨x, y, 1⟩ else none

/-- The candidates for the nonce of RFC 6979, for a digest of the order's own length. -/
def nonceGo : Nat → List Byte → List Byte → Nat
  | 0, _, _ => 1
  | n + 1, k, v =>
    let v := hmac384 k v
    let t := beNat v
    if 0 < t ∧ t < ecN then t
    else
      let k := hmac384 k (v ++ [0#8])
      nonceGo n k (hmac384 k v)

def nonce6979 (d : Nat) (digest : List Byte) : Nat :=
  let x := toBe 48 d ++ toBe 48 (beNat digest % ecN)
  let k0 := List.replicate 48 0#8
  let v0 := List.replicate 48 1#8
  let k1 := hmac384 k0 (v0 ++ [0#8] ++ x)
  let v1 := hmac384 k1 v0
  let k2 := hmac384 k1 (v1 ++ [1#8] ++ x)
  nonceGo 8 k2 (hmac384 k2 v1)

/-- An ECDSA signature over a message with SHA-384: r then s, 48 bytes each, big-endian. -/
def ecdsaSign (d : Nat) (m : List Byte) : List Byte :=
  let e := sha384 m
  let k := nonce6979 d e
  let r := (ecAffine (ecMul 384 k ecBase)).1 % ecN
  let s := invMod ecN k * (beNat e + r * d) % ecN
  toBe 48 r ++ toBe 48 s

/-- Whether a signature over a message verifies under a SEC 1 public key. -/
def ecdsaVerify (pub sig m : List Byte) : Bool :=
  let r := beNat (sig.take 48)
  let s := beNat ((sig.drop 48).take 48)
  match ecOfSec1 pub with
  | none => false
  | some q =>
    if r = 0 ∨ s = 0 ∨ ecN ≤ r ∨ ecN ≤ s then false
    else
      let w := invMod ecN s
      let p := ecAdd (ecMul 384 (beNat (sha384 m) * w % ecN) ecBase) (ecMul 384 (r * w % ecN) q)
      p.z != 0 && (ecAffine p).1 % ecN == r

/-- The bytes of an ASCII string. -/
def asciiBytes (t : String) : List Byte := t.toList.map fun c => BitVec.ofNat 8 c.toNat

end Sys2Proof.Machine
end

