-- ==== Sys2Proof/Machine/Keyring.lean ====
section
/-! DEFINITION. The keyring: OTP, keys, slots, images, the configuration digest and quotes (ch. 18); the RTC's reading. -/

namespace Sys2Proof.Machine

/-! ### The RTC (R328) -/

/-- The RTC in 1/32,768 s: it counts on from where it was last set. -/
def rtcNow (s : State) : Nat := s.tb.rtcTicks + (s.now - s.tb.rtcAt) * 32768 / secT
def rtcSec (s : State) : Nat := rtcNow s / 32768 % 2 ^ 48

/-- Set the RTC to a count at this instant. -/
def setRtc (s : State) (n : Nat) : State := { s with tb := { s.tb with rtcTicks := n, rtcAt := s.now } }

/-! ### OTP (R384) -/

/-- Set one bit of an OTP field: a bit is never cleared. -/
def otpBit (v k : Nat) : Nat := setBit v k true

def setKeys (s : State) (f : Keyring → Keyring) : State := { s with keys := f s.keys }
def setOtp (s : State) (f : Otp → Otp) : State := setKeys s fun k => { k with otp := f k.otp }

/-- What the properties read from OTP hold (R405). -/
def otpProps (s : State) : State :=
  let o := s.keys.otp
  let s := (List.range 48).foldl (fun s i =>
    setProp s sysObj pSystemOwnerKeyHash i (if o.ownerDone then ((o.owner / 256 ^ i % 256 : Nat) : Int) else 0)) s
  let s := setProp s sysObj pSystemRollbackFloor 0 o.rollback
  let s := setProp s sysObj pSystemVendorRevoke 0 o.revoke
  setProp (setProp s sysObj pSystemPufDays 0 o.days) sysObj pSystemPufDays 1 o.bankDay

/-- The owner key hash as bytes. -/
def ownerHash (s : State) : List Byte := if s.keys.otp.ownerDone then toLe 48 s.keys.otp.owner else List.replicate 48 0

/-- Burn an owner key hash: its bits, then its completion bit (R384, R396). -/
def burnOwner (s : State) (h : List Byte) : State :=
  otpProps (setOtp s fun o => { o with owner := o.owner ||| leNat h, ownerDone := true })

/-- Burn anti-rollback bits up to a value (R395). -/
def burnRollback (s : State) (v : Nat) : State := otpProps (setOtp s fun o => { o with rollback := max o.rollback (min v 255) })

/-- Burn a vendor revoke bit (R397). -/
def burnRevoke (s : State) (k : Nat) : State := otpProps (setOtp s fun o => { o with revoke := otpBit o.revoke k })

/-- Burn one operating day (R401). -/
def burnDay (s : State) : State := otpProps (setOtp s fun o => { o with days := max o.days (min (o.days + 1) 9132) })

/-- The newest completed helper bank, and the free bank after it. -/
def newestBank (o : Otp) : Nat := ((List.range 6).filter fun k => bitOf o.bankDone k).foldl max 0
def freeBank (o : Otp) : Option Nat := (List.range 6).find? fun k => !bitOf o.banks k

/-! ### Keys (R387, R388) -/

/-- ASCII labels of Table 18.2. -/
def labelIdentity : List Byte := asciiBytes "MNX9648 identity"
def labelAttest : List Byte := asciiBytes "MNX9648 attest"
def labelManifest : List Byte := asciiBytes "MNX9648 manifest"
def labelConfig : List Byte := asciiBytes "MNX9648 config"
def labelHost : List Byte := asciiBytes "MNX9648 host"

def serialBytes : List Byte := toLe 8 Config.serial

/-- The key material of a label: HKDF-SHA-384 of the seed, salted with the serial number. -/
def keyMaterial (label : List Byte) (n : Nat) : List Byte := hkdf384 serialBytes Config.seed label n

/-- The secret key of a label. -/
def secretOf (label : List Byte) : List Byte := (keyMaterial label 64).take 48

/-- The private key d of a label of the device's own. -/
def devicePrivate (label : List Byte) : Nat := beNat (keyMaterial label 64) % (ecN - 1) + 1

/-- The private key of a host label: its input is the secret of slot 6. -/
def hostPrivate (info : List Byte) : Nat :=
  beNat (hkdf384 serialBytes (secretOf labelHost) info 64) % (ecN - 1) + 1

/-! ### Slots (R388 to R391) -/

def slotObj (n : Nat) : ObjId := objId clsKeyslot n
def emptySlot : KeySlot := ⟨.empty, 0, 0, 0⟩
def slotOf (s : State) (n : Nat) : KeySlot := mapGetD s.keys.slots n emptySlot
def slotPolicy (s : State) (n : Nat) : Nat := getPropN s (slotObj n) pKeyslotPolicy

/-- The private key that a slot holds. -/
def slotPrivate (s : State) (n : Nat) : Option Nat :=
  match (slotOf s n).key with
  | .signing label => some (if n < 8 then devicePrivate label else hostPrivate label)
  | _ => none

/-- The public half of a slot: the SEC 1 point, or zeros. -/
def slotPublic (s : State) (n : Nat) : List Byte :=
  match (slotOf s n).key with
  | .verify p => padTo 97 p
  | _ => match slotPrivate s n with
    | some d => ecPublic d
    | none => List.replicate 97 0

/-- Its SHA-384, or zeros. -/
def slotKeyId (s : State) (n : Nat) : List Byte :=
  match (slotOf s n).key with
  | .empty | .secret _ => List.replicate 48 0
  | _ => sha384 (slotPublic s n)

/-- The DER certificate of a slot, zero-padded. -/
def slotCert (s : State) (n : Nat) : List Byte :=
  let c := (slotOf s n).cert
  if c = 0 then List.replicate 2048 0 else (List.range 2048).map (Config.certByte c)

/-- Put a key into a slot under a policy. -/
def setSlot (s : State) (n : Nat) (key : SlotKey) (policy cert : Nat) : State :=
  let old := slotOf s n
  setProp (setKeys s fun k => { k with slots := mapPut k.slots n { old with key := key, cert := cert } })
    (slotObj n) pKeyslotPolicy 0 policy

/-- Empty a slot. -/
def clearSlot (s : State) (n : Nat) : State := setSlot s n .empty 0 0

/-- Slot 0 issues a certificate. -/
def issueCert (s : State) : Nat × State :=
  let n := s.keys.certs + 1
  (n, setKeys s fun k => { k with certs := n })

/-- The info field of a host slot (R388). -/
def hostInfo (label : List Byte) (policy : Nat) : List Byte := labelHost ++ label ++ toLe 1 policy

/-- The label and policy byte that `keyslot.derive` of a host slot holds. -/
def hostLabel (s : State) (n : Nat) : List Byte :=
  (getProps s (slotObj n) pKeyslotDerive 0 32).map fun v => BitVec.ofNat 8 v.toNat
def hostPolicy (s : State) (n : Nat) : Nat := if getProp s (slotObj n) pKeyslotDerive 32 = 1 then 1 else 2

/-- Derive a host slot from its label, or empty it for an all-zero label (R388). -/
def deriveHost (s : State) (n : Nat) : State :=
  let label := hostLabel s n
  if label.all (· == 0) then clearSlot s n
  else
    let (c, s) := issueCert s
    setSlot s n (.signing (hostInfo label (hostPolicy s n))) (hostPolicy s n) c

/-- Set `system.keyring_state`; KEYRING_STATE at a change. -/
def setKeyringState (s : State) (v : Nat) : State :=
  if getPropN s sysObj pSystemKeyringState = v then s
  else postEvent (setProp s sysObj pSystemKeyringState 0 v) 0x1360 sysObj v

/-- The keyring can sign: READY or DEGRADED. -/
def keyringSigns (s : State) : Bool := decide (getPropN s sysObj pSystemKeyringState ≤ 1)

/-- The DRBG draws bytes. -/
def drawBytes : Nat → State → List Byte × State
  | 0, s => ([], s)
  | n + 1, s =>
    let (v, s) := freshValue s
    let (bs, s) := drawBytes n s
    (BitVec.ofNat 8 v :: bs, s)

/-- A new debug challenge (R400). -/
def newChallenge (s : State) : State :=
  let (bs, s) := drawBytes 32 s
  setKeys s fun k => { k with challenge := bs }

/-- The slots of Table 18.2 that come from the seed. -/
def deviceSlots (s : State) : State :=
  let ctx := (getPropsN s sysObj pSystemOwnerContext 48).map (BitVec.ofNat 8)
  let s := setSlot s 0 (.signing labelIdentity) 1 1
  let (c1, s) := issueCert s
  let s := setSlot s 1 (.signing labelAttest) 1 c1
  let (c2, s) := issueCert s
  let s := setSlot s 2 (.signing (labelManifest ++ ctx)) 2 c2
  setSlot (setSlot s 5 (.secret labelConfig) 5 0) 6 (.secret labelHost) 4 0

/-- Slots that hold private values. -/
def privateSlots : List Nat := [0, 1, 2, 5, 6] ++ (List.range 24).map (· + 8)

/-- A start of the keyring (R385, R386, R390): the seed, then the keys that follow from it. -/
def startKeyring (s : State) (seedOk : Bool) (corrected : Nat) : State :=
  let (k, s) := freshValue s
  let s := setKeys s fun x => { x with
    seed := seedOk, degraded := false, passes := 0, scramble := k
    slots := x.slots.map fun e => (e.1, { e.2 with due := s.now + 10 * msT }) }
  let s := setProp s sysObj pSystemPufCorrected 0 (min corrected 65535)
  let s := if Config.pufCapacity < 2 * corrected then
      postEvent s 0x1361 sysObj (min corrected 65535 + Config.pufCapacity % 65536 * 65536) else s
  let s := privateSlots.foldl clearSlot s
  if s.keys.zeroised then setKeyringState s 3
  else if !seedOk then setKeyringState s 2
  else
    let s := deviceSlots s
    let s := ((List.range 24).map (· + 8)).foldl deriveHost s
    setKeyringState s 0

/-! ### Images (R393) -/

/-- The fields of an image header (Table 18.4). -/
def imgField (h : List Byte) (start n : Nat) : Nat := fieldAt h start n
def imgBodyLen (h : List Byte) : Nat := imgField h 8 4
def imgRollback (h : List Byte) : Nat := imgField h 16 1
def imgCompat (h : List Byte) : Nat × Nat := (imgField h 18 2, imgField h 20 2)
def imgRelease (h : List Byte) : Nat := imgField h 22 2
def imgVendorPub (h : List Byte) : List Byte := slice h 80 97
def imgOwnerPub (h : List Byte) : List Byte := slice h 180 97

def zeroRange (h : List Byte) (a b : Nat) : Bool := (slice h a (b + 1 - a)).all (· == 0)

/-- Check 1: the header's fields and its reserved bytes. -/
def headerOk (h : List Byte) : Bool :=
  decide (h.length = 1024) && imgField h 0 4 == 0x494E5345 && imgField h 4 2 == 1 && imgField h 6 2 == 1024 &&
  decide (1 ≤ imgBodyLen h ∧ imgBodyLen h ≤ 4193280) && decide (imgField h 17 1 < 2) &&
  zeroRange h 24 31 && zeroRange h 177 179 && zeroRange h 277 511 &&
  zeroRange h 704 1023

/-- The vendor root that a public key hashes to, while its revoke bit is clear. -/
def vendorRootOf (s : State) (pub : List Byte) : Option Nat :=
  (List.range 4).find? fun k => sha384 pub == padTo 48 (Config.vendorRoot k) && !bitOf s.keys.otp.revoke k

/-- Check 4: the owner's signature while an owner key is enrolled. -/
def ownerOk (s : State) (h : List Byte) : Bool :=
  !s.keys.otp.ownerDone ||
  (bitOf (imgField h 17 1) 0 && sha384 (imgOwnerPub h) == ownerHash s &&
    ecdsaVerify (imgOwnerPub h) (slice h 608 96) (h.take 512))

/-- The checks of R393 in order: the vendor root, or the boot failure code. -/
def verifyImage (s : State) (h body : List Byte) : Nat ⊕ Nat :=
  if !headerOk h || body.length != imgBodyLen h then .inl 0x02
  else match vendorRootOf s (imgVendorPub h) with
    | none => .inl 0x03
    | some k =>
      if !ecdsaVerify (imgVendorPub h) (slice h 512 96) (h.take 512) then .inl 0x03
      else if !ownerOk s h then .inl 0x03
      else if sha384 body != slice h 32 48 then .inl 0x03
      else if imgRollback h < s.keys.otp.rollback then .inl 0x04
      else .inr k

/-- The firmware measurement (R393). -/
def measureOf (h : List Byte) : List Byte := sha384 (h.take 512)

/-- A verified image starts: its measurement is recorded and slots 3 and 4 take its public keys. -/
def recordImage (s : State) (h : List Byte) (root : Nat) : State :=
  let s := setKeys s fun k => { k with measured := measureOf h }
  let s := { s with cc := { s.cc with image := h, root := root } }
  let s := setSlot s 3 (.verify (imgVendorPub h)) 3 0
  if s.keys.otp.ownerDone then setSlot s 4 (.verify (imgOwnerPub h)) 3 0 else clearSlot s 4

def fwMeasurement (s : State) : List Byte := padTo 48 s.keys.measured

/-! ### The configuration digest (R398) -/

/-- The effective value of an element of a property that is not read-only. -/
def effectiveValue (s : State) (o : ObjId) (pid idx : Nat) : Int :=
  if !propApplies s o pid then propDefault o pid idx
  else if objCls o = clsSurface ∧ pid = pSurfaceMtcMode then match surfOf s o with | some f => f.mtc | none => 0
  else if objCls o = clsRing ∧ pid = pRingMtcMode then match ringOf s o with | some r => r.mtc | none => 0
  else getProp s o pid idx

/-- The entry of one property of one object. -/
def digestEntry (s : State) (o : ObjId) (r : PropRow) : List Byte :=
  toLe 4 o ++ toLe 2 r.pid ++ toLe 4 (r.n * r.ty.size) ++
    (List.range r.n).flatMap fun i => toLe r.ty.size (r.ty.encode (effectiveValue s o r.pid i))

/-- Every entry, in ascending class, instance and property ID. -/
def digestBytes (s : State) : List Byte :=
  ((List.range 19).map (· + 1)).flatMap fun cls => (objsOf s cls).flatMap fun o =>
    ((propTable cls).filter fun r => !r.ro && decide (r.surv ≠ 0)).flatMap (digestEntry s o)

def configDigest (s : State) : List Byte := sha384 (digestBytes s)

/-! ### Signing (R391, R399) -/

/-- A time in the 16-byte form of Table 13.4. -/
def time16 (t : Ticks) : List Byte := wordBytes (timeWords t)

/-- Sign the first 416 bytes of a 512-byte record with a slot. -/
def signRecord (s : State) (n : Nat) (body : List Byte) : List Byte :=
  match slotPrivate s n with
  | some d => ecdsaSign d body
  | none => List.replicate 96 0

/-- Bytes 0 to 415 of a quote (Table 18.5). -/
def quoteBody (s : State) (n : Nat) (nonce : List Byte) (seq : Nat) : List Byte :=
  let img := s.cc.image
  let o := s.keys.otp
  let flags := bit01 s.keys.unlocked + 2 * bit01 o.ownerDone + 4 * bit01 (getProp s sysObj pSystemRtcState != 2) +
    8 * bit01 (s.cc.source == 3) + 16 * bit01 s.keys.degraded + 32 * bit01 (s.cc.recoveries != 0)
  toLe 4 0x51584E4D ++ toLe 2 1 ++ toLe 2 512 ++ serialBytes ++ toLe 2 (getPropN s sysObj pSystemCompatLevel) ++
    toLe 2 (imgRelease img) ++ toLe 1 (imgRollback img) ++ toLe 1 o.rollback ++ toLe 1 (popCount 6 o.bankDone - 1) ++
    toLe 1 flags ++ toLe 4 seq ++ toLe 4 0 ++ padTo 48 nonce ++ sha384 Config.bootRom ++ fwMeasurement s ++ configDigest s ++
    toLe 8 (rtcSec s) ++ toLe 4 (rtcNow s % 32768) ++ time16 s.now ++ toLe 4 0 ++ ownerHash s ++ slotKeyId s n ++
    List.replicate 64 0

/-- Build and sign a quote: its bytes, its sequence number, and the state that has counted it. -/
def makeQuote (s : State) (n : Nat) (nonce : List Byte) : List Byte × Nat × State :=
  let seq := s.keys.quotes + 1
  let body := quoteBody s n nonce seq
  (body ++ signRecord s n body, seq, setKeys s fun k => { k with quotes := seq })

/-- Debug unlock (R400): one attempt for each challenge. True: the device is unlocked and zeroised. -/
def debugUnlock (s : State) (value : List Byte) : Bool × State :=
  let n := fieldAt value 0 1
  let ok := (n == 3 || n == 4) && (match (slotOf s n).key with
    | .verify p => ecdsaVerify p (slice value 1 96) (s.keys.challenge ++ serialBytes)
    | _ => false)
  let s := newChallenge s
  if ok then
    let s := privateSlots.foldl clearSlot s
    (true, setKeyringState (setKeys s fun k => { k with zeroised := true, unlocked := true }) 3)
  else (false, s)

/-- A slot's mask is replaced when it is due (R390). -/
def remaskSlot (s : State) (n mask : Nat) : State :=
  let x := slotOf s n
  if s.now < x.due then s
  else setKeys s fun k => { k with slots := mapPut k.slots n { x with mask := mask, due := x.due + 10 * msT } }

/-- The DRBG reseeds; DEGRADED continues from the last seed (R392). -/
def reseedDrbg (s : State) : State :=
  if s.keys.degraded then s
  else
    let (v, s) := freshValue s
    setKeys s fun k => { k with drbg := v }

/-- A health test ends (R392). -/
def healthStep (s : State) (pass : Bool) : State :=
  let up (s : State) (d : Bool) : State :=
    let s := setKeys s fun k => { k with degraded := d }
    if 2 ≤ getPropN s sysObj pSystemKeyringState then s else setKeyringState s (bit01 d)
  if !pass then up (setKeys s fun k => { k with passes := 0 }) true
  else
    let n := s.keys.passes + 1
    let s := setKeys s fun k => { k with passes := min n 1024 }
    if s.keys.degraded && decide (1024 ≤ n) then up s false else s

/-! ### Re-enrolment (R402) -/

/-- Whether re-enrolment may start. -/
def canReenrol (s : State) : Bool :=
  let o := s.keys.otp
  getProp s sysObj pSystemKeyringState == 0 && (s.cc.source == 1 || s.cc.source == 2) && !s.keys.unlockReset &&
  (freeBank o).isSome && decide (o.bankDay + 1826 ≤ o.days)

/-- The free bank is begun. -/
def beginReenrol (s : State) : State :=
  match freeBank s.keys.otp with
  | some b => setKeys (setOtp s fun o => { o with banks := otpBit o.banks b }) fun k => { k with reenrolling := true }
  | none => s

/-- Re-enrolment ends: the completion bit is burnt last, or the older bank stays in use. -/
def endReenrol (s : State) (seedOk : Bool) : State :=
  let s := setKeys s fun k => { k with reenrolling := false }
  if !seedOk then s
  else
    let b := ((List.range 6).filter fun k => bitOf s.keys.otp.banks k).foldl max 0
    otpProps (setOtp s fun o => { o with bankDone := otpBit o.bankDone b, bankDay := max o.bankDay o.days })

end Sys2Proof.Machine
end

