-- ==== Sys2Proof/Machine/Capture.lean ====
section
/-! DEFINITION. Captures, triggers, the audio beside a capture, export, playback cursors and Cepra records (ch. 13). -/

namespace Sys2Proof.Machine

/-! ### Held frames (R295 to R298) -/

/-- The held frames in capture-index order (R297). -/
def heldFrames (r : Ring) : List ObjId := r.pre ++ r.post

/-- The capture timestamp of a member's frame. -/
def tsOf (s : State) (o : ObjId) : Ticks :=
  match (surfOf s o).bind surfRec with
  | some rc => rc.ts
  | none => 0

/-- Insert a member in order of capture timestamp. -/
def insertTs (s : State) (o : ObjId) (l : List ObjId) : List ObjId :=
  l.takeWhile (fun x => decide (tsOf s x ≤ tsOf s o)) ++ o :: l.dropWhile (fun x => decide (tsOf s x ≤ tsOf s o))

/-- The COMPLETE members of a ring in order of capture timestamp. -/
def ringComplete (s : State) (r : Ring) : List ObjId :=
  ((ringMembers r).filter fun o => match surfOf s o with
    | some f => (surfFrame f).isSome && !surfFreeing s f
    | none => false).foldl (fun l o => insertTs s o l) []

def capCode : CapState → Nat
  | .off => 0 | .armed => 1 | .collecting => 2 | .frozen => 3

/-- What the capture properties of a ring read (Table 13.7). -/
def capProps (s : State) (o : ObjId) : State :=
  match ringOf s o with
  | none => s
  | some r =>
    let s := setProp s o pRingCaptureState 0 (capCode r.cap)
    setProp (setProp s o pRingCaptureHeld 0 r.pre.length) o pRingCaptureHeld 1 r.post.length

/-- Release the capture's leases (R299). -/
def releaseCapture (s : State) (o : ObjId) : State :=
  match ringOf s o with
  | none => s
  | some r =>
    let s := (heldFrames r).foldl (fun s m => dropLease s m (.capture o)) s
    setRing s o { r with pre := [], post := [], collectEnd := none }

/-- Firmware writes the record of the trigger frame again with TRIGGER set (R297). -/
def markTrigger (s : State) (o : ObjId) : State :=
  updSurf s o fun f =>
    let set' (c : RecCopy) : RecCopy := ⟨{ c.rcd with flags := c.rcd.flags % 128 + 128 + c.rcd.flags / 256 * 256 }, c.crcOk⟩
    match surfRec f with
    | some rc => let c := set' ⟨rc, true⟩
                 { f with copyA := c, copyB := c }
    | none => f

/-- The ring freezes (Table 13.1). -/
def freezeRing (s : State) (o : ObjId) (timedOut : Bool) : State :=
  match ringOf s o with
  | none => s
  | some r =>
    let hold := [0, 4].contains (getProp s sysObj pSystemTbState)
    let flags := 4 * bit01 hold + 8 * bit01 (getProp s sysObj pSystemRtcState != 2)
    let s := setRing s o { r with
      cap := .frozen, collectEnd := none, frozenAt := s.now, timedOut := timedOut, frozenRtc := rtcNow s
      frozenFlags := flags, table := [], cepra := [] }
    postEvent (capProps s o) 0x0403 o (r.post.length + 2 ^ 63 * bit01 timedOut)

/-- Lease a member for the capture. -/
def holdFrame (s : State) (ring o : ObjId) : State := addLease s o (.capture ring)

/-- A trigger is served on a ring (R295, R301, R302): true if the ring took it. -/
def serveRing (s : State) (o trig : ObjId) (kind : Nat) (t : Ticks) : Bool × State :=
  match ringOf s o with
  | none => (false, s)
  | some r =>
    -- a FREEING ring leases nothing, so it takes no trigger either (log entry 172)
    if r.cap ≠ .armed ∨ r.freeing = true then (false, bumpProp s o pRingCaptureIgnored)
    else
      let preWant := getPropN s o pRingCapturePre
      let postWant := max (getPropN s o pRingCapturePost) 1
      let all := ringComplete s r
      let before := all.filter fun m => decide (tsOf s m < t)
      let pre := before.drop (before.length - preWant)
      let post := (all.filter fun m => decide (t ≤ tsOf s m)).take postWant
      let s := (pre ++ post).foldl (fun s m => holdFrame s o m) s
      let tmo := getPropN s o pRingPostTimeout
      let s := setRing s o { r with
        cap := .collecting, pre := pre, post := post, preWant := preWant, postWant := postWant, trigTime := t, trigId := trig
        trigKind := kind, collectEnd := if tmo = 0 then none else some (s.now + tmo * msT) }
      let s := match post.head? with | some m => markTrigger s m | none => s
      let s := capProps (setTimeProp s o pRingCaptureTrigger t) o
      let s := postEvent s 0x0402 o (trig + pre.length * 2 ^ 32)
      (true, if postWant ≤ post.length then freezeRing s o false else s)

/-- A frame of a collecting ring becomes complete (R296). -/
def captureFrame (s : State) (m : ObjId) : State :=
  match surfOf s m with
  | none => s
  | some f =>
    match ringOf s f.ring, surfFrame f with
    | some r, some rc =>
      let o := f.ring
      if r.cap ≠ .collecting ∨ surfFreeing s f = true then s
      else if r.trigTime ≤ rc.ts then
        if r.postWant ≤ r.post.length then s
        else
          let s := holdFrame s o m
          let post := insertTs s m r.post
          let s := if post.head? = some m then markTrigger s m else s
          let s := capProps (setRing s o { r with post := post }) o
          if r.postWant ≤ r.post.length + 1 then freezeRing s o false else s
      else if r.preWant = 0 then s
      else
        let (pre, s) : List ObjId × State := if r.pre.length < r.preWant then (r.pre, s)
          else (r.pre.drop 1, match r.pre.head? with | some x => dropLease s x (.capture o) | none => s)
        let s := holdFrame s o m
        capProps (setRing s o { r with pre := insertTs s m pre }) o
    | _, _ => s

/-- `ring.post_timeout` expires (R298). -/
def postTimeout (s : State) (o : ObjId) : State :=
  match ringOf s o with
  | none => s
  | some r =>
    match r.collectEnd with
    | some t => if r.cap = .collecting ∧ t ≤ s.now then freezeRing s o true else s
    | none => s

/-! ### Triggers (R300 to R303) -/

def trig0 : TrigRt := ⟨none, none, 0, none⟩
def trigOf (s : State) (n : Nat) : TrigRt := mapGetD s.trigs n trig0
def setTrig (s : State) (n : Nat) (x : TrigRt) : State := { s with trigs := mapPut s.trigs n x }

/-- An event that does not fire its trigger (R301, Table 13.8). -/
def trigIgnored (s : State) (o : ObjId) : State :=
  let s := bumpProp s o pTriggerIgnored
  let x := trigOf s (objInst o)
  let n := x.ignored + 1
  let due : Bool := match x.lastEvt with | none => true | some t => decide (t + msT ≤ s.now)
  if due then postEvent (setTrig s (objInst o) { x with ignored := 0, lastEvt := some s.now }) 0x1002 o (min n 0xFFFFFFFF)
  else setTrig s (objInst o) { x with ignored := n }

/-- t_trig of an event: no later than 10 s after its service. -/
def trigTimeOf (s : State) (o : ObjId) (ev : Ticks) : Ticks :=
  min ((ev : Int) + getProp s o pTriggerDelay * nsT).toNat (s.now + 10 * secT)

/-- An event of a trigger (R301): t_trig, the rings served and the rings that ignored it; none when it does not fire. -/
def fireTrigger (s : State) (o : ObjId) (kind : Nat) (ev : Ticks) : Option (Ticks × Nat × Nat) × State :=
  let x := trigOf s (objInst o)
  let clear : Bool := match x.lastFired with
    | none => true
    | some l => decide (l + getPropN s o pTriggerHoldoff * usT ≤ ev)
  if getProp s o pTriggerEnable = 0 ∨ !clear then (none, trigIgnored s o)
  else
    let t := trigTimeOf s o ev
    let s := setTrig s (objInst o) { x with lastFired := some ev }
    let rings := ((getPropsN s o pTriggerTargets 8).filter fun r => (ringOf s r).isSome).eraseDups
    let (n, m, s) := rings.foldl (fun (a : Nat × Nat × State) r =>
      let (took, s) := serveRing a.2.2 r o kind t
      if took then (a.1 + 1, a.2.1, s) else (a.1, a.2.1 + 1, s)) (0, 0, s)
    let s := bumpProp (setTimeProp s o pTriggerLast t) o pTriggerCount
    (some (t, n, m), postEvent s 0x1001 o (n + m * 256 + kind * 65536 + nsOf t % 2 ^ 32 * 2 ^ 32))

/-- Events of triggers that are served in one step: the earlier t_trig first, then the lower instance (R302). -/
def fireAll (s : State) (kind : Nat) (evs : List (ObjId × Ticks)) : State :=
  let before (a b : ObjId × Ticks) : Bool :=
    let ta := trigTimeOf s a.1 a.2
    let tb := trigTimeOf s b.1 b.2
    decide (ta < tb ∨ (ta = tb ∧ objInst a.1 ≤ objInst b.1))
  let sorted := evs.foldl (fun l e => l.takeWhile (before · e) ++ e :: l.dropWhile (before · e)) []
  sorted.foldl (fun s e => (fireTrigger s e.1 kind e.2).2) s

/-- Whether an edge is one that `trigger.edge` selects. -/
def edgeSelected (s : State) (o : ObjId) (rising : Bool) : Bool :=
  match getProp s o pTriggerEdge with
  | 0 => rising
  | 1 => !rising
  | _ => true

/-- The instant at which the filter of a trigger accepts the edge that waits in it (R300). -/
def acceptAt (s : State) (n : Nat) : Option Ticks :=
  (trigOf s n).edge.map fun e => e.1 + getPropN s (objId clsTrigger n) pTriggerFilter * nsT

/-- The filter of a trigger accepts its edge (R300): every trigger whose filter accepts at that same instant is served in the one
step (R302). -/
def filterAccept (s : State) (o : ObjId) : State :=
  match acceptAt s (objInst o) with
  | none => s
  | some T =>
    if s.now < T then s
    else
      let ns := (List.range 32).filter fun n => acceptAt s n == some T
      let evs := ns.map fun n => (objId clsTrigger n, (trigOf s n).edge.elim 0 (·.1))
      fireAll (ns.foldl (fun s n => setTrig s n { trigOf s n with edge := none }) s) 0 evs

/-- An edge on a trigger pin (R300): a level that did not hold is forgotten. -/
def triggerEdge (s : State) (pin : Nat) (rising : Bool) : State :=
  (objsOf s clsTrigger).foldl (fun s o =>
    if getProp s o pTriggerPin ≠ pin then s
    else
      let s := filterAccept s o
      let x := trigOf s (objInst o)
      setTrig s (objInst o) { x with edge := if edgeSelected s o rising then some (stampOf s.now, rising) else none }) s

/-- The time in a payload of R71's layout: seconds in 6 bytes, nanoseconds in bits 29:0 of 4, clamped to 999,999,999. -/
def payloadTime (pl : List Byte) : Ticks := fieldAt pl 0 6 * secT + min (fieldAt pl 6 4 % 2 ^ 30) 999999999 * nsT

/-- The trigger time in a VX_TRIGGER payload; zero is the request's start (R303). -/
def trigPayload (start : Ticks) (pl : List Byte) : Ticks := if payloadTime pl = 0 then start else payloadTime pl

/-- VX_TRIGGER on a TRIGGER or a RING: its completion payload. -/
def vxTriggerDo (s : State) (o : ObjId) (start : Ticks) (pl : List Byte) : List Byte × State :=
  let ev := trigPayload start pl
  let out (t : Ticks) (n m : Nat) : List Byte := timeBytes t ++ toLe 2 n ++ toLe 2 m
  if objCls o = clsTrigger then
    match fireTrigger s o 1 ev with
    | (some (t, n, m), s) => (out t n m, s)
    | (none, s) => (out (trigTimeOf s o ev) 0 0, s)
  else
    let t := min ev (s.now + 10 * secT)
    let (took, s) := serveRing s o 0 1 t
    (out t (bit01 took) (bit01 (!took)), s)

/-! ### Audio beside a capture (R304) -/

/-- The first channel and count of `ring.capture_audio`. -/
def capAudio (s : State) (o : ObjId) : Nat × Nat :=
  (getPropN s o pRingCaptureAudio 0, getPropN s o pRingCaptureAudio 1)

/-- The declared rate of a ring's writer. -/
def writerRate (s : State) (o : ObjId) : Nat × Nat :=
  (ringRate s ((objsOf s clsRoute).filter fun r => routeWanted s r) ((objsOf s clsRoute).length + 1) o).getD (1, 1)

/-- Allocate it at arming; none where no extent is large enough or the budget does not allow its charge. -/
def makeCapAudio (s : State) (o : ObjId) : Option State :=
  let s := dropCapAudio s o
  let (ch, n) := capAudio s o
  if n = 0 then some s
  else
    match ringOf s o with
    | none => some s
    | some r =>
      let fs := match srcParty s ch with | some p => classRate (rateClass s p) | none => (48000, 1)
      let rate := writerRate s o
      let lines := ceilDiv (r.length * fs.1 * rate.2) (fs.2 * max rate.1 1) + 1024
      match allocSurface s 0x50 n lines 0 0 .captureAudio with
      | none => none
      | some (a, s1) =>
        let stride := match surfOf s1 a with | some f => ((surfPlanes f).head?.map (·.stride)).getD 192 | none => 192
        let charge := perSec stride fs
        if fsBudget < fsCharge s1 + charge then none
        else some (setProp { s1 with charges := mapPut s1.charges (capAudioKey o) charge } o pRingAudioSurface 0 a)

/-- The instant after which audio beside a frozen capture stops. -/
def audioStop (s : State) (r : Ring) : Ticks :=
  match (heldFrames r).getLast? with
  | some m =>
    match (surfOf s m).bind surfRec with
    | some rc => rc.ts + rc.rateDen * secT / max rc.rateNum 1
    | none => 0
  | none => 0

/-- A sample period of a party, whose sample instant is t: every capture whose first channel it delivers writes a line. -/
def captureAudioLine (s : State) (party : ObjId) (t : Ticks) : State :=
  s.rings.foldl (fun s e =>
    let o := e.1
    let r := e.2
    let a := getPropN s o pRingAudioSurface
    let (ch, n) := capAudio s o
    let live := r.cap == .armed || r.cap == .collecting ||
      (r.cap == .frozen && match r.audioAt.head? with | some t => decide (t < audioStop s r) | none => true)
    if a = 0 ∨ !live ∨ srcParty s ch ≠ some party then s
    else
      match surfOf s a with
      | none => s
      | some f =>
        let stride := ((surfPlanes f).head?.map (·.stride)).getD 192
        let bytes := padTo stride ((List.range n).flatMap fun k => toLe 3 (twos 24 (srcOf s (ch + k)).last))
        let s := { s with frame := memWrite s.frame (f.base + r.audioLines % max f.height 1 * stride) bytes }
        setRing s o { r with audioAt := (t :: r.audioAt).take f.height, audioLines := r.audioLines + 1 }) s

/-- Arm a ring or turn its capture off (R299). None: NOT_ADMITTED, and the ring stays OFF. -/
def setCapture (s : State) (o : ObjId) (arm : Bool) : Option State :=
  let s := releaseCapture s o
  let off (s : State) : State := capProps (updRing s o fun r => { r with cap := .off, table := [], cepra := [] }) o
  let s := off (dropCapAudio s o)
  if !arm then some (setProp s o pRingCaptureMode 0 0)
  else
    match makeCapAudio s o with
    | none => none
    | some s => some (setProp (capProps (updRing s o fun r => { r with cap := .armed }) o) o pRingCaptureMode 0 1)

/-! ### The Cepra record (R309) -/

/-- The record of a held frame as a reader reads it; EMPTY when both copies fail. -/
def heldRecord (s : State) (o : ObjId) : FrameRec :=
  match surfOf s o with
  | some f => (surfRec f).getD (emptyRec o f.position)
  | none => emptyRec o 0

/-- The frame table: 64 bytes for each held frame in capture-index order. -/
def frameTable (s : State) (r : Ring) : List Byte := (heldFrames r).flatMap fun o => recBytes (heldRecord s o)

/-- A member's frame number and its timestamp in the 16-byte form; free values where no such frame is held. -/
def cepraFrame (s : State) (o : Option ObjId) : (List Byte × List Byte) × State :=
  match o with
  | some m => ((toLe 8 (heldRecord s m).frame, time16 (heldRecord s m).ts), s)
  | none =>
    let (a, s) := freshValue s
    let (b, s) := freshValue s
    ((toLe 8 a, toLe 16 b), s)

/-- The audio fields of a Cepra record: bytes 304 to 335, and whether samples are missing. -/
def cepraAudio (s : State) (o : ObjId) (r : Ring) : List Byte × Bool :=
  let (ch, n) := capAudio s o
  if getProp s o pRingAudioSurface = 0 then (List.replicate 32 0, false)
  else
    let start := (heldFrames r).head?.elim 0 (tsOf s)
    let kept := r.audioAt.reverse.dropWhile fun t => decide (t < start)
    let rate := match srcParty s ch with | some p => partyRate s p | none => 0
    let per := secT * 65536 / max rate 1
    let short := match kept with | t :: _ => decide (start + per ≤ t) | [] => true
    (toLe 2 ch ++ toLe 1 n ++ toLe 1 0 ++ toLe 8 rate ++ time16 (kept.headD 0) ++ toLe 4 kept.length, short)

/-- Build the frame table and the Cepra record of a frozen capture, and sign it. -/
def cepraReady (s : State) (o : ObjId) : State :=
  match ringOf s o with
  | none => s
  | some r =>
    if r.cap ≠ .frozen ∨ !r.cepra.isEmpty then s
    else
      let k := getPropN s o pRingCepraKey
      let slot := if k = 0 then 2 else objInst k
      let signed := slotPolicy s slot == 2 && (slotPrivate s slot).isSome
      let table := frameTable s r
      let s := if signed then bumpProp s sysObj pSystemCepraCount else s
      let seq := getPropN s sysObj pSystemCepraCount
      let (fst, s) := cepraFrame s (heldFrames r).head?
      let (trg, s) := cepraFrame s r.post.head?
      let (lst, s) := cepraFrame s (heldFrames r).getLast?
      let audio := cepraAudio s o r
      let flags := bit01 (decide (r.pre.length < r.preWant)) + 2 * bit01 r.timedOut + r.frozenFlags +
        16 * bit01 (!signed) + 32 * bit01 audio.2
      let body := toLe 4 0x52504543 ++ toLe 2 1 ++ toLe 2 512 ++ serialBytes ++
        toLe 2 (getPropN s sysObj pSystemCompatLevel) ++ toLe 2 0 ++ toLe 4 o ++ toLe 4 r.trigId ++ toLe 1 r.trigKind ++
        toLe 1 flags ++ toLe 2 0 ++ time16 r.trigTime ++ toLe 4 r.preWant ++ toLe 4 r.pre.length ++ toLe 4 r.postWant ++
        toLe 4 r.post.length ++ fst.1 ++ trg.1 ++ lst.1 ++ fst.2 ++ trg.2 ++ lst.2 ++ toLe 8 table.length ++ sha384 table ++
        configDigest s ++ fwMeasurement s ++ toLe 8 (r.frozenRtc / 32768) ++ toLe 4 (r.frozenRtc % 32768) ++ toLe 4 seq ++
        audio.1 ++ (if signed then slotKeyId s slot else List.replicate 48 0) ++ List.replicate 32 0
      let rec' := body ++ if signed then signRecord s slot body else List.replicate 96 0
      postEvent (updRing s o fun r => { r with table := table, cepra := rec' }) 0x0404 o (seq + 2 ^ 63 * bit01 (!signed))

/-! ### Export (R305, R306) -/

/-- The bytes of a plane at its stride, with the metadata plane of a _C plane. -/
def planeBytes (m : Mem) (f : Surf) (p : Plane) : List Byte :=
  let rows := if fmtLayout f.format = 0 then p.lines else ceilDiv p.lines 8
  memRead m (f.base + p.off) (rows * p.stride) ++
    (if fmtLayout f.format = 2 then memRead m (f.base + p.metaOff) (2 * tilesPerRow p.words * rows) else [])

def frameBytes (m : Mem) (f : Surf) : List Byte := (surfPlanes f).flatMap (planeBytes m f)

/-- The fields of a VX_EXPORT payload as applied (Table 13.2). -/
structure ExportReq where
  first : Nat
  count : Nat
  addr : Nat
  len : Nat
  rate : Nat
  records : Bool
  table : Bool
deriving DecidableEq, Repr

def exportReq (r : Ring) (pl : List Byte) : ExportReq :=
  let n := (heldFrames r).length
  let first := min (fieldAt pl 0 4) (n - 1)
  ⟨first, min (fieldAt pl 4 4) (n - first), fieldAt pl 8 8 / 64 * 64, fieldAt pl 16 8,
    clampNat 1000 64000 (fieldAt pl 24 4) * 1000000, bitOf (fieldAt pl 28 1) 0, bitOf (fieldAt pl 28 1) 1⟩

/-- What comes first, and then each frame's bytes with whether it is LOST. -/
def exportHead (r : Ring) (e : ExportReq) : List Byte := if e.table then padTo 512 r.cepra ++ r.table else []

def exportFrame (s : State) (r : Ring) (e : ExportReq) (i : Nat) : List Byte × Bool :=
  match (heldFrames r)[i]? with
  | none => ([], false)
  | some o =>
    let rc := if e.records then (if r.table.isEmpty then recBytes (heldRecord s o) else slice r.table (64 * i) 64) else []
    match surfOf s o with
    | none => (rc, false)
    | some f =>
      let bs := frameBytes s.frame f
      let lost := surfLost f
      (rc ++ (if lost then List.replicate bs.length 0 else bs), lost)

/-- The frames that fit a number of bytes, from an index on: bytes so far, frames, lost. -/
def exportFit (s : State) (r : Ring) (e : ExportReq) (room : Nat) : Nat → Nat → List Byte × Nat × Nat → List Byte × Nat × Nat
  | 0, _, acc => acc
  | n + 1, i, acc =>
    let (bs, lost) := exportFrame s r e i
    if acc.1.length + bs.length ≤ room then exportFit s r e room n (i + 1) (acc.1 ++ bs, acc.2.1 + 1, acc.2.2 + bit01 lost)
    else acc

def exportKey (mb cnt : Nat) : Nat := 0x300000000 + mb * 65536 + cnt

/-- The export of a ring that is in flight. -/
def exportFlight (s : State) (o : ObjId) : Option Flight :=
  s.flights.find? fun f => match f.waits with | .exportOf x => x == o | _ => false

/-- An export stops at a frame boundary and completes (R306). -/
def exportDone (s : State) (o : ObjId) : State :=
  match exportFlight s o, ringOf s o with
  | some f, some r =>
    let e := exportReq r (reqPayload f.req)
    let head := exportHead r e
    let start : List Byte × Nat × Nat := if head.length ≤ e.len then (head, 0, 0) else ([], 0, 0)
    let n := if head.length ≤ e.len then e.count else 0
    let all := exportFit s r e e.len n e.first start
    let span := min (s.now - f.req.start) (9 * secT + secT / 2)
    let moved := e.rate * span / secT
    let atEnd := decide (f.req.start + 9 * secT + secT / 2 ≤ s.now)
    if moved < all.1.length ∧ !atEnd then s
    else
      let got := if moved < all.1.length then exportFit s r e (min e.len moved) n e.first start else all
      let s := if got.1.isEmpty then s else emit s (.hostWrite e.addr got.1)
      let s := { s with charges := mapDel s.charges (exportKey f.req.mb f.req.cnt) }
      let pay := toLe 4 got.2.1 ++ toLe 8 got.1.length ++ toLe 4 (e.first + got.2.1) ++ toLe 4 got.2.2
      completeFlight s f { status := stOk, payload := pay }
  | _, _ => s

/-! ### Playback (R307, R308) -/

/-- ts_first, ts_last and S of a frozen ring. -/
def playSpan (s : State) (r : Ring) : Int × Int × Int :=
  let hs := heldFrames r
  let first := hs.head?.elim 0 (tsOf s)
  let last := hs.getLast?.elim 0 (tsOf s)
  let p := match hs.getLast? with
    | some o => let rc := heldRecord s o; rc.rateDen * secT / max rc.rateNum 1
    | none => 0
  (first, last, (last : Int) - first + p)

/-- The cursor of a playing route at its hinge k, before HOLD or LOOP (R307). -/
def playCursor (s : State) (r : ObjId) (c0 : Int) (k : Nat) : Int :=
  let hr := (headRate s (getPropN s r pRouteHead)).getD (1, 1)
  let num := getProp s r pRoutePlaySpeed 0
  let den := getProp s r pRoutePlaySpeed 1
  c0 + ((k : Int) * num * hr.2 * secT).fdiv (max den 1 * hr.1)

/-- The selected frame of a playing route: its capture index. -/
def playSelect (s : State) (r : ObjId) (ring : Ring) (c0 : Int) (k : Nat) : Option Nat :=
  let hs := heldFrames ring
  let (a, b, span) := playSpan s ring
  let c := playCursor s r c0 k
  let c := if getProp s r pRoutePlayEnd = 1 then a + (c - a).emod (max span 1) else clampInt a b c
  ((List.range hs.length).filter fun i => decide ((tsOf s (atD hs i 0) : Int) ≤ c)).getLast?

end Sys2Proof.Machine
end

