-- ==== Sys2Proof/Machine/Illumination.lean ====
section
/-! DEFINITION. Illumination and tally chains: programs, latching, diagnosis, tally groups and strobes (R407 to R422). -/

namespace Sys2Proof.Machine

def chainObj (c : Nat) : ObjId := objId clsChain c

/-- The lamp of a chain, driver and channel (R420). -/
def lampInst (c p k : Nat) : Nat := 1536 * c + 24 * p + k
def lampObj (i : Nat) : ObjId := objId clsLamp i

def chainRt0 : ChainRt := ⟨none, 0, 0, [], [], [], none, false, 0, [], false, none, []⟩
def chainRt (s : State) (c : Nat) : ChainRt := mapGetD s.chains c chainRt0
def setChainRt (s : State) (c : Nat) (x : ChainRt) : State := { s with chains := mapPut s.chains c x }

def lampRt0 : LampRt := ⟨2, none, none, 0, false⟩
def lampRt (s : State) (i : Nat) : LampRt := mapGetD s.lamps i lampRt0
def setLampRt (s : State) (i : Nat) (x : LampRt) : State :=
  { s with lamps := if x = lampRt0 then mapDel s.lamps i else mapPut s.lamps i x }

/-! ### Lamps -/

/-- The tally group of a lamp: 0 for none (R417). -/
def tallyGroup (s : State) (i : Nat) : Nat :=
  if getProp s (lampObj i) pLampClass = 1 then getPropN s (lampObj i) pLampGroup else 0

/-- Whether a lamp's tally group is off. -/
def inTallyOff (s : State) (i : Nat) : Bool := tallyGroup s i != 0 && s.tallyOff.contains (tallyGroup s i)

/-- Whether a fault rule forces a lamp off (R416, R417). -/
def lampForced (s : State) (i : Nat) : Bool := (lampRt s i).forced || inTallyOff s i

/-- The duty that a lamp's program carries (R414). -/
def lampDuty (s : State) (i : Nat) : Nat := if lampForced s i then 0 else getPropN s (lampObj i) pLampDuty

/-- `lamp.trim_applied` (R414), from the temperature of its driver's last accepted status. -/
def lampTrim (s : State) (i : Nat) : Nat :=
  let c := chainObj (i / 1536)
  let t := getProp s c pChainTemps (i % 1536 / 24)
  let f := clampInt 0 100 (100 - getProp s c pChainDerateRate * max 0 (t - getProp s c pChainDerateKnee))
  (getProp s c pChainBinTrim (getPropN s (lampObj i) pLampBin) * f / 100).toNat

/-- `lamp.state` (Table 19.5): a failure found in the lamp stands before THERMAL, THERMAL before GROUP_OFF. -/
def lampState (s : State) (i : Nat) : Nat :=
  let c := i / 1536
  let x := lampRt s i
  if getProp s (chainObj c) pChainState ≠ 1 ∨ getProp s (lampObj i) pLampDuty = 0 then 0
  else if 3 ≤ x.cond then x.cond
  else if (chainRt s c).tsd.contains (i % 1536 / 24) then 7
  else if inTallyOff s i then 6
  else x.cond

/-- A commit writes a lamp's duty: a lamp forced off is released and UNVERIFIED (R416). -/
def lampWritten (s : State) (i : Nat) : State :=
  let x := lampRt s i
  if x.forced then setLampRt s i { x with forced := false, cond := 2, evidence := 0 } else s

/-! ### Programs -/

/-- The bytes of a word, most significant first. -/
def wordBe (w : Nat) : List Byte := toBe 4 w

/-- The CRC-8 of a program or a status: header bits 31:8 and the channel words, in shift order (Table 19.1). -/
def chainCrc (header : Nat) (channels : List Nat) : Nat :=
  crc8 ((wordBe header).take 3 ++ channels.flatMap wordBe)

/-- A program header (Table 19.1) with its CRC. -/
def programOf (position mode diag sample div : Nat) (channels : List Nat) : List Nat :=
  let h := 2 * 2 ^ 30 + position % 64 * 2 ^ 24 + mode * 2 ^ 23 + diag * 2 ^ 18 + sample % 128 * 2 ^ 11 + div % 8 * 2 ^ 8
  (h + chainCrc h channels) :: channels

/-- The program that turns all outputs of a driver off. -/
def offProgram (p : Nat) : List Nat := programOf p 1 31 0 0 (List.replicate 24 0)

/-- A channel word (Table 19.2). -/
def channelWord (s : State) (i : Nat) : Nat :=
  lampDuty s i * 65536 + getPropN s (lampObj i) pLampPhase * 256 + lampTrim s i

/-- The rate of a chain's source: a head's hinges, or a generator's pulses (R410). -/
def chainRate (s : State) (c : Nat) : Option (Nat × Nat) :=
  let src := getPropN s (chainObj c) pChainSource
  if objCls src = clsHead then headRate s src
  else if objCls src = clsCadence then some (max (getPropN s src pCadenceRate 0) 1, getPropN s src pCadenceRate 1)
  else none

/-- `chain.latch_every`: m of R410; 0 without a source. -/
def latchEvery (s : State) (c : Nat) : Nat :=
  let o := chainObj c
  match chainRate s c with
  | none => 0
  | some (num, den) =>
    max 1 (ceilDiv (num * (800000 * getPropN s o pChainDrivers + 20 * getPropN s o pChainSck))
      (max 1 (den * getPropN s o pChainSck * 1000000)))

/-- Whether a lamp is short-pulsed: an on-time above zero and below 1.5 µs (R415). -/
def shortPulsed (s : State) (i : Nat) : Bool :=
  let c := i / 1536
  match chainRate s c with
  | none => false
  | some (num, den) =>
    let d := lampDuty s i
    d != 0 && decide (d * latchEvery s c * den * secT * 2 <
      3 * usT * 65536 * 2 ^ getPropN s (chainObj c) pChainPwmDivLog2 * num)

/-- Whether a short-pulsed lamp is due for a diagnostic pulse (R415). -/
def diagDue (s : State) (i : Nat) : Bool :=
  let c := i / 1536
  let x := lampRt s i
  let n := (chainRt s c).periods
  let span := getPropN s (chainObj c) pChainDiagPeriod
  let old (m : Option Nat) : Bool := match m with | none => true | some k => decide (k + span ≤ n)
  shortPulsed s i && (x.cond == 2 || old x.measured) && old x.lastPulse

/-- The channel that a driver's next program names for a pulse: the lowest due one, or 31. -/
def diagChannel (s : State) (c p : Nat) : Nat :=
  ((List.range 24).find? fun k => diagDue s (lampInst c p k)).getD 31

/-- The programs of a chain, by driver. -/
def chainPrograms (s : State) (c : Nat) : List (List Nat) :=
  let o := chainObj c
  (List.range (getPropN s o pChainDrivers)).map fun p =>
    if getProp s o pChainState = 1 then
      programOf p 0 (diagChannel s c p) (chainRt s c).sample (getPropN s o pChainPwmDivLog2)
        ((List.range 24).map fun k => channelWord s (lampInst c p k))
    else offProgram p

/-- The words on ILn_DOUT: the farthest driver's program first (R407). -/
def shiftWords (ps : List (List Nat)) : List Nat := ps.reverse.flatMap id

/-! ### Latching (R410, R412) -/

/-- A hinge of a head or a pulse of a generator passes, for the chains that it drives. -/
def chainSource (s : State) (src : ObjId) : State :=
  (List.range 8).foldl (fun s c =>
    if getPropN s (chainObj c) pChainSource = src ∧ getProp s (chainObj c) pChainState ≠ 0 then
      setChainRt s c { chainRt s c with srcCount := (chainRt s c).srcCount + 1 }
    else s) s

/-- Whether the hinge or pulse just passed is the m-th one, on which the chain latches (R410). -/
def latchDue (s : State) (c : Nat) : Bool :=
  let x := chainRt s c
  let m := latchEvery s c
  getProp s (chainObj c) pChainState != 0 && m != 0 && x.srcCount != 0 && x.srcCount % m == 0

/-- Whether a brace state, or the source period after it, withholds the latch pulse (R412). -/
def latchHeld (s : State) (c : Nat) : Bool :=
  s.hif.brace || (match (chainRt s c).resumeAt with | some t => decide (s.now < t) | none => false)

/-- A lamp whose program changes at a latch is UNVERIFIED, unless a fault rule has turned it off. -/
def latchLamps (s : State) (c : Nat) (before after : List (List Nat)) : State :=
  (List.range after.length).foldl (fun s p =>
    (List.range 24).foldl (fun s k =>
      let i := lampInst c p k
      if atD (atD after p []) (k + 1) 0 = atD (atD before p []) (k + 1) 0 ∨ lampForced s i ∨ (lampRt s i).cond = 2 then s
      else setLampRt s i { lampRt s i with cond := 2, evidence := 0 }) s) s

/-- Shifting of the next programs begins 100 ns after a latch instant (R410). -/
def chainShiftNext (s : State) (c : Nat) : State :=
  let ps := chainPrograms s c
  emit (setChainRt s c { chainRt s c with shifted := ps, shiftFrom := some (s.now + 100 * nsT) }) (.chainShift c (shiftWords ps))

/-- A latch: the drivers take the programs shifted in. Where the pulse is withheld, shifting goes on without it (R412). -/
def chainLatchStep (s : State) (c : Nat) : State :=
  if !latchDue s c then s
  else if latchHeld s c then chainShiftNext (setChainRt s c { chainRt s c with srcCount := 0 }) c
  else
    let x := chainRt s c
    let s := emit s (.chainLatch c)
    let s := latchLamps s c x.latched x.shifted
    let s := setChainRt s c { x with
      lastLatch := some s.now, srcCount := 0, periods := x.periods + 1, ended := x.latched, latched := x.shifted
      sample := (x.sample + 37) % 128, pulsed := false, resumeAt := none
      gaps := x.gaps.filter fun g => decide (s.now ≤ g) }
    chainShiftNext s c

/-! ### Restart (R413) -/

/-- VX_RESTART shifts OFF programs; the drivers are counted by the end of that shift. -/
def chainRestart (s : State) (c : Nat) : State :=
  let o := chainObj c
  let s := setProp s o pChainState 0 0
  let ps := (List.range (getPropN s o pChainDrivers)).map offProgram
  let s := (List.range 1536).foldl (fun s j =>
    let i := 1536 * c + j
    let x := lampRt s i
    setLampRt s i { x with cond := 2, evidence := 0, measured := none, lastPulse := none }) s
  emit (setChainRt s c { chainRt0 with shifted := ps, shiftFrom := some s.now, counting := true })
    (.chainShift c (shiftWords ps))

/-- The count is in: RUNNING where it is `chain.drivers`, otherwise FAULT with CHAIN_STATE. -/
def chainCounted (s : State) (c found : Nat) : State :=
  let o := chainObj c
  let found := min 64 found
  let s := setProp s o pChainFound 0 found
  let s := setChainRt s c { chainRt s c with counting := false, shiftFrom := none }
  if found = getPropN s o pChainDrivers then setProp s o pChainState 0 1
  else postEvent (setProp s o pChainState 0 2) 0x0E01 o (2 + found * 256)

/-! ### Status (R408, R416, R417) -/

/-- Whether a program conducts on a channel at its sample instant (R416): instants in units of Tp ÷ 65,536. -/
def conducts (program : List Nat) (k : Nat) : Bool :=
  let h := atD program 0 0
  let w := atD program (k + 1) 0
  !bitOf h 23 && decide ((bitsOf h 17 11 * 512 + 65536 - bitsOf w 15 8 * 256) % 65536 < bitsOf w 31 16)

/-- LAMP_FAULT (Table 19.10). -/
def lampFault (s : State) (i code neighbour : Nat) : State :=
  postEvent s 0x0F01 (lampObj i) (code + neighbour % 65536 * 65536)

/-- One channel's measurement. -/
def lampMeasured (s : State) (c p k : Nat) (word : Nat) : State :=
  let i := lampInst c p k
  let x := lampRt s i
  let r := chainRt s c
  if !bitOf word 3 then s
  else
    let same := decide (atD (atD r.ended p []) (k + 1) 0 = atD (atD r.latched p []) (k + 1) 0)
    let x := { x with measured := some r.periods }
    if x.cond = 5 then setLampRt s i x
    else if bitOf word 2 then setLampRt s i { x with cond := 4, forced := true }
    else if bitOf word 1 then setLampRt s i { x with cond := 3 }
    else if same then setLampRt s i { x with cond := 1 }
    else setLampRt s i x

/-- The pair of channels k and k + 1 of a driver: evidence, contradiction and confirmation (R416). -/
def lampPair (s : State) (c p k : Nat) (status : List Nat) : State :=
  let i := lampInst c p k
  let j := i + 1
  if getProp s (lampObj i) pLampClass = 1 ∨ getProp s (lampObj j) pLampClass = 1 then s
  else
    let prog := atD (chainRt s c).ended p []
    let want := (conducts prog k, conducts prog (k + 1))
    let got := (bitOf (atD status (k + 1) 0) 0, bitOf (atD status (k + 2) 0) 0)
    let x := lampRt s i
    if want.1 = want.2 then s
    else if got = want then setLampRt s i { x with evidence := 0 }
    else if (if want.1 then got.2 else got.1) then
      let n := x.evidence + 1
      if n < getPropN s (chainObj c) pChainShortConfirm then setLampRt s i { x with evidence := n }
      else if x.cond = 5 ∧ (lampRt s j).cond = 5 then s
      else
        let s := setLampRt s i { x with evidence := 0, cond := 5, forced := true }
        let s := setLampRt s j { lampRt s j with evidence := 0, cond := 5, forced := true }
        lampFault (lampFault s i 5 j) j 5 i
    else s

/-- A failed member turns its tally group off (R417). -/
def tallyCheck (s : State) (i : Nat) : State :=
  let g := tallyGroup s i
  if g = 0 ∨ s.tallyOff.contains g then s
  else if [3, 4, 5, 7].contains (lampState s i) then
    postEvent { s with tallyOff := s.tallyOff ++ [g] } 0x0F02 (lampObj i) (g + i * 65536)
  else s

/-- One driver's accepted status. -/
def driverStatus (s : State) (c p : Nat) (status : List Nat) : State :=
  let o := chainObj c
  let h := atD status 0 0
  let lamps := (List.range 24).map (lampInst c p)
  let before := lamps.map (lampState s)
  let x := chainRt s c
  -- a rejected program leaves the driver on the one that it held
  let x := if bitOf h 23 then { x with latched := x.latched.set p (atD x.ended p []) } else x
  let s := if bitOf h 23 then bumpProp s o pChainCrcErrors 1 else s
  let s := setProp s o pChainTemps p ((bitsOf h 15 8 : Nat) - 64)
  let others := x.tsd.filter fun d => decide (d ≠ p)
  let s := setChainRt s c { x with tsd := if bitOf h 22 then others ++ [p] else others }
  let s := (List.range 24).foldl (fun s k => lampMeasured s c p k (atD status (k + 1) 0)) s
  let s := (lamps.zip before).foldl (fun s e =>
    let n := lampState s e.1
    if n ≠ e.2 ∧ [3, 4, 7].contains n then lampFault s e.1 n 0xFFFF else s) s
  let s := (List.range 23).foldl (fun s k => lampPair s c p k status) s
  lamps.foldl tallyCheck s

/-- Whether a status passes its sync and CRC (R408). -/
def statusOk (status : List Nat) : Bool :=
  let h := atD status 0 0
  decide (status.length = 25) && bitsOf h 31 30 == 1 && bitsOf h 7 0 == chainCrc h (status.drop 1)

/-- A shift ends: the statuses of the ended period, the farthest driver's first (R407, R408). -/
def shiftComplete (s : State) (c : Nat) (words : List Nat) : State :=
  let o := chainObj c
  let x := chainRt s c
  match x.shiftFrom with
  | none => s
  | some _ =>
    if x.counting then chainCounted s c (words.length / 25)
    else
      let n := getPropN s o pChainDrivers
      let s := setChainRt s c { x with shiftFrom := none }
      (List.range n).foldl (fun s p =>
        let status := ((words.drop (25 * (n - 1 - p))).take 25)
        if statusOk status then driverStatus s c p status else bumpProp s o pChainCrcErrors 0) s

/-! ### Diagnostic pulses (R415) -/

/-- A gap of a sensor's exposure is predicted at a FRAME_END on link 0: E0, P, the exposure and t_fe − t_fs. -/
def predictGaps (s : State) (port : ObjId) (e0 p dur span : Int) : State :=
  (List.range 8).foldl (fun s c =>
    let lo := e0 + p + dur + span
    if getPropN s (chainObj c) pChainExposurePort = port ∧ lo + (4 * usT : Nat) ≤ e0 + 2 * p ∧ (s.now + 10 * usT : Nat) ≤ lo then
      setChainRt s c { chainRt s c with gaps := (chainRt s c).gaps ++ [(lo + (usT : Nat)).toNat] }
    else s) s

/-- The lamps that the latched programs name for a pulse. -/
def diagLamps (s : State) (c : Nat) : List Nat :=
  ((chainRt s c).latched.zipIdx).filterMap fun e =>
    let d := bitsOf (atD e.1 0 0) 22 18
    if d < 24 then some (lampInst c e.2 d) else none

/-- Whether the port whose exposure gaps a chain uses is RUNNING (R415). -/
def exposureRuns (s : State) (c : Nat) : Bool :=
  getProp s (getPropN s (chainObj c) pChainExposurePort) pPortInState == 2

/-- The diagnostic pulse of a latch period, in the first gap predicted for it. -/
def diagStep (s : State) (c : Nat) : State :=
  let x := chainRt s c
  let from' := x.lastLatch.getD 0
  if x.pulsed ∨ s.hif.brace ∨ getProp s (chainObj c) pChainState ≠ 1 ∨ (diagLamps s c).isEmpty ∨ x.lastLatch.isNone ∨ !exposureRuns s c ∨
      !x.gaps.any fun g => decide (from' ≤ g ∧ g ≤ s.now) then s
  else
    let s := emit (setChainRt s c { x with pulsed := true, gaps := x.gaps.filter fun g => decide (s.now < g) }) (.diagLatch c)
    (diagLamps s c).foldl (fun s i =>
      bumpProp (setLampRt s i { lampRt s i with lastPulse := some x.periods }) (lampObj i) pLampDiagPulses) s

/-- The host rearms a tally group that is off: its members are UNVERIFIED (R417). -/
def tallyRearm (s : State) (g : Nat) : State :=
  if g = 0 ∨ !s.tallyOff.contains g then s
  else
    let s := { s with tallyOff := s.tallyOff.filter fun x => decide (x ≠ g) }
    ((List.range 0x3000).filter fun i => tallyGroup s i == g).foldl (fun s i =>
      setLampRt s i { lampRt s i with cond := 2, evidence := 0, forced := false }) s

/-! ### Strobes (R418) -/

def strobeRt0 : StrobeRt := ⟨[], none, 0, none⟩
def strobeRt (s : State) (n : Nat) : StrobeRt := mapGetD s.strobes n strobeRt0
def setStrobeRt (s : State) (n : Nat) (x : StrobeRt) : State := { s with strobes := mapPut s.strobes n x }

/-- A pulse is skipped and counted; STROBE_SKIPPED at most once per millisecond and strobe. -/
def strobeSkip (s : State) (n : Nat) : State :=
  let s := bumpProp s sysObj pSystemStrobeSkipped n
  let x := strobeRt s n
  let k := x.skipped + 1
  let due : Bool := match x.lastEvt with | none => true | some t => decide (t + msT ≤ s.now)
  if due then postEvent (setStrobeRt s n { x with skipped := 0, lastEvt := some s.now }) 0x1370 sysObj (n + k % 2 ^ 32 * 65536)
  else setStrobeRt s n { x with skipped := k }

/-- When the last pulse computed for a strobe ends. -/
def strobeBusy (x : StrobeRt) : Ticks := match x.plan.getLast? with
  | some e => e.2
  | none => x.lastEnd.getD 0

/-- FRAME_START on link 0 of a port: each strobe that follows it computes its pulse. -/
def planStrobes (s : State) (port : ObjId) (e0 p : Int) : State :=
  (List.range 8).foldl (fun s n =>
    let width := getPropN s sysObj pSystemStrobeWidth n
    if getPropN s sysObj pSystemStrobePort n ≠ port ∨ width = 0 then s
    else
      let start := e0 + p + getProp s sysObj pSystemStrobeDelay n * (nsT : Nat)
      let x := strobeRt s n
      if start < (s.now + usT : Nat) ∨ start < (strobeBusy x : Nat) then strobeSkip s n
      else setStrobeRt s n { x with plan := x.plan ++ [(start.toNat, start.toNat + width * nsT)] }) s

/-- A STROBE output fires its pulse at the computed instant. -/
def strobeStep (s : State) (n : Nat) : State :=
  let x := strobeRt s n
  match x.plan with
  | [] => s
  | e :: rest =>
    if s.now < e.1 then s
    else emit (setStrobeRt s n { x with plan := rest, lastEnd := some e.2 })
      (.strobe n e.1 e.2 (bitOf (getPropN s sysObj pSystemStrobePolarity) n))

end Sys2Proof.Machine
end

