-- ==== Sys2Proof/Machine/LaneCode.lean ====
section
/-! DEFINITION. The lane coding of MSL and of the Hinge Link: the scrambler, alignment markers and the link word stream (R84 to
R87, R333). -/

namespace Sys2Proof.Machine

/-! ### The scrambler (R84) -/

/-- The bits that a lane carried last, the latest in bit 0: 58 of them are held. -/
def shiftIn (reg : Nat) (b : Bool) : Nat := (2 * reg + bit01 b) % 2 ^ 58

/-- What the bits 39 and 58 steps ago add to a bit. -/
def scramblerTap (reg : Nat) : Bool := xor (bitOf reg 38) (bitOf reg 57)

/-- The transmitter: the scrambled bits, and the bits that the lane carried last. -/
def scramble : Nat → List Bool → List Bool × Nat
  | reg, [] => ([], reg)
  | reg, d :: ds =>
    let b := xor d (scramblerTap reg)
    let r := scramble (shiftIn reg b) ds
    (b :: r.1, r.2)

/-- The receiver: the same register holds what arrived, so that it is synchronised after 58 bits. -/
def descramble : Nat → List Bool → List Bool × Nat
  | reg, [] => ([], reg)
  | reg, b :: bs =>
    let r := descramble (shiftIn reg b) bs
    (xor b (scramblerTap reg) :: r.1, r.2)

/-- The bits of 32-bit words, bit 0 first. -/
def wordsBits (ws : List Nat) : List Bool := unpackBits (wordBytes ws)

/-- 32-bit words from bits, bit 0 first. -/
def bitsWords : Nat → List Bool → List Nat
  | 0, _ => []
  | n + 1, bs => (takeBits 32 bs).1 :: bitsWords n (takeBits 32 bs).2

/-- Words as they stand on a lane, descrambled. -/
def descrambleWords (reg : Nat) (ws : List Nat) : List Nat × Nat :=
  let r := descramble reg (wordsBits ws)
  (bitsWords ws.length r.1, r.2)

/-- Every bit of a word inverted. -/
def invertWord (w : Nat) : Nat := w ^^^ 0xFFFFFFFF

/-! ### Lanes -/

/-- A lane with no signal. -/
def lane0 : Lane := ⟨.down, false, false, false, 0, 0, 0, 0, 0, 0, 0, 0, 0⟩
def laneOf (s : State) (l : Nat) : Lane := mapGetD s.lanes l lane0
def setLane (s : State) (l : Nat) (x : Lane) : State := { s with lanes := mapPut s.lanes l x }

/-- LANE_DOWN (Table 4.5): a lane whose CDR is locked leaves it for LANE_HUNT at once. -/
def downLane (x : Lane) : Lane := { lane0 with cdr := x.cdr, state := if x.cdr then .hunt else .down }

/-- Whether a marker's signature and check are right (Table 4.4). -/
def markerOk (sig w0 w1 : Nat) : Bool :=
  let b (w i : Nat) : Nat := bitsOf w (8 * i + 7) (8 * i)
  bitsOf w0 31 8 == sig &&
  ((b w0 0 ^^^ b w0 1 ^^^ b w0 2 ^^^ b w0 3 ^^^ b w1 3 ^^^ b w1 2 ^^^ b w1 1) == b w1 0)

/-- The fields of a valid marker. -/
def markerFields (x : Lane) (w0 w1 skew : Nat) : Lane :=
  { x with link := bitsOf w0 7 6, lane := bitsOf w0 3 0, lanes := bitsOf w1 15 12, count := bitsOf w1 31 16, skew := skew }

/-- Whether every lane of a link is locked with consistent markers. -/
def linkReady (s : State) (run : List Nat) : Bool :=
  let xs := run.map (laneOf s)
  match xs with
  | [] => false
  | x :: _ =>
    xs.all (fun y => decide (y.state = .locked) && y.link == x.link && y.lanes == x.lanes && y.count == x.count && decide (y.skew ≤ 32)) &&
    x.lanes + 1 == run.length && (xs.map (·.lane)).eraseDups.length == run.length

/-- Whether the locked lanes of a link that is up disagree: in skew, in the link and lanes fields, or in the count of one and the
same marker. -/
def lanesDisagree (s : State) (run : List Nat) : Bool :=
  let xs := (run.map (laneOf s)).filter fun y => decide (y.state = .locked)
  xs.any (fun y => decide (32 < y.skew)) ||
    xs.any fun y => xs.any fun z => y.link != z.link || y.lanes != z.lanes ||
      (y.marks == z.marks && y.missed == 0 && z.missed == 0 && y.count != z.count)

/-- Deskew is complete: the lanes of a link count markers and words from here on. -/
def deskewed (s : State) (run : List Nat) : State :=
  run.foldl (fun s l => setLane s l { laneOf s l with marks := 0, words := 0 }) s

/-! ### The link word stream (R87) -/

/-- The words of one marker interval: 16,384, then the two of the marker. -/
abbrev markerInterval : Nat := 16386

/-- What a lane of a link that is up delivers of the words that stand on it: descrambled, turned to the right polarity, and
without the words of markers. -/
def laneDeliver (x : Lane) (ws : List Nat) : List Nat × Lane :=
  let d := descrambleWords x.shift ws
  let plain := if x.inverted then d.1.map invertWord else d.1
  ((plain.zipIdx.filter fun w => decide ((x.words + w.2) % markerInterval < 16384)).map (·.1),
    { x with shift := d.2, words := (x.words + ws.length) % markerInterval })

/-- Link words from the words of the lanes, beginning with a lane: each lane in its turn, until one has no more. -/
def weave (n : Nat) : Nat → Nat → List (List Nat) → List Nat
  | 0, _, _ => []
  | k + 1, turn, ls =>
    match atD ls turn [] with
    | [] => []
    | w :: ws => w :: weave n k ((turn + 1) % n) (ls.set turn ws)

/-- The lane whose word comes next: the first that is behind lane 0. -/
def nextTurn (xs : List Lane) : Nat :=
  let at' (x : Lane) : Nat := min x.words 16384 % 16384
  (xs.findIdx? fun x => at' x != at' (atD xs 0 lane0)).getD 0

/-- The words of a link's lanes, as its receiver orders them by the marker's lane field (R86). -/
def orderLanes (s : State) (run : List Nat) : List Nat :=
  (List.range run.length).filterMap fun k => run.find? fun l => (laneOf s l).lane == k

/-- The link words that a link's lanes deliver, and the lanes after it; `ws` gives the words of each lane in list order. -/
def linkWords (s : State) (run : List Nat) (ws : List (List Nat)) : List Nat × State :=
  let order := orderLanes s run
  let got := order.map fun l => laneDeliver (laneOf s l) (atD ws (run.idxOf l) [])
  let words := weave order.length ((got.map (·.1.length)).sum + 1) (nextTurn (order.map (laneOf s))) (got.map (·.1))
  (words, (order.zip got).foldl (fun s e => setLane s e.1 e.2.2) s)

end Sys2Proof.Machine
end

