-- ==== Sys2Proof/Machine/Ingress.lean ====
section
/-! DEFINITION. What ingress ports receive: lanes and links, MSL packets, SDI frames, Ethernet and ST 2110 packets, loss,
complete frames and regions of interest (R80 to R103, R13, R114). -/

namespace Sys2Proof.Machine

def setPortState (s : State) (p : ObjId) (v : Nat) : State := setProp s p pPortInState 0 v

/-- `port_in.link_latency` in ticks, as a frame's properties give it. -/
def latencyOf (p : ObjId) (m : Map Int) : Int := paramsOf p m pPortInLinkLatency 0 * (nsT : Nat)

/-- The properties of a port as a frame that starts now takes them. -/
def portParams (s : State) (p : ObjId) : Map Int := s.props.filter fun e => keyObj e.1 == p

/-- The declared rate of a port. -/
def portRate (s : State) (p : ObjId) : Nat × Nat := (max (getPropN s p pPortInRate 0) 1, max (getPropN s p pPortInRate 1) 1)

/-! ### Frame starts (R80, R81, R99, R100) -/

/-- The mean of the last 64 frame starts, and RATE_CHANGE where it leaves or enters 0.1 % of the declared period. -/
def measurePeriod (s : State) (p : ObjId) (t : Ticks) : State :=
  let x := portIn s p
  let starts := (t :: x.starts).take 64
  let s := setPortIn s p { x with starts := starts }
  if starts.length < 2 then s
  else
    let fp := (t - starts.getLastD t) / (starts.length - 1)
    let r := portRate s p
    let s := setProp s p pPortInFramePeriod 0 fp
    let out := decide (r.2 * secT < 1000 * ((fp * r.1 : Nat) - (r.2 * secT : Nat) : Int).natAbs)
    if out = x.rateOut then s
    else postEvent (updPortIn s p fun y => { y with rateOut := out }) 0x0104 p (fp % 2 ^ 48 + bit01 out * 2 ^ 63)

/-- Whether an engine of a port is gloved, with no spare about to take its work. -/
def portGloved (s : State) (p : ObjId) : Bool := (portIn s p).engines.any fun e => placeGloved s (unitIdx 5 e)

/-! ### The division of lines among ganged engines (R81) -/

/-- The gang position that writes line l of frame f, of h lines among n engines. -/
def gangPosition (f h l n : Nat) : Nat := (f * h + l) % n

/-- The engine that writes a line of a frame. -/
def lineEngine (s : State) (p : ObjId) (f line : Nat) : Option Nat :=
  let es := (portIn s p).engines
  es[gangPosition f (getPropN s p pPortInGeometry 1) line es.length]?

/-- Whether a line is written: its engine is not gloved with no spare to take its work (R446). -/
def lineWritten (s : State) (p : ObjId) (f line : Nat) : Bool :=
  match lineEngine s p f line with
  | some e => !placeGloved s (unitIdx 5 e)
  | none => true

/-- Too soon after the previous accepted frame start (R100). -/
def startsSoon (s : State) (p : ObjId) (t : Ticks) : Bool :=
  let r := portRate s p
  match (portIn s p).lastStart with
  | none => false
  | some l => decide (1000 * (t - l) * r.1 < 995 * r.2 * secT)

/-- What a frame start gives: the surface that its frame is written to, the frame's number and f of R81, and whether the port
takes the frame at all. -/
structure Started where
  surface : Option ObjId
  number : Nat
  turn : Nat
  taken : Bool
deriving DecidableEq, Repr

/-- A frame starts: what the port measures, and the surface that it writes, if it writes the frame. The number is the
stream's counter, or none where the port counts. -/
def ingressStart (s : State) (p : ObjId) (t : Ticks) (w h fmt scan : Nat) (counter : Option Nat) : Started × State :=
  let s := engineTakeover s p
  let s := updPortIn s p fun x => { x with lost := false }
  let s := setProps s p pPortInMeasured 0 [(w : Int), h, fmt, scan]
  let s := measurePeriod s p t
  let ok := w == getPropN s p pPortInGeometry 0 && h == getPropN s p pPortInGeometry 1 && fmt == getPropN s p pPortInFormat &&
    fmt != 0 && scan != 2
  if !ok then
    let n := counter.getD (portIn s p).number
    let s := if getProp s p pPortInState = 3 then s
      else postEvent (setPortState s p 3) 0x0103 p (w % 65536 + h % 65536 * 65536 + fmt % 65536 * 2 ^ 32 + scan % 256 * 2 ^ 48)
    (⟨none, n, 0, false⟩, portDropped s p n 3)
  else
    let s := if getProp s p pPortInState = 2 then s
      else
        let s := updPortIn (setPortState s p 2) p fun x => { x with frames := 0, number := 0 }
        postEvent s 0x0102 p (w % 65536 + h % 65536 * 65536 + fmt % 65536 * 2 ^ 32)
    let x := portIn s p
    let n := counter.getD x.number
    let s := setPortIn s p { x with frames := x.frames + 1, number := x.number + 1 }
    if startsSoon s p t then (⟨none, n, x.frames, false⟩, portDropped s p n 2)
    else
      let s := updPortIn s p fun x => { x with lastStart := some t }
      let ring := getPropN s p pPortInRing
      if portGloved s p then (⟨none, n, x.frames, true⟩, portDropped s p n 0)
      else if ring = 0 then (⟨none, n, x.frames, true⟩, s)
      else match writerClaim s ring with
        | some (o, s) => (⟨some o, n, x.frames, true⟩, s)
        | none => (⟨none, n, x.frames, true⟩, portDropped (reportOverrun s ring n) p n 0)

/-! ### Closing a frame -/

/-- The record of a port's frame (Table 5.2). -/
def portRecord (s : State) (p : ObjId) (number : Nat) (ts : Ticks) (flags : Nat) : FrameRec :=
  let r := portRate s p
  ⟨number, ts, p, flags, r.1, r.2, 0, 0, 0⟩

/-- The last sample write of a frame is accepted, and the lead engine issues its record (R13, R81). -/
def closeWritten (s : State) (p : ObjId) (f : OpenFrame) (flags : Nat) : State :=
  let s := updPortIn s p fun x => { x with opened := none }
  match f.surface with
  | none => s
  | some o =>
    let s := updPortIn s p fun x => { x with closing := (x.closing ++ [(o, f.tc, f.params)]).drop ((x.closing.length + 1) - 8) }
    issueRecord s o (portRecord s p f.number f.captured (f.flags ||| flags))

/-- A frame is given up and counted (R91). -/
def closeDropped (s : State) (p : ObjId) (f : OpenFrame) (cause : Nat) : State :=
  let s := dropOpen s p
  if f.surface.isSome then portDropped s p f.number cause else s

/-- Whether the surface that a port writes has the port's own format and geometry. -/
def surfFits (s : State) (p : ObjId) (f : Surf) : Bool :=
  fmtBase f.format == fmtBase (getPropN s p pPortInFormat) && fmtLayout f.format == 0 &&
  f.width == getPropN s p pPortInGeometry 0 && f.height == getPropN s p pPortInGeometry 1

/-- The spec does not say what samples land in a surface of another format: every plane holds a free value. -/
def writeOpen (s : State) (o : ObjId) : State :=
  match surfOf s o with
  | none => s
  | some f =>
    let v := freshValue s
    { v.2 with frame := memWrite v.2.frame f.base (toLe f.size v.1) }

/-- A stream sample as stored (Table 4.2). -/
def mapSample (bits v : Nat) : Nat := if bits = 10 then v * 4 else if bits = 16 then v * 256 else v

/-- The samples in each line of each plane of a format. -/
def planeShape (c w h : Nat) : List (Nat × Nat) :=
  (fmtLinearPlanes c w h).map fun q => (if fmtIs24 c then q.1 / 2 else q.1, q.2)

/-- How many samples a frame has. -/
def sampleCount (c w h : Nat) : Nat := ((planeShape c w h).map fun q => q.1 * q.2).sum

/-- Cut a list into pieces of n, at most as many as there are lines. -/
def cutLines (n : Nat) : Nat → List Nat → List (List Nat)
  | 0, _ => []
  | k + 1, l => l.take n :: cutLines n k (l.drop n)

/-- The planes of a frame from its samples in order. -/
def samplePlanes (c : Nat) : List (Nat × Nat) → List Nat → List (List (List Nat))
  | [], _ => []
  | q :: qs, l => planeWords c (cutLines q.1 q.2 l) :: samplePlanes c qs (l.drop (q.1 * q.2))

/-- Write a frame's samples, the whole of it in order. -/
def writeSamples (s : State) (p o : ObjId) (vals : List Nat) : State :=
  match surfOf s o with
  | none => s
  | some f =>
    if surfFits s p f then
      { s with frame := writeSurf s.frame f (samplePlanes f.format (planeShape f.format f.width f.height) vals) }
    else writeOpen s o

/-- Put pieces of samples over a frame's samples. -/
def overlay : Map (List Nat) → List Nat → List Nat
  | [], l => l
  | (at', xs) :: m, l => overlay m (l.take at' ++ xs.take (l.length - at') ++ l.drop (at' + xs.length))

/-- The samples that a surface holds, in order. -/
def surfSamples (s : State) (f : Surf) : List Nat :=
  (readSurf s.frame f).flatMap fun pl => (planeValues f.format pl).flatten

/-! ### MSL lanes and links (R84 to R87) -/

/-- The running port that receives on a lane, and the link or group there. -/
def laneUser (s : State) (l : Nat) : Option (ObjId × Nat) :=
  ((List.range 128).map (objId clsPortIn)).findSome? fun p =>
    if getProp s p pPortInState = 0 then none
    else ((portIn s p).runs.findIdx? fun r => r.contains l).map fun i => (p, i)

/-- The marker signature on a lane: "HLK" on a Hinge Link, "MSL" elsewhere (R85, R333). -/
def markerSig (s : State) (l : Nat) : Nat := if (hlLanesTaken s).contains l then 0x484C4B else 0x4D534C

/-- Declare the loss of a port's signal (R99): once, until a signal follows. -/
def portLoss (s : State) (p : ObjId) (cause lane : Nat) : State :=
  let x := portIn s p
  if getProp s p pPortInState = 0 ∨ getProp s p pPortInKind = 3 ∨ x.lost then s
  else
    let s := postEvent s 0x0101 p (cause + lane % 256 * 256)
    let s := match x.opened with
      | some f => closeDropped s p f 4
      | none => s
    let s := updPortIn s p fun x => { x with lost := true, skipFrom := none, timestamp := none, buffer := [], nextSeq := none }
    setPortState s p 1

/-- A link of an MSL port goes down. -/
def linkDown (s : State) (p : ObjId) (i cause lane : Nat) : State :=
  let x := portIn s p
  if !bitOf x.linkUp i then s
  else portLoss (setPortIn s p { x with linkUp := setBit x.linkUp i false, synced := setBit x.synced i false }) p cause lane

/-- What a lane's loss means for the port that uses it (R86, R99): its link, or its SDI signal, is lost. -/
def laneLost (s : State) (l cause : Nat) : State :=
  match laneUser s l with
  | some (p, i) =>
    if getProp s p pPortInKind = 1 then linkDown s p i cause l
    else if getProp s p pPortInKind = 2 ∧ cause = 0 then portLoss s p 0 l
    else s
  | none => s

/-- Four markers in a row fail on a lane: LANE_DOWN, and LANE_HUNT again while its CDR is locked (R86). -/
def laneDown (s : State) (l : Nat) : State := laneLost (setLane s l (downLane (laneOf s l))) l 1

/-- The CDR of a lane unlocks for 1 µs. -/
def laneUnlock (s : State) (l : Nat) : State := laneLost (setLane s l lane0) l 0

/-- The CDR of a lane locks. -/
def laneLock (s : State) (l : Nat) : State :=
  let x := laneOf s l
  if x.state = .down then setLane s l { lane0 with cdr := true, state := .hunt } else setLane s l { x with cdr := true }

/-- The link that a lane belongs to: the port's, and its lanes. -/
def linkOf (s : State) (l : Nat) : Option (ObjId × Nat × List Nat) :=
  match laneUser s l with
  | none => none
  | some (p, i) => if getProp s p pPortInKind = 1 then some (p, i, atD (portIn s p).runs i []) else none

/-- Bring a link up, or find that its lanes disagree. -/
def linkCheck (s : State) (l : Nat) : State :=
  match linkOf s l with
  | none => s
  | some (p, i, run) =>
    let x := portIn s p
    if bitOf x.linkUp i then (if lanesDisagree s run then linkDown s p i 2 l else s)
    else if linkReady s run then
      deskewed (setPortIn s p { x with linkUp := setBit x.linkUp i true, lost := false }) run
    else s

/-- Whether the receiver takes link words from a lane: its port's link is up. -/
def streams (s : State) (l : Nat) : Bool :=
  match linkOf s l with
  | some (p, i, _) => bitOf (portIn s p).linkUp i
  | none => false

/-- A marker that is missing or fails its check on a locked lane: the fourth in a row takes the lane down. -/
def markerMissed (s : State) (l : Nat) : State :=
  let x := laneOf s l
  if x.state ≠ .locked then setLane s l { x with good := false }
  else if 3 ≤ x.missed then laneDown s l
  else setLane s l { x with missed := x.missed + 1, marks := x.marks + 1 }

/-- The two words of a marker as the lane carries them, descrambled, and the bits that the lane carried last. -/
def markerWords (w0 w1 : Nat) (gap : MarkerGap) : (Nat × Nat) × Nat :=
  let d := descrambleWords (gap.before % 2 ^ 58) [w0, w1]
  ((atD d.1 0 0, atD d.1 1 0), d.2)

/-- An alignment marker arrives (R84 to R86). -/
def markerStep (s : State) (l w0 w1 : Nat) (gap : MarkerGap) (skew : Nat) : State :=
  let x := laneOf s l
  let m := markerWords w0 w1 gap
  let u : Nat × Nat := (invertWord m.1.1, invertWord m.1.2)
  -- while the link is up its own words tell what the lane carried (R87)
  let x := if streams s l then x else { x with shift := m.2, words := 0 }
  match x.state with
  | .down => s
  | .hunt =>
    let plain := markerOk (markerSig s l) m.1.1 m.1.2
    if !plain && !markerOk (markerSig s l) u.1 u.2 then setLane s l { x with good := false }
    else
      let y := if plain then { markerFields x m.1.1 m.1.2 skew with inverted := false }
        else { markerFields x u.1 u.2 skew with inverted := true }
      if x.good ∧ gap.words = markerInterval then
        linkCheck (setLane s l { y with state := .locked, good := false, missed := 0, marks := 0 }) l
      else setLane s l { y with good := true }
  | .locked =>
    let f := if x.inverted then u else m.1
    if markerOk (markerSig s l) f.1 f.2 ∧ gap.words = markerInterval then
      linkCheck (setLane s l { markerFields x f.1 f.2 skew with missed := 0, marks := x.marks + 1 }) l
    else markerMissed s l

/-! ### MSL packets (R88 to R91) -/

/-- The length of a header by its type. -/
def mslHeaderWords (type : Nat) : Nat := if type = 1 then 8 else 4

/-- A header that fails counts as an error, and the receiver hunts again. While it hunts it tests only words of the sync
pattern and a defined type, so only such a header counts then (R90). -/
def mslError (s : State) (p : ObjId) (link : Nat) (tested : Bool) : State :=
  let x := portIn s p
  if bitOf x.synced link || tested then
    bumpProp (setPortIn s p { x with synced := setBit x.synced link false }) p pPortInHdrErrors
  else s

/-- A valid header that the open frame does not take (R90). -/
def mslReject (s : State) (p : ObjId) (link : Nat) : State :=
  bumpProp (updPortIn s p fun x => { x with synced := setBit x.synced link false }) p pPortInHdrErrors

/-- Whether every condition of R91 but the lines holds, and the lines. -/
def mslWhole (s : State) (p : ObjId) (f : OpenFrame) : Bool :=
  let l := max (getPropN s p pPortInLinks) 1
  f.tfs.isSome && f.starts == 2 ^ l - 1 && f.ends == 2 ^ l - 1

/-- The open frame completes once every condition holds. -/
def mslFinish (s : State) (p : ObjId) : State :=
  match (portIn s p).opened with
  | some f =>
    if mslWhole s p f && decide (f.height ≤ f.lines.length) then closeWritten s p f 0 else s
  | none => s

/-- A new frame counter closes the open frame (R91). -/
def mslClose (s : State) (p : ObjId) : State :=
  match (portIn s p).opened with
  | none => s
  | some f =>
    if f.tfs.isSome ∧ f.lines.length < f.height ∧ paramsOf p f.params pPortInPartialPolicy 0 = 1 then closeWritten s p f flPartial
    else closeDropped s p f 0

/-- E0 of R415: the start of exposure of line 0 of the open frame. -/
def exposureStart (p : ObjId) (f : OpenFrame) : Int :=
  (f.tfs.getD 0 : Nat) - latencyOf p f.params - (atD f.header 3 0 * nsT : Nat)

/-- FRAME_START on link 0: its arrival gives the capture timestamp, and the strobes compute their pulses. -/
def mslStartZero (s : State) (p : ObjId) (f : OpenFrame) : State :=
  let t := stampOf s.now
  let valid := bitOf (atD f.header 6 0) 12
  let f := { f with tfs := some t }
  let cap : Int := if valid then exposureStart p f + (atD f.header 4 0 * nsT / 2 : Nat)
    else (t : Nat) - latencyOf p f.params
  let f := { f with captured := cap.toNat, flags := if valid then flExpValid else 0 }
  let s := updPortIn s p fun x => { x with opened := some f }
  if valid then planStrobes s p (exposureStart p f) (getProp s p pPortInFramePeriod) else s

/-- A FRAME_START header. -/
def mslStart (s : State) (p : ObjId) (link : Nat) (hd : List Nat) : State :=
  let counter := atD hd 1 0 + atD hd 2 0 * 2 ^ 32
  -- a frame that was given up is not opened again by another link's FRAME_START (R90, R91)
  let isNew := match (portIn s p).opened with
    | some f => f.number != counter
    | none => (portIn s p).lastCounter != some counter
  let s :=
    if isNew then
      let s := mslClose s p
      let s := match (portIn s p).skipFrom with
        | some c => if c + 1 < counter then portDropped s p (counter - 1) 1 (counter - c - 1) else s
        | none => s
      let s := updPortIn s p fun x => { x with lastCounter := some counter, skipFrom := some counter }
      let w := bitsOf (atD hd 5 0) 15 0
      let h := bitsOf (atD hd 5 0) 31 16
      let pat := bitsOf (atD hd 6 0) 3 0
      let params := portParams s p
      let (g, s) := ingressStart s p s.now w h (if pat ≤ 4 then 0x10 + pat else 0) 0 (some counter)
      let f : OpenFrame := ⟨g.number, g.surface, none, hd, 0, 0, [], w, h, 0, 0, 0, [], [], none, params, false, g.turn⟩
      updPortIn s p fun x => { x with opened := some f }
    else s
  match (portIn s p).opened with
  | none => s
  | some f =>
    let f := { f with starts := f.starts ||| 2 ^ link }
    let s := updPortIn s p fun x => { x with opened := some f }
    mslFinish (if link = 0 ∧ f.tfs.isNone then mslStartZero s p f else s) p

/-- The samples of a line: sample j is bits 12j + 11 to 12j of the payload (R89). -/
def mslSamples (w : Nat) (payload : List Nat) : List Nat := bitsToWords w (unpackBits (wordBytes payload))

/-- A LINE header with its payload. -/
def mslLineStep (s : State) (p : ObjId) (link : Nat) (hd payload : List Nat) : State :=
  match (portIn s p).opened with
  | none => s
  | some f =>
    let line := bitsOf (atD hd 2 0) 15 0
    let links := max (getPropN s p pPortInLinks) 1
    if bitsOf (atD hd 0 0) 31 16 ≠ ceilDiv (f.width * 12) 32 ∨ f.height ≤ line ∨ line % links ≠ link ∨
        atD hd 1 0 ≠ f.number % 2 ^ 32 then mslReject s p link
    else
      let s := match f.surface with
        | none => s
        | some o =>
          match surfOf s o with
          | none => s
          | some g =>
            if !lineWritten s p f.turn line then s
            else if surfFits s p g then
              { s with frame := (surfPlanes g).foldl (fun m pl => writeLine m g pl line (mslSamples f.width payload)) s.frame }
            else writeOpen s o
      let lines := if f.lines.contains line then f.lines else f.lines ++ [line]
      mslFinish (updPortIn s p fun x => { x with opened := some { f with lines := lines } }) p

/-- A FRAME_END header: on link 0 it predicts the gap of exposure (R415). -/
def mslEndStep (s : State) (p : ObjId) (link : Nat) (hd : List Nat) : State :=
  match (portIn s p).opened with
  | none => s
  | some f =>
    if atD hd 1 0 ≠ f.number % 2 ^ 32 then mslReject s p link
    else
      let s := updPortIn s p fun x => { x with opened := some { f with ends := f.ends ||| 2 ^ link } }
      let s := match f.tfs with
        | some tfs =>
          if link = 0 ∧ bitOf (atD f.header 6 0) 12 ∧ getProp s p pPortInState = 2 then
            predictGaps s p (exposureStart p f) (getProp s p pPortInFramePeriod) (atD f.header 4 0 * nsT : Nat)
              ((stampOf s.now : Nat) - (tfs : Nat))
          else s
        | none => s
      mslFinish s p

/-- A packet's header on a link, with its payload (R90). -/
def mslPacket (s : State) (p : ObjId) (link : Nat) (hd payload : List Nat) : State :=
  let type := bitsOf (atD hd 0 0) 15 8
  let known := decide (1 ≤ type ∧ type ≤ 3)
  if getProp s p pPortInKind ≠ 1 ∨ getProp s p pPortInState = 0 ∨ getPropN s p pPortInLinks ≤ link ∨
      !bitOf (portIn s p).linkUp link then s
  else if bitsOf (atD hd 0 0) 7 0 ≠ 0xD5 ∨ !known ∨ hd.length ≠ mslHeaderWords type ∨
      (type ≠ 2 ∧ bitsOf (atD hd 0 0) 31 16 ≠ 0) ∨ crc32c (wordBytes hd.dropLast) ≠ hd.getLastD 0 then
    mslError s p link (known && bitsOf (atD hd 0 0) 7 0 == 0xD5)
  else
    let s := updPortIn s p fun x => { x with synced := setBit x.synced link true }
    match type with
    | 1 => mslStart s p link hd
    | 2 => mslLineStep s p link hd payload
    | _ => mslEndStep s p link hd

/-- What the link word stream carries between packets (R87). -/
abbrev idleWord : Nat := 0x07070707

/-- The receiver of a link (R90): idle words pass; a word of the sync pattern and a defined type begins a header, and its packet
follows; where that fails, or where a synchronised receiver meets anything else, it hunts from the next word. -/
def mslReceive (p : ObjId) (link : Nat) : Nat → List Nat → State → State
  | 0, _, s | _, [], s => s
  | n + 1, w :: ws, s =>
    let type := bitsOf w 15 8
    let k := mslHeaderWords type
    if w = idleWord then mslReceive p link n ws s
    else if bitsOf w 7 0 = 0xD5 ∧ 1 ≤ type ∧ type ≤ 3 ∧ k ≤ ws.length + 1 then
      let body := (w :: ws).drop k
      let len := bitsOf w 31 16
      let s := mslPacket s p link ((w :: ws).take k) (body.take len)
      if bitOf (portIn s p).synced link then mslReceive p link n (body.drop len) s else mslReceive p link n ws s
    else mslReceive p link n ws (mslError s p link false)

/-- Words arrive on the lanes of a link of an MSL port (R84 to R90): while the link is up, its receiver takes the link words.
`type` names the packet that they bring; a stream that begins with another one is another command's. -/
def mslArrive (s : State) (type : Nat) (p : ObjId) (link : Nat) (lanes : List (List Nat)) : State :=
  let x := portIn s p
  if getProp s p pPortInKind ≠ 1 ∨ getProp s p pPortInState = 0 ∨ getPropN s p pPortInLinks ≤ link ∨ !bitOf x.linkUp link then s
  else
    let got := linkWords s (atD x.runs link []) lanes
    let first := bitsOf ((got.1.find? (· != idleWord)).getD 0) 15 8
    if first = type ∨ first = 0 ∨ 3 < first then mslReceive p link got.1.length got.1 got.2 else s

/-! ### Ancillary data (R95) -/

/-- One ancillary record (Table 4.10). -/
def ancRecord (a : AncPacket) : List Byte :=
  let dc := a.words.length - 1
  let body := toLe 2 a.line ++ toLe 2 (a.hoffset % 4096 + bit01 a.chroma * 2 ^ 15 + bit01 (!a.sumOk) * 2 ^ 14) ++ toLe 1 a.did ++
    toLe 1 a.sdid ++ toLe 1 dc ++ toLe 1 0 ++ a.words.flatMap fun w => toLe 2 (w % 1024)
  padTo (roundUp body.length 4) body

/-- The records that fit, and whether some did not. -/
def ancFill (room : Nat) : List AncPacket → List Byte → Nat → List Byte × Nat × Bool
  | [], acc, n => (acc, n, false)
  | a :: as, acc, n =>
    let r := ancRecord a
    if acc.length + r.length ≤ room then ancFill room as (acc ++ r) (n + 1) else (acc, n, true)

/-- Write a frame's ancillary packets into the next surface of `port_in.anc_ring`. -/
def writeAnc (s : State) (p : ObjId) (packets : List AncPacket) (number : Nat) (ts : Ticks) (flags : Nat) : State :=
  let ring := getPropN s p pPortInAncRing
  if ring = 0 then s
  else match writerClaim s ring with
    | none => portDropped (reportOverrun s ring number) p number 0
    | some (o, s) =>
      match surfOf s o with
      | none => s
      | some f =>
        let q := (surfPlanes f).head?
        let room := (q.map fun x => x.stride * x.lines).getD 0
        let (body, n, cut) := ancFill (room - 8) packets [] 0
        let bytes := toLe 4 body.length ++ toLe 4 (n + bit01 cut * 2 ^ 31) ++ body
        issueRecord { s with frame := memWrite s.frame f.base (bytes.take room) } o (portRecord s p number ts flags)

/-- The packets that `port_in.anc_filter` selects. -/
def ancFilter (s : State) (p : ObjId) (l : List AncPacket) : List AncPacket :=
  let fs := getPropsN s p pPortInAncFilter 16
  l.filter fun a => fs.contains (a.did % 256 * 256 + a.sdid % 256) && (a.did % 256 * 256 + a.sdid % 256) != 0

/-! ### SDI (R92 to R95) -/

/-- The sampling of a base format: 4:2:2, 4:4:4 Y′CbCr or RGB, in native or double words. -/
def samplingClass (c : Nat) : Nat :=
  match fmtBase c with
  | 0x23 | 0x30 | 0x32 => 1
  | 0x21 | 0x34 => 2
  | 0x20 | 0x35 => 3
  | 0x43 => 4
  | 0x42 => 5
  | 0x41 => 6
  | _ => 0

/-- A measured sampling as a format code: the declared code where it stores that sampling. -/
def measuredFormat (s : State) (p : ObjId) (c : Nat) : Nat :=
  let d := getPropN s p pPortInFormat
  if samplingClass c ≠ 0 ∧ samplingClass c = samplingClass d then d else c

/-- Deliver audio to the router, sample by sample (R94, R97); the first sample's instant is t, and the others follow it at the
party's rate. -/
def deliverAudio (s : State) (p : ObjId) (channels : List (List Int)) (width : Nat) (t : Ticks) : State :=
  let n := srcChannels s p
  let rate := max (partyRate s p) 1
  let len := (channels.map (·.length)).foldl max 0
  (List.range len).foldl (fun s i =>
    captureAudioLine (deliverBlock s p ((List.range n).map fun k => rxSample width (atD (atD channels k []) i 0))) p
      (t + i * (secT * 65536) / rate)) s

/-- What SDI de-embedding delivers: synchronous PCM at 48 kHz alone, of 16 channels by ST 299-1 and of 32 by ST 299-2 (R289). -/
def deembed (g : SdiFrame) : List (List Int) :=
  let first := match g.standard with | .hd | .g3A | .g3BDL => 16 | _ => 32
  (g.audio.take first).map fun c => if c.pcm && c.synchronous && !c.fast then c.samples else []

/-- Deliver the audio of a flow's packets that has been buffered for two packet times (R290). -/
def releaseFlow (s : State) (p : ObjId) : State :=
  let x := portIn s p
  let due := x.held.filter fun e => decide (e.1 ≤ s.now)
  if due.isEmpty then s
  else
    let width := if bitOf (getPropN s p pPortInAudioFormat) 4 then 24 else 16
    due.foldl (fun s e => deliverAudio s p e.2 width e.1) (setPortIn s p { x with held := x.held.filter fun e => decide (s.now < e.1) })
def releaseFlows (s : State) : State := s.ports.foldl (fun s e => releaseFlow s (objId clsPortIn e.1)) s

/-- A supported mapping of Table 4.9: its links, and the rate of a lane in kb/s, at which ST 292-1 has every bit twice (R92). -/
def sdiMapping : SdiStandard → Option (Nat × Nat)
  | .hd | .g3A | .g3BDL => some (1, 2970000)
  | .g6 => some (1, 5940000)
  | .g12 => some (1, 11880000)
  | .quad12 => some (4, 11880000)
  | .dualHd | .g3BDS | .multi6 | .dual12 | .square12 => none

/-- Whether a port accepts a signal (Table 4.9): a supported mapping, at its rate or 1.001 below it, on as many links as the port
has, which lie at most 8 lines apart; ST 292-1 carries 10-bit 4:2:2 YCbCr alone. -/
def sdiAccepts (s : State) (p : ObjId) (g : SdiFrame) : Bool :=
  match sdiMapping g.standard with
  | none => false
  | some (links, rate) =>
    links == getPropN s p pPortInLinks && (g.laneRate == rate || g.laneRate == rate * 1000 / 1001) && decide (g.skew ≤ 8) &&
    (g.standard != .hd || !g.payloadId || (g.bits == 10 && samplingClass g.format == 1))

/-- Lines of two segments, the first segment's before the second's, at their progressive positions: line 0, 2, 4, and so on
belong to the first (R93). -/
def weaveSegments (lines : List (List Nat)) : List (List Nat) :=
  let first := (lines.length + 1) / 2
  (List.range lines.length).map fun i => atD lines (if i % 2 = 0 then i / 2 else first + i / 2) []

/-- The samples of a PsF frame in raster order, plane by plane. -/
def progressiveSamples : List (Nat × Nat) → List Nat → List Nat
  | [], l => l
  | q :: qs, l => (weaveSegments (cutLines q.1 q.2 l)).flatten ++ progressiveSamples qs (l.drop (q.1 * q.2))

/-- A port's declared rate as a quotient. -/
def inRate (s : State) (p : ObjId) : Nat × Nat := (max (getPropN s p pPortInRate 0) 1, max (getPropN s p pPortInRate 1) 1)

/-- The zero samples of a channel of an SDI frame that carries no audio: those of a declared frame period at 48 kHz (R270). -/
def silence (s : State) (p : ObjId) : List Int :=
  let r := inRate s p
  let per := secT * r.2 / r.1
  List.replicate (s.now * 48000 / secT - (s.now - per) * 48000 / secT) 0

/-- An SDI frame, from its start to its last sample. -/
def sdiFrame (s : State) (p : ObjId) (g : SdiFrame) : State :=
  if getProp s p pPortInKind ≠ 2 ∨ getProp s p pPortInState = 0 ∨ !sdiAccepts s p g then s
  else
    let t := stampOf s.now
    let sums := (g.anc.filter fun a => !a.sumOk).length
    let s := bumpProp s p pPortInStdCheckErrors 0 g.crcErrors
    let s := bumpProp s p pPortInStdCheckErrors 1 sums
    let code := if g.payloadId then g.format else 0x23
    let bits := if g.payloadId then g.bits else 10
    let scan := if !g.payloadId && g.scan == 2 then 1 else g.scan
    let fmt := if bits = 10 ∨ bits = 12 then measuredFormat s p code else 0
    if scan = 2 then
      let s := updPortIn s p fun x => { x with lost := false }
      setPortState (setProps s p pPortInMeasured 0 [(g.width : Int), g.height, fmt, scan]) p 4
    else
      let s := if getProp s p pPortInState = 4 then setPortState s p 1 else s
      let params := portParams s p
      let (st, s) := ingressStart s p s.now g.width g.height fmt scan none
      let running := getProp s p pPortInState == 2
      let cap := ((t : Nat) - latencyOf p params : Int).toNat
      let flags := if g.crcErrors = 0 ∧ sums = 0 then 0 else flStdCheck
      let s := if running then deliverAudio s p (if (deembed g).all (·.isEmpty) then [silence s p] else deembed g) 24 t else s
      let s := if st.taken then writeAnc s p (ancFilter s p g.anc) st.number cap flags else s
      match st.surface with
      | none => s
      | some o =>
        let f : OpenFrame := ⟨st.number, some o, some t, [], 0, 0, [], g.width, g.height, flags, 0, cap, [], [],
          frameTimecode g.anc, params, false, st.turn⟩
        let s := updPortIn s p fun x => { x with opened := some f }
        let c := getPropN s p pPortInFormat
        if g.samples.length < sampleCount c g.width g.height then closeDropped s p f 0
        else
          let vals := if scan = 1 then progressiveSamples (planeShape c g.width g.height) g.samples else g.samples
          closeWritten (writeSamples s p o (vals.map (mapSample bits))) p f 0

/-- No timing reference signal arrives (R99). -/
def sdiLoss (s : State) (p : ObjId) : State :=
  if getProp s p pPortInKind = 2 then portLoss s p 4 0xFF else s

/-! ### Ethernet and ST 2110 (R96 to R98) -/

/-- A MAC frame on an ETH port. -/
def macStep (s : State) (p : ObjId) (fcsOk : Bool) (badFec : Nat) (k : MacKind) : State :=
  if getProp s p pPortInKind ≠ 3 ∨ getProp s p pPortInState = 0 then s
  else
    let s := if fcsOk then s else bumpProp s p pPortInStdCheckErrors 0
    let s := bumpProp s p pPortInStdCheckErrors 2 badFec
    match k with
    | .arpQuery => emit s (.netReply p false)
    | .igmpQuery => emit s (.netReply p true)
    | _ => s

/-- Whether a leg of a port is configured (R98). -/
def legUsed (s : State) (p : ObjId) (leg : Nat) : Bool :=
  getProp s p pPortInParent leg != 0 && (leg == 0 || getProp s p pPortInFlow 1 != 0)

/-- A leg changes between UP and DOWN. -/
def setLeg (s : State) (p : ObjId) (leg : Nat) (up : Bool) : State :=
  if getProp s p pPortInPathState leg = int01 up then s
  else postEvent (setProp s p pPortInPathState leg (int01 up)) 0x0106 p (leg + 2 * bit01 up)

/-- The capture timestamp of a frame from its RTP timestamp, while the timebase is locked to PTP (Table 4.3). -/
def rtpInstant (arrival ts : Nat) : Ticks :=
  let n := arrival * 90000 / secT
  let k := n - (n + 2 ^ 32 - ts % 2 ^ 32) % 2 ^ 32
  min arrival (ceilDiv ((k + 1) * secT) 90000 - 1)

/-- Close an ST 2110 frame: complete where no sample is lacking, otherwise as `port_in.partial_policy` says. -/
def rtpClose (s : State) (p : ObjId) : State :=
  match (portIn s p).opened with
  | none => s
  | some f =>
    if getProp s p pPortInKind = 6 then
      let s := updPortIn s p fun x => { x with opened := none }
      if f.gap then
        if paramsOf p f.params pPortInPartialPolicy 0 = 1 then writeAnc s p f.anc f.number f.captured (f.flags ||| flPartial)
        else portDropped s p f.number 0
      else writeAnc s p f.anc f.number f.captured f.flags
    else
      let need := sampleCount (getPropN s p pPortInFormat) f.width f.height
      let whole := decide (need ≤ f.got)
      match f.surface with
      | none => dropOpen s p
      | some o =>
        match surfOf s o with
        | none => dropOpen s p
        | some g =>
          let whole := whole && (List.range f.height).all (lineWritten s p f.turn)
          if !whole ∧ paramsOf p f.params pPortInPartialPolicy 0 ≠ 1 then closeDropped s p f 0
          else
            let old := if whole ∨ !surfFits s p g then List.replicate need 0 else surfSamples s g
            closeWritten (writeSamples s p o (overlay f.rows old)) p f (if whole then 0 else flPartial)

/-- The first packet of a frame. -/
def rtpOpen (s : State) (p : ObjId) (arrival : Ticks) (k : RtpPacket) : State :=
  let kind := getProp s p pPortInKind
  let first := (portIn s p).timestamp.isNone
  let s := updPortIn s p fun x => { x with timestamp := some k.timestamp }
  if first ∧ kind = 4 ∧ k.offset ≠ 0 then s
  else
    let params := portParams s p
    let ptp := tbOnPtp s
    let cap := if ptp then rtpInstant (stampOf arrival) k.timestamp else (((stampOf arrival : Nat) : Int) - latencyOf p params).toNat
    let flags := if ptp then flPtpTime else 0
    if kind = 6 then
      let s := updPortIn s p fun x => { x with lost := false }
      let s := measurePeriod s p arrival
      let s := if getProp s p pPortInState = 2 then s
        else postEvent (updPortIn (setPortState s p 2) p fun x => { x with frames := 0, number := 0 }) 0x0102 p 0
      let n := (portIn s p).number
      let soon := startsSoon s p arrival
      let s := updPortIn s p fun x => { x with frames := x.frames + 1, number := n + 1 }
      if soon then portDropped s p n 2
      else
        let f : OpenFrame := ⟨n, none, some arrival, [], 0, 0, [], 0, 0, flags, 0, cap, [], [], none, params, false, n⟩
        updPortIn s p fun x => { x with opened := some f, lastStart := some arrival }
    else
      let fmt := if k.bits = 10 ∨ k.bits = 12 then (if fmtIs24 k.format then 0 else measuredFormat s p k.format)
        else if k.bits = 16 then (if fmtIs24 k.format then measuredFormat s p k.format else 0) else 0
      let (st, s) := ingressStart s p arrival k.width k.height fmt k.scan none
      match st.surface with
      | none => s
      | some o =>
        let f : OpenFrame := ⟨st.number, some o, some arrival, [], 0, 0, [], k.width, k.height, flags, 0, cap, [], [], none, params,
          false, st.turn⟩
        updPortIn s p fun x => { x with opened := some f }

/-- One packet of a flow in its order. -/
def rtpTake (s : State) (p : ObjId) (e : Ticks × RtpPacket) : State :=
  let k := e.2
  let x := portIn s p
  let gap : Bool := match x.nextSeq with | some n => k.seq % 65536 != n | none => false
  let s := setPortIn s p { x with nextSeq := some ((k.seq + 1) % 65536) }
  if getProp s p pPortInKind = 5 then
    let s := updPortIn s p fun x => { x with lost := false }
    let s := if getProp s p pPortInState = 2 then s else postEvent (setPortState s p 2) 0x0102 p 0
    let f := getPropN s p pPortInAudioFormat
    let due := e.1 + 2 * (packetSamples f * secT / if bitOf f 5 then 96000 else 48000)
    releaseFlow (updPortIn s p fun x => { x with held := x.held ++ [(due, k.audio)] }) p
  else
    let sums := (k.anc.filter fun a => !a.sumOk).length
    let s := bumpProp s p pPortInStdCheckErrors 1 sums
    -- what is missing may belong to the frame before or to the one that the packet opens
    let noteGap (s : State) : State := match (portIn s p).opened with
      | some f => if gap then updPortIn s p fun x => { x with opened := some { f with gap := true } } else s
      | none => s
    let s := noteGap s
    let isNew := (portIn s p).timestamp != some k.timestamp
    let s := if isNew then noteGap (rtpOpen (rtpClose s p) p e.1 k) else s
    let s := match (portIn s p).opened with
      | none => s
      | some f =>
        let have' := (mapGet f.rows k.offset).isSome
        let vals := k.samples.map (mapSample k.bits)
        let f := { f with
          rows := if vals.isEmpty ∨ have' then f.rows else mapPut f.rows k.offset vals
          got := if have' then f.got else f.got + vals.length
          flags := if k.checkFailed || decide (sums ≠ 0) then f.flags ||| flStdCheck else f.flags
          anc := f.anc ++ k.anc }
        updPortIn s p fun x => { x with opened := some f }
    if k.marker then rtpClose s p else s

/-- How far a sequence number lies ahead of another, modulo 65,536. -/
def seqAhead (a b : Nat) : Nat := (a + 65536 - b % 65536) % 65536

/-- Put a packet into the merge buffer in order of sequence number. -/
def seqInsert (base : Nat) (e : Ticks × RtpPacket) : List (Ticks × RtpPacket) → List (Ticks × RtpPacket)
  | [] => [e]
  | x :: xs => if seqAhead e.2.seq base < seqAhead x.2.seq base then e :: x :: xs else x :: seqInsert base e xs

/-- Release the packets of the merge buffer: the next in sequence, or one that has waited for `port_in.path_skew`. -/
def rtpDrain (s : State) (p : ObjId) : Nat → State
  | 0 => s
  | k + 1 =>
    let x := portIn s p
    match x.buffer with
    | [] => s
    | e :: rest =>
      let next : Bool := match x.nextSeq with | some n => n == e.2.seq % 65536 | none => true
      if next ∨ e.1 + getPropN s p pPortInPathSkew * usT ≤ s.now then
        rtpDrain (rtpTake (setPortIn s p { x with buffer := rest }) p e) p k
      else s

/-- An RTP packet of a port's flow, merged across legs (R97, R98). -/
def rtpStep (s : State) (p : ObjId) (k : RtpPacket) : State :=
  let kind := getProp s p pPortInKind
  if (kind ≠ 4 ∧ kind ≠ 5 ∧ kind ≠ 6) ∨ getProp s p pPortInState = 0 ∨ !legUsed s p k.leg then s
  else
    let s := releaseFlow (updPortIn s p fun x => { x with legSeen := x.legSeen.set k.leg (some s.now) }) p
    let s := setLeg s p k.leg true
    let s := rtpDrain s p (portIn s p).buffer.length
    if !legUsed s p 1 then rtpTake s p (s.now, k)
    else
      let x := portIn s p
      let base := x.nextSeq.getD k.seq
      if 32768 ≤ seqAhead k.seq base ∨ x.buffer.any (fun e => e.2.seq % 65536 == k.seq % 65536) then s
      else
        let b := seqInsert base (s.now, k) x.buffer
        rtpDrain (setPortIn s p { x with buffer := b }) p b.length

/-- A leg delivers nothing for 10 ms (R98). -/
def pathTimeoutStep (s : State) (p : ObjId) (leg : Nat) : State :=
  match atD (portIn s p).legSeen leg none with
  | some t => if t + 10 * msT ≤ s.now then setLeg s p leg false else s
  | none => s

/-- No packet or frame start arrives for `port_in.loss_timeout` (R99). -/
def lossTimeoutStep (s : State) (p : ObjId) : State :=
  let x := portIn s p
  let wait := getPropN s p pPortInLossTimeout * usT
  let kind := getProp s p pPortInKind
  let old (o : Option Ticks) : Bool := match o with | some t => decide (t + wait ≤ s.now) | none => true
  if getProp s p pPortInState = 0 then s
  else if (kind = 4 ∨ kind = 5 ∨ kind = 6) ∧ x.legSeen.all old ∧ x.legSeen.any Option.isSome then
    portLoss (releaseFlow (rtpDrain s p x.buffer.length) p) p 5 0xFF
  else if getProp s p pPortInState = 2 ∧ kind ≠ 5 ∧ old x.starts.head? then portLoss s p 3 0xFF
  else s

/-! ### Regions of interest (R102, R103) -/

/-- The samples of one region of a complete frame. -/
def roiSamples (s : State) (f : Surf) (sel x y w h : Nat) : List Nat :=
  let cfa := fmtIsCfa f.format
  let sel := if sel ≤ fmtRoiPlanes f.format then sel else 0
  let comps := (fmtComps f.format).zip (toComps f.format (readSurf s.frame f))
  (comps.filter fun c => cfa || sel == 0 || c.1.plane + 1 == sel).flatMap fun c =>
    let sx := if c.1.hs then 2 else 1
    let sy := if c.1.vs then 2 else 1
    (c.2.zipIdx.filter fun r => decide (y ≤ r.2 * sy ∧ r.2 * sy < y + h)).flatMap fun r =>
      (r.1.zipIdx.filter fun v => decide (x ≤ v.2 * sx ∧ v.2 * sx < x + w) &&
        (!cfa || sel == 0 || v.2 % 2 + 2 * (r.2 % 2) + 1 == sel)).map fun v => v.1.toNat

/-- The statistic of a region; a mean or an extreme of no sample is free. -/
def roiStat (s : State) (stat level : Nat) (vs : List Nat) : Nat × State :=
  if stat = 4 then ((vs.filter fun v => decide (level ≤ v)).length, s)
  else match vs with
    | [] => let v := freshValue s; (v.1 % 2 ^ 24, v.2)
    | v :: r =>
      (match stat with
       | 1 => (vs.foldl (fun a b => a + b) 0) % 2 ^ 64 / vs.length
       | 2 => r.foldl max v
       | _ => r.foldl min v, s)

/-- One region: the trigger that its crossing fires, and its value, its state and its crossing. -/
def roiStep (s : State) (p : ObjId) (f : Surf) (rc : FrameRec) (m : Map Int) (i : Nat) : Option ObjId × State :=
  let g (pid idx : Nat) : Nat := (paramsOf p m pid idx).toNat
  let stat := g pPortInRoiStat i
  if stat = 0 then (none, s)
  else
    let vs := roiSamples s f (g pPortInRoiPlane i) (g pPortInRoiRect (4 * i)) (g pPortInRoiRect (4 * i + 1))
      (g pPortInRoiRect (4 * i + 2)) (g pPortInRoiRect (4 * i + 3))
    let (v, s) := roiStat s stat (g pPortInRoiLevel i) vs
    let s := setProp s p pPortInRoiValue i v
    let now' (pid idx : Nat) : Bool := getProp s p pid idx == paramsOf p m pid idx
    let same := now' pPortInRoiStat i && now' pPortInRoiPlane i && now' pPortInRoiLevel i && now' pPortInRoiThreshold i &&
      now' pPortInRoiHyst i && now' pPortInRoiEdge i && now' pPortInRoiTrigger i &&
      (List.range 4).all fun k => now' pPortInRoiRect (4 * i + k)
    if !same then (none, s)
    else
      let th := g pPortInRoiThreshold i
      let was := atD (portIn s p).roi i none
      let above : Bool := if th ≤ v then true
        else if was.isNone ∨ v < th - g pPortInRoiHyst i then false else was.getD false
      let s := updPortIn s p fun x => { x with roi := x.roi.set i (some above) }
      let edge := g pPortInRoiEdge i
      if was.isNone ∨ was = some above ∨ (edge = 0 ∧ !above) ∨ (edge = 1 ∧ above) then (none, s)
      else
        let s := postEvent s 0x0107 p (rc.frame % 2 ^ 48 + i * 2 ^ 56 + bit01 above * 2 ^ 58)
        let trig := g pPortInRoiTrigger i
        (if trig = 0 then none else some trig, s)

/-- The regions of a complete frame; the triggers that their crossings fire are served in one step (R103, R302). -/
def roiSteps (s : State) (p : ObjId) (f : Surf) (rc : FrameRec) (m : Map Int) : State :=
  let r := (List.range 4).foldl (fun (a : List (ObjId × Ticks) × State) i =>
    let (trig, s) := roiStep a.2 p f rc m i
    (a.1 ++ (trig.toList.map fun o => (o, rc.ts)), s)) ([], s)
  fireAll r.2 2 r.1

/-- A region property is written: that region's state is reset. -/
def roiReset (s : State) (p : ObjId) (i : Nat) : State := updPortIn s p fun x => { x with roi := x.roi.set i none }

/-! ### A frame becomes complete (R13, R114) -/

/-- What a port does with its complete frame. -/
def portComplete (s : State) (p o : ObjId) (f : Surf) (rc : FrameRec) : State :=
  let x := portIn s p
  match x.closing.find? fun e => e.1 == o with
  | none => if getProp s p pPortInKind = 6 ∧ f.ring = getPropN s p pPortInAncRing then wrapProp s p pPortInFrames else s
  | some (_, tc, m) =>
    let s := setPortIn s p { x with closing := x.closing.filter fun e => e.1 != o }
    let s := wrapProp s p pPortInFrames
    let s := match tc with | some v => setProp s p pPortInTimecode 0 v | none => s
    if bitOf rc.flags 0 then s else roiSteps s p f rc m

/-- Both copies of the record fail: the frame is not complete, for its writer and for every reader (R14). -/
def frameMissing (s : State) (o : ObjId) (f : Surf) (rc : FrameRec) : State :=
  let s := setSurf s o { f with
    state := if surfLost f then .lost else .empty, wasLost := false, pend := none, copyA := ⟨rc, false⟩, copyB := ⟨rc, false⟩ }
  if objCls rc.source = clsPortIn then
    updPortIn s rc.source fun x => { x with closing := x.closing.filter fun e => e.1 != o }
  else s

/-- FRAME_COMPLETE: copy B of the record is accepted. -/
def frameComplete (s : State) (o : ObjId) (validA validB : Bool) : State :=
  match surfOf s o with
  | none => s
  | some f =>
    match f.pend with
    | none => s
    | some rc =>
      if f.state ≠ .writing then s
      else if !validA && !validB then frameMissing s o f rc
      else
        let n := s.orders + 1
        let f := { f with state := .complete, pend := none, done := n, doneAt := s.now,
                          copyA := ⟨rc, validA⟩, copyB := ⟨rc, validB⟩ }
        let s := setSurf { s with orders := n } o f
        let s := updRing s f.ring fun r => { r with newestAt := some (s.now, rc.rateNum, rc.rateDen) }
        let s := frameArrived s o
        let s := captureFrame s o
        if objCls rc.source = clsPortIn then portComplete s rc.source o f rc else s

end Sys2Proof.Machine
end

