-- ==== Sys2Proof/Machine/Heads.lean ====
section
/-! DEFINITION. What a head does at a hinge and between hinges: taking commits, choosing frames, failover, coverage, still
mode, display events and underruns (R59 to R64, R68, R75, R140, R146 to R154, R225 to R242, R307, R308). -/

namespace Sys2Proof.Machine

/-! ### What a commit changes -/

/-- The routes of a head. -/
def headRoutes (s : State) (h : Nat) : List ObjId :=
  (objsOf s clsRoute).filter fun r => getPropN s r pRouteHead == headObj h

/-- Clamp what the applied geometry narrows, and reduce the phase (R58, R224, R243). -/
def reclampHead (s : State) (h : Nat) : State :=
  let o := headObj h
  let s := setProps (clampRaster s o) o pHeadMatchLine 0 [clampInt 0 (getProp (clampRaster s o) o pHeadRaster 3 - 1) (getProp s o pHeadMatchLine)]
  let p := periodOf s o
  if getPropN s o pHeadCadence ≠ 0 ∧ p.1 ≤ getPropN s o pHeadPhase * nsT * p.2 then setProp s o pHeadPhase 0 (phaseOf s o / nsT : Nat)
  else s

/-- The surfaces that firmware allocated for a commit come into use, in place of those they replace (R216, R238, R288). -/
def installMade (s : State) (made : List (Nat × ObjId)) : State :=
  made.foldl (fun s m =>
    match headIdx m.1 with
    | some h =>
      let old := (headRt s h).holdSurf
      let s := if old = 0 then s else freeSurface s old
      setProp (updHead s h fun x => { x with holdSurf := m.2 }) m.1 pHeadHoldSurface 0 m.2
    | none =>
      if m.1 < 0x100000000 then
        let old := accOf s m.1
        setProp (if old = 0 then s else freeSurface s old) m.1 pTconvAccSurface 0 m.2
      else
        let k := m.1 - 0x100000000
        let s := match mapGet s.delayLines k with | some o => freeSurface s o | none => s
        { s with delayLines := mapPut s.delayLines k m.2, delayCount := mapDel s.delayCount (k / 16) }) s

/-- Free the hold surface of a head, and end still mode (R238). -/
def freeHold (s : State) (h : Nat) : State :=
  let old := (headRt s h).holdSurf
  let s := if old = 0 then s else freeSurface s old
  setProp (updHead s h fun x => { x with holdSurf := 0, capturing := false }) (headObj h) pHeadHoldSurface 0 0

/-- STILL_STATE at a change (R239). -/
def setStill (s : State) (h v : Nat) : State :=
  let o := headObj h
  if getPropN s o pHeadStillState = v then s
  else postEvent (setProp s o pHeadStillState 0 v) 0x0706 o (hingeArg s o v)

/-- A layer moves to its backup or primary (R152, R153). -/
def flipLayer (s : State) (h : Nat) (l : ObjId) (toBackup : Bool) (cause miss : Nat) : State :=
  let s := bumpProp (setProp s l pLayerOnBackup 0 (int01 toBackup)) l pLayerFailovers
  postEvent s (if toBackup then 0x0604 else 0x0605) l (hingeArg s (headObj h) (cause + miss * 256))

/-- A commit wrote `layer.route`, `layer.backup` or `layer.select` (R153). -/
def resetLayer (s : State) (h : Nat) (l : ObjId) : State :=
  let was := getProp s l pLayerOnBackup == 1
  let want := getProp s l pLayerSelect == 2
  let left := getPropN s l pLayerMissCount (bit01 was)
  let s := setLayerRt s l { layerRt s l with switchNext := none, good := [0, 0] }
  let s := setProps s l pLayerMissCount 0 [0, 0]
  if want && !was then flipLayer s h l true 1 left
  else if was && !want then flipLayer s h l false 2 left
  else s

/-- A LAYER is removed (R67): its lease is released. -/
def removeLayer (s : State) (l : ObjId) : State :=
  let x := layerRt s l
  let s := match x.leased with | some o => dropLease s o (.layer l) | none => s
  dropObject { s with layers := mapDel s.layers l } l

/-- A ROUTE is removed: a running one stops, and the object goes with its last job (R67, R140). -/
def removeRoute (s : State) (r : ObjId) : State :=
  let s := setRouteRt s r { routeRt s r with removed := true }
  match getProp s r pRouteState with
  | 0 => dropObject { s with routes := mapDel s.routes r } r
  | 1 => routeStop s r
  | _ => s

def removeObj (s : State) (o : ObjId) : State :=
  if objCls o = clsLayer then removeLayer s o else if objCls o = clsRoute then removeRoute s o else dropObject s o

/-- The units and rings of a running route follow its applied stages (R136, R137). -/
def reclaimRoute (s : State) (r : ObjId) : State :=
  let x := routeRt s r
  let us := ((routeStages s r).map (·.units)).flatten
  let gs := (routeStages s r).map (·.ring)
  let s := (x.ringsHeld.filter fun g => !gs.contains g).foldl (fun s g => unbindStage s r g) s
  let s := (x.units.flatten.filter fun u => !us.contains u).foldl (fun s u =>
    if objCls u = clsShaper then setProp (setProp (setProp s u pShaperRoute 0 0) u pShaperState 0 0) u pShaperSlices 0 10
    else setProp (setProp s u pTconvRoute 0 0) u pTconvState 0 0) s
  -- a stage that is no SHAPE stage any more gives its slices back
  let s0 := s
  let s := { s with slices := s.slices.filter fun z => decide (z.owner ≠ r) || resWaits s z ||
    (match (routeStages s r)[z.stage]? with | some g => g.kind == 1 | none => false) }
  claimUnits (restoreIfFreed s0 s (evalState s [] [])) r

/-- A new input sequence begins on the CONVERT stages of a route, and stage 0 waits for its new source (R150, R209, R220). -/
def newSequence (s : State) (r : ObjId) (th : Ticks) (source : Bool) : State :=
  let x := routeRt s r
  setRouteRt s r { x with stages := x.stages.zipIdx.map fun g =>
    let y := { g.1 with seqHinge := th, seqOrder := s.orders, prevWin := none, seen := [] }
    if source ∧ g.2 = 0 then { y with waiting := none } else y }

/-- The tone properties whose change starts the source peak again (R195). -/
def tonePids : List Nat :=
  [pShaperToneMode, pShaperToneBasis, pShaperToneTarget, pShaperToneKnee, pShaperToneSrcPeak, pShaperToneMeasure]

/-- What a hinge's changes to a stage start again: the source peak where a tone value changes, be it with the first unit
(R137, R195), and the whole stage where none of its kind stood there before. `s0` is the state before. -/
def stageChanged (s0 s : State) (r : ObjId) (g : StageCfg × Nat) (th : Ticks) : State :=
  let u := atD g.1.units 0 0
  let x := stageRt s r g.2
  match (routeStages s0 r)[g.2]? with
  | some old =>
    if old.kind ≠ g.1.kind then
      if stageBusy x then s else setStageRt s r g.2 { stageRt0 with seqHinge := th, seqOrder := s.orders }
    else if g.1.kind = 1 ∧ tonePids.any (fun pid => getProp s0 (atD old.units 0 0) pid != getProp s u pid) then
      setStageRt s r g.2 { x with toneReset := true }
    else s
  | none => if stageBusy x then s else setStageRt s r g.2 { stageRt0 with seqHinge := th, seqOrder := s.orders }

/-- The cursor of a playing route starts (R307). -/
def startCursor (s : State) (r : ObjId) : State :=
  match ringOf s (getPropN s r pRouteSource) with
  | some g =>
    let c0 : Int := tsOf s (atD (heldFrames g) (min (getPropN s r pRoutePlayPos) ((heldFrames g).length - 1)) 0)
    setRouteRt s r { routeRt s r with playStart := c0, playHinges := 0, selected := none, offered := none }
  | none => s

/-- What follows from the values that a commit applied to a running head's objects. `s0` is the state before. -/
def afterValues (s0 s : State) (h : Nat) (keys : List Nat) (th : Ticks) : State :=
  let diff := keys.filter fun k => getProp s0 (keyObj k) (keyPid k) (keyIdx k) != getProp s (keyObj k) (keyPid k) (keyIdx k)
  let routes := (headRoutes s h).filter fun r => getProp s r pRouteState != 0
  let hit (o pid : Nat) : Bool := diff.any fun k => keyObj k == o && keyPid k == pid
  let s := routes.foldl (fun s r =>
    let s := if hit r pRouteStageKind || hit r pRouteStageUnits || hit r pRouteStageRings then reclaimRoute s r else s
    let modes := (routeStages s r).any fun g => g.kind == 2 && hit (atD g.units 0 0) pTconvMode
    let s := if hit r pRouteSource || modes then newSequence s r th (hit r pRouteSource) else s
    (stagesIdx s r).foldl (fun s g => stageChanged s0 s r g th) s) s
  let s := (headRoutes s h).foldl (fun s r =>
    if getProp s r pRoutePlay = 1 ∧ (keys.any (fun k => keyObj k == r && keyPid k == pRoutePlay) || hit r pRoutePlayPos) then startCursor s r
    else s) s
  -- a commit that writes a lamp's duty ends what a fault rule forced (R416)
  keys.foldl (fun s k =>
    if objCls (keyObj k) = clsLamp ∧ keyPid k = pLampDuty then lampWritten s (objInst (keyObj k))
    else s) s

/-- Merge one commit into the active bank (R61, R62 step 3). -/
def mergeCommit (s : State) (h : Nat) (c : Commit) : State :=
  let s := updHead s h fun x => { x with commits := x.commits.filter fun d => decide (d.id ≠ c.id) }
  let s := installMade (fixLayers (applyDelta s c.values) c.values) c.made
  c.removes.foldl removeObj s

/-- The layers that a commit's values return to the route that `layer.select` names (R153). -/
def selectLayers (c : Commit) : List ObjId :=
  (c.values.filterMap fun e =>
    let p := keyPid e.1
    if objCls (keyObj e.1) = clsLayer ∧ (p = pLayerRoute ∨ p = pLayerBackup ∨ p = pLayerSelect) then some (keyObj e.1) else none).eraseDups

/-- A layer whose primary and backup came to be equal keeps the primary alone (Table 6.7). -/
def fixBackup (s : State) (l : ObjId) : State :=
  if getProp s l pLayerBackup = getProp s l pLayerRoute then setProp s l pLayerBackup 0 0 else s

/-- Apply commits of a head to its active bank, in order of staging completion. -/
def applyCommits (s : State) (h : Nat) (cs : List Commit) (th : Ticks) : State :=
  let keys := (cs.flatMap fun c => c.values.map (·.1)).eraseDups
  let s1 := cs.foldl (fun s c => mergeCommit s h c) s
  let ls := (cs.flatMap selectLayers).eraseDups.filter fun l => objExists s1 l
  let s1 := ls.foldl (fun s l => resetLayer (fixBackup s l) h l) s1
  let s1 := reclampHead s1 h
  afterValues s s1 h keys th

/-- Whether a property of a head differs between two states. -/
def headChanged (s0 s : State) (h pid n : Nat) : Bool :=
  getProps s0 (headObj h) pid 0 n != getProps s (headObj h) pid 0 n

/-! ### Charges and storage in force -/

/-- The charges in force follow the active configuration; a stopping route keeps its own (R145). -/
def recharge (s : State) : State :=
  let kept := s.charges.filter fun e =>
    decide (0x300000000 ≤ e.1) || (objCls e.1 == clsRoute && getProp s e.1 pRouteState == 2)
  let m := chargesOf s
  { s with charges := kept.foldl (fun m e => mapPut m e.1 e.2) m }

/-- Release the slices of routes that no longer run and are not about to, since an applied commit took them away (R174). -/
def releaseOrphans (s : State) : State :=
  let live := liveRoutes s
  let keep (z : SliceRes) : Bool :=
    decide (objCls z.owner ≠ clsRoute) || resWaits s z || getProp s z.owner pRouteState != 0 || live.contains z.owner
  let s1 := { s with slices := s.slices.filter keep }
  restoreIfFreed s s1 (evalState s1 [] [])

/-- A reservation at a hinge of its head: its values as they stand from here on, with the grants that have come due (R176);
none while it waits for its commit. -/
def dueRes (s : State) (r : SliceRes) : Option SliceRes :=
  if resWaits s r then none
  else
    let g := ((r.grants.filter fun g => decide (g.due ≤ s.now)).getLastD ⟨0, r.slices, r.got, r.starved, r.suspended⟩)
    some { r with by' := none, slices := g.slices, got := g.got, starved := g.starved, suspended := g.suspended,
                  grants := r.grants.filter fun g => decide (s.now < g.due) }

def putRes (s : State) (r r' : SliceRes) : State := { s with slices := s.slices.map fun x => if x = r then r' else x }

/-- A head's storage takes effect: HEAD_STORAGE at a change (R235). -/
def publishHead (s : State) (h : Nat) : State :=
  let o := headObj h
  match resOf s o 0 with
  | none => setProp s o pHeadSlices 0 0
  | some x =>
    match dueRes s x with
    | none => s
    | some r =>
      let ls := headLayers s h
      let old := (getPropN s o pHeadPrefetchApplied, ls.map (fun l => getProp s l pLayerStarved == 1), (headRt s h).suspended)
      let new' := (r.got, (List.range ls.length).map (bitOf r.starved), r.suspended)
      let s := putRes s x r
      let s := setProp (setProp s o pHeadPrefetchApplied 0 r.got) o pHeadSlices 0 r.slices
      let s := ls.zipIdx.foldl (fun s l => setProp s l.1 pLayerStarved 0 (int01 (bitOf r.starved l.2))) s
      let s := updHead s h fun x => { x with suspended := r.suspended }
      if old = new' then s
      else postEvent s 0x0708 o (hingeArg s o (r.got % 256 + r.starved % 65536 * 256 + bit01 r.suspended * 2 ^ 24))

/-- The tap counts of a head's running stages take effect: TAPS_CHANGED at a change (R176, Table 7.7). -/
def publishTaps (s : State) (h : Nat) : State :=
  (headRoutes s h).foldl (fun s r => (stagesIdx s r).foldl (fun s g =>
    match resOf s r g.2 with
    | none => s
    | some x =>
      match dueRes s x with
      | none => s
      | some y =>
        if g.1.kind ≠ 1 then s
        else
          let s := putRes s x y
          let per := 10 + y.slices / max g.1.units.length 1
          g.1.units.foldl (fun s u =>
            let old := getPropN s u pShaperTapsApplied
            let s := setProp (setProp s u pShaperTapsApplied 0 y.got) u pShaperSlices 0 per
            if old = y.got then s
            else postEvent s 0x0801 u (hingeArg s (headObj h) (y.got % 256 + y.want % 256 * 256 + per % 65536 * 65536))) s) s) s

/-! ### Choosing frames -/

/-- Whether a route is silent at a hinge (R151, R308). -/
def silentRoute (s : State) (h : Nat) (r : ObjId) (th : Ticks) : Bool :=
  if r = 0 ∨ !objExists s r then true
  else if getProp s r pRoutePlay = 1 then (routeRt s r).selected.isNone
  else
    let src := getPropN s r pRouteSource
    if objCls src = clsRing then
      match ringOf s src with
      | none => true
      | some g =>
        let p := periodOf s (headObj h)
        let last := match g.newestAt with | some x => max x.1 (routeRt s r).startHinge | none => (routeRt s r).startHinge
        let q : Nat × Nat := match ringNewest s g with | some x => (x.2.2.rateDen * secT, max x.2.2.rateNum 1) | none => (0, 1)
        decide (q.1 * p.2 + p.1 * q.2 < (th - last) * q.2 * p.2)
    else match surfOf s src with
      | some f => decide (f.state ≠ .complete) || surfFreeing s f
      | none => true

/-- Select the held frame of each playing route of a head (R307). -/
def playStep (s : State) (h : Nat) : State :=
  (headRoutes s h).foldl (fun s r =>
    if getProp s r pRoutePlay ≠ 1 ∨ getProp s r pRouteState ≠ 1 then s
    else match ringOf s (getPropN s r pRouteSource) with
      | some g =>
        let x := routeRt s r
        match (if g.cap = .frozen then playSelect s r g x.playStart x.playHinges else none) with
        | some i =>
          setProp (setRouteRt s r { x with selected := (heldFrames g)[i]?, playHinges := x.playHinges + 1 }) r pRoutePlayCursor 0 i
        | none => setRouteRt s r { x with selected := none, playHinges := x.playHinges + 1 }
      | none => setRouteRt s r { routeRt s r with selected := none }) s

/-- The newest member of a ring that a layer may compose (R146). -/
def ringCandidate (s : State) (g : Ring) (ok : Ticks → Bool) : Option (ObjId × FrameRec) :=
  ((ringMembers g).foldl (fun best o =>
    match surfOf s o with
    | none => best
    | some f =>
      match (if leaseable s f then surfFrame f else none) with
      | none => best
      | some rc =>
        if !ok rc.ts then best
        else match best with
          | none => some (o, f.done, rc)
          | some b => if b.2.1 < f.done then some (o, f.done, rc) else best)
    (none : Option (ObjId × Nat × FrameRec))).map fun b => (b.1, b.2.2)

/-- The candidate of a layer's current route (R146, R148, R308). -/
def layerCandidate (s : State) (l r : ObjId) : Option (ObjId × FrameRec) :=
  let one (o : ObjId) : Option (ObjId × FrameRec) :=
    match surfOf s o with
    | some f => if leaseable s f then (surfFrame f).map fun rc => (o, rc) else none
    | none => none
  let play := getProp s r pRoutePlay == 1
  if play && (routeStages s r).isEmpty then (routeRt s r).selected.bind one
  else
    let out := routeOutput s r
    if objCls out = clsRing then
      match ringOf s out with
      | none => none
      | some g =>
        let x := layerRt s l
        let same := match x.shown with | .frame _ _ _ q => q == r | _ => false
        ringCandidate s g fun ts =>
          play || (match mapGet x.lastTs r with | some t => if same then decide (t < ts) else decide (t ≤ ts) | none => true)
    else one out

/-- R152, before a layer chooses its frame: whether a switch took effect. -/
def failoverStep (s : State) (h : Nat) (l : ObjId) (th : Ticks) : Bool × State :=
  let x := layerRt s l
  let (sw, s) : Bool × State := match x.switchNext with
    | some b =>
      let left := getPropN s l pLayerMissCount (bit01 (getProp s l pLayerOnBackup == 1))
      (true, flipLayer (setLayerRt s l { x with switchNext := none }) h l b x.switchCause left)
    | none => (false, s)
  let routes := [getPropN s l pLayerRoute, getPropN s l pLayerBackup]
  let silent := routes.map fun r => silentRoute s h r th
  let miss := silent.zipIdx.map fun b => if b.1 then min (getPropN s l pLayerMissCount b.2 + 1) 255 else 0
  let good := silent.zipIdx.map fun b => if b.1 then 0 else min (atD (layerRt s l).good b.2 0 + 1) 65535
  let s := setProps s l pLayerMissCount 0 (miss.map Int.ofNat)
  let sel := getProp s l pLayerSelect
  let back := getProp s l pLayerOnBackup == 1
  let ff := getPropN s l pLayerFailoverFrames
  let rf := getPropN s l pLayerRevertFrames
  let y := { layerRt s l with good := good }
  if sel ≠ 0 then (sw, setProp (setLayerRt s l y) l pLayerOnBackup 0 (int01 (sel == 2)))
  else if !back then
    if atD routes 1 0 ≠ 0 ∧ ff ≤ atD miss 0 0 ∧ atD miss 1 0 = 0 then
      (sw, setLayerRt s l { y with switchNext := some true, switchCause := 0 })
    else (sw, setLayerRt s l y)
  else if ff ≤ atD miss 1 0 ∧ atD miss 0 0 = 0 then (sw, setLayerRt s l { y with switchNext := some false, switchCause := 1 })
  else if rf ≠ 0 ∧ rf ≤ atD good 0 0 then (sw, setLayerRt s l { y with switchNext := some false, switchCause := 0 })
  else (sw, setLayerRt s l y)

/-- Report what a layer composes (Table 6.7). -/
def publishLayer (s : State) (l : ObjId) : State :=
  match (layerRt s l).shown with
  | .frame o n _ _ => setProps s l pLayerFrame 0 [(n : Int), (o : Int)]
  | _ => setProps s l pLayerFrame 0 [(noFrame : Int), 0]

/-- Step 4 and the first half of step 5 for one layer: the lease that is to be released after all are taken. -/
def chooseFrame (s : State) (h : Nat) (l : ObjId) : Option ObjId × State :=
  let r := currentRoute s l
  let x := layerRt s l
  let o := headObj h
  if r = 0 then
    let s := setProps (setProps s l pLayerStale 0 [0]) l pLayerStaleRun 0 [0]
    (x.leased, publishLayer (setLayerRt s l { x with shown := .fallback, leased := none, reported := false, fell := false }) l)
  else
    match layerCandidate s l r with
    | some (f, rc) =>
      let run := getPropN s l pLayerStaleRun
      let s := addLease s f (.layer l)
      let s := if x.reported then postEvent s 0x0603 l (hingeArg s o run) else s
      let s := setProp (setProp s l pLayerStale 0 0) l pLayerStaleRun 0 0
      let y := { x with
        shown := .frame f rc.frame rc.ts r, leased := some f, reported := false, fell := false
        lastTs := mapPut x.lastTs r rc.ts }
      (x.leased, publishLayer (setLayerRt s l y) l)
    | none =>
      let s := bumpProp s l pLayerStaleCount
      let run := min (getPropN s l pLayerStaleRun + 1) 65535
      let s := setProp (setProp s l pLayerStaleRun 0 run) l pLayerStale 0 1
      let rep := run == getPropN s l pLayerStaleReport
      let s := if rep then postEvent s 0x0601 l (hingeArg s o run) else s
      let limit := getPropN s l pLayerHoldLimit
      let alive := match x.leased with
        | some f => (match surfOf s f with | some z => decide (z.state ≠ .lost) | none => false)
        | none => false
      if alive && (limit == 0 || decide (run ≤ limit)) then
        (none, publishLayer (setLayerRt s l { x with reported := x.reported || rep }) l)
      else
        let s := if x.fell then s else postEvent s 0x0602 l (hingeArg s o run)
        (x.leased, publishLayer (setLayerRt s l { x with shown := .fallback, leased := none, reported := true, fell := true }) l)

/-! ### Composition -/

/-- The visible rectangle of a layer for the frame that follows, with its whole destination and its source rectangle. -/
def layerRects (s : State) (h : Nat) (l : ObjId) : Rect × Rect × Rect :=
  let ra := rasterOf s (headObj h)
  let dx := getProp s l pLayerDest 0
  let dy := getProp s l pLayerDest 1
  let pic := match (layerRt s l).shown with
    | .frame o _ _ _ => if getProp s l pLayerStarved = 1 then none else (surfOf s o).map fun (f : Surf) => (f.format, f.width, f.height)
    | _ => none
  match pic with
  | some p =>
    let sr := srcRect p.1 (getPropsN s l pLayerSrcRect 4) p.2.1 p.2.2
    (clipRect dx dy sr.w sr.h ra.1 ra.2.1, ⟨dx, dy, sr.w, sr.h⟩, sr)
  | none =>
    let wh := ((layerRt s l).area).getD (ra.1, ra.2.1)
    (clipRect dx dy wh.1 wh.2 ra.1 ra.2.1, ⟨dx, dy, wh.1, wh.2⟩, ⟨0, 0, wh.1, wh.2⟩)

/-- Whether a layer shows a fetched frame. -/
def showsFrame (s : State) (l : ObjId) : Bool :=
  getProp s l pLayerStarved == 0 && (match (layerRt s l).shown with | .frame .. => true | _ => false)

/-- Whether a visible layer hides what lies below it (R236). -/
def layerOpaque (s : State) (l : ObjId) : Bool :=
  let mode := getProp s l pLayerAlphaMode
  let g := getProp s l pLayerGlobalAlpha
  if mode = 0 then true
  else if mode = 1 then g == 4095
  else if !showsFrame s l then g == 4095 && getProp s l pLayerFallbackColour 3 == 4095
  else
    let alpha := match (layerRt s l).shown with
      | .frame o _ _ _ => (match surfOf s o with | some f => fmtHasAlpha f.format | none => false)
      | _ => false
    g == 4095 && !alpha

/-- Step 6, coverage: from the top layer down (R236). -/
def coverage (s : State) (h : Nat) : State :=
  ((headLayers s h).reverse.foldl (fun (acc : List Rect × State) l =>
    let v := (layerRects acc.2 h l).1
    let vis := getProp acc.2 l pLayerVisible == 1
    let cov := !rectEmpty v && rectCovered v acc.1
    let s := setProp acc.2 l pLayerCovered 0 (int01 cov)
    (if vis && !cov && !rectEmpty v && layerOpaque s l then v :: acc.1 else acc.1, s)) (([] : List Rect), s)).2

/-- Remember the size of a composed layer's fetch rectangle (R228). -/
def noteArea (s : State) (h : Nat) (l : ObjId) : State :=
  if showsFrame s l && getProp s l pLayerVisible == 1 then
    let v := (layerRects s h l).1
    setLayerRt s l { layerRt s l with area := some (v.w, v.h) }
  else s

/-- One layer as it is composed (R228 to R230). -/
def layerPic (s : State) (h : Nat) (l : ObjId) : LayerPicture :=
  let rs := layerRects s h l
  let ycc := getProp s (headObj h) pHeadCompFormat == 1
  let grids := if showsFrame s l then
      (match (layerRt s l).shown with
        | .frame o _ _ _ => (surfOf s o).map fun (f : Surf) =>
          layerGrids f.format f.width f.height (getPropN s l pLayerChromaSiting) ycc (readSurf s.frame f)
        | _ => none)
    else none
  ⟨rs.2.1, rs.2.2, getPropN s l pLayerAlphaMode, getProp s l pLayerGlobalAlpha, getProps s l pLayerFallbackColour 0 4, grids⟩

/-- The components of the frame under way: the hold surface in STILL, else the layers over the background (R230, R239). -/
def frameGrids (s : State) (h : Nat) : List (List (List Int)) :=
  let o := headObj h
  let ra := rasterOf s o
  let ycc := getProp s o pHeadCompFormat == 1
  if (headRt s h).fromHold then
    match surfOf s (headRt s h).holdSurf with
    | some hs => layerGrids hs.format hs.width hs.height 2 ycc (readSurf s.frame hs)
    | none => []
  else
    let ls := (headLayers s h).filter fun l => getProp s l pLayerVisible == 1 && getProp s l pLayerCovered == 0
    composeFrame ycc ra.1 ra.2.1 (getProps s o pHeadBackground 0 3) (ls.map (layerPic s h))

/-! ### Still mode (R237 to R239) -/

/-- Whether two hinges compose the same in a layer. -/
def sameShown (a b : Shown) : Bool :=
  match a, b with
  | .frame o n _ _, .frame p m _ _ => o == p && n == m
  | .fallback, .fallback => true
  | _, _ => false

/-- Whether a head's hold surface can hold its frames. -/
def holdReady (s : State) (h : Nat) : Bool :=
  let o := headObj h
  let ra := rasterOf s o
  surfIs s (headRt s h).holdSurf (holdFormat s o) ra.1 ra.2.1 &&
    (match surfOf s (headRt s h).holdSurf with | some f => decide (f.state ≠ .lost) | none => false)

/-- Still mode at a hinge. -/
def stillStep (s : State) (h : Nat) (quiet : Bool) : State :=
  let o := headObj h
  let run := if quiet then min (getPropN s o pHeadStillRun + 1) 65535 else 0
  let s := setProp s o pHeadStillRun 0 run
  let after := getPropN s o pHeadStillAfter
  let st := getPropN s o pHeadStillState
  let can := quiet && decide (after ≠ 0) && holdReady s h && !(headRt s h).suspended
  let new' :=
    if !can then 0
    else if st = 1 then (if (headRt s h).captureUnder then 1 else 2)
    else if st = 2 then 2
    else if after ≤ run then 1 else 0
  let s := updHead s h fun x => { x with
    capturing := new' == 1, captureUnder := false, fromHold := new' == 2, underLines := 0, underAt := [] }
  let s := if new' = 1 then
      let n := s.orders + 1
      updSurf { s with orders := n } (headRt s h).holdSurf fun f =>
        { f with state := .writing, wasLost := surfLost f, order := n, writeMtc := f.mtc, pend := none
                 copyA := ⟨emptyRec (headRt s h).holdSurf f.position, true⟩, copyB := ⟨emptyRec (headRt s h).holdSurf f.position, true⟩ }
    else s
  setStill s h new'

/-! ### The hinge -/

/-- Whether a commit is due at a hinge at `th` (R59, R73, R75, R76). -/
def commitDue (s : State) (h : Nat) (th : Ticks) (c : Commit) : Bool :=
  !s.hif.brace && (match c.staged with | some t => decide (t < th) | none => false) &&
  (match c.release with | some t => decide (t ≤ th) | none => true) &&
  (!c.held || (match (headRt s h).heldUntil with | some u => decide (u ≤ th) | none => false))

/-- Commits in order of staging completion. -/
def insertStaged (c : Commit) : List Commit → List Commit
  | [] => [c]
  | x :: xs => if c.order < x.order then c :: x :: xs else x :: insertStaged c xs

/-- Commits in the order in which their completions are posted: by start, mailbox and count (R47, R61). -/
def commitKey (c : Commit) : Nat × Nat × Nat :=
  match c.src with
  | .request mb cnt _ st => (st, mb, cnt)
  | .removal mb cnt _ st => (st, mb, cnt)
  | .group gid _ _ => (0, 0, gid)

def keyLt (a b : Nat × Nat × Nat) : Bool :=
  decide (a.1 < b.1 ∨ a.1 = b.1 ∧ (a.2.1 < b.2.1 ∨ a.2.1 = b.2.1 ∧ a.2.2 < b.2.2))

def insertCount (c : Commit) : List Commit → List Commit
  | [] => [c]
  | x :: xs => if keyLt (commitKey c) (commitKey x) then c :: x :: xs else x :: insertCount c xs

/-- The outcome of an applied commit. -/
def outcomeOf (c : Commit) : Nat := if c.late.isSome then 1 else if c.held then 2 else 0

/-- Unstaged commits that this hinge would have taken have missed it (R60, R73). -/
def markMissed (s : State) (h : Nat) (th : Ticks) : State :=
  updHead s h fun x => { x with commits := x.commits.map fun c =>
    let wanted := match c.release with | some t => decide (t ≤ th) | none => true
    if wanted && c.missed.isNone && (match c.staged with | some t => decide (th ≤ t) | none => true) then { c with missed := some th } else c }

/-- Staging that completed on the first clock of this hasp line, and so was not taken, is late (R59, R60, R73): the event of
one that completes later comes with its staging. -/
def lateAtHinge (s : State) (h : Nat) (th : Ticks) : State :=
  if s.hif.brace then s
  else
    let now' := (headRt s h).commits.filter fun c => c.staged == some th && c.missed == some th && c.late.isNone && !c.held
    now'.foldl (fun s c =>
      let cause := if c.release.isSome then 2 else 0
      raiseLate (updCommit s h c.id fun d => { d with late := some cause }) h c cause 0) s

/-- Descriptor check failures (R68): the active bank stays, and every due commit is late. -/
def failDescriptors (s : State) (h : Nat) (due : List Commit) : State :=
  due.foldl (fun s c =>
    if c.late.isSome then s
    else raiseLate (updCommit s h c.id fun d => { d with late := some 1, badOnce := true }) h c 1 0) s

/-- Routes of a head that start, return to running or stop at a hinge (R140). -/
def moveRoutes (s : State) (h : Nat) (th : Ticks) (running : Bool) : State :=
  (headRoutes s h).foldl (fun s r =>
    let want := running && routeWanted s r
    match getPropN s r pRouteState with
    | 1 => if want then s else routeStop s r
    | _ => if want then
        let fresh := getProp s r pRouteState == 0
        let s := routeStart s r th
        if fresh && getProp s r pRoutePlay == 1 then startCursor s r else s
      else s) s

/-- `head.layers` (R227). -/
def listLayers (s : State) (h : Nat) : State :=
  let ls := (headLayers s h).take 16
  setProps s (headObj h) pHeadLayers 0 ((ls ++ List.replicate (16 - ls.length) 0).map Int.ofNat)

/-- The raster goes on to the frame that follows the hinge (R224). -/
def advanceRaster (s : State) (h : Nat) (first : Bool) : State :=
  let o := headObj h
  let x := headRt s h
  let count := getPropN s o pHeadHingeCount
  let f := if first then x.lineZero else frameStart s o (x.lineZero + 1)
  setHeadRt s h { x with
    prevZero := if first then none else some x.lineZero, prevHinge := x.frameHinge, frameHinge := count
    lineZero := f, nextHinge := lineAt s o f (haspLine s o), prefetched := false }

/-- Retiming (R226). -/
def retimeHead (s : State) (h : Nat) (th : Ticks) : State :=
  let o := headObj h
  let s := setRasterState s h 3
  let f := retimedStart s o th
  updHead s h fun x => { x with
    prevZero := none, prevHinge := x.frameHinge, frameHinge := getPropN s o pHeadHingeCount
    lineZero := f, nextHinge := lineAt s o f (haspLine s o), prefetched := false }

/-- The head stops at a hinge (R225). -/
def stopHead (s : State) (h : Nat) (th : Ticks) : State :=
  let s := (headLayers s h).foldl (fun s l =>
    let x := layerRt s l
    let s := match x.leased with | some o => dropLease s o (.layer l) | none => s
    publishLayer (setLayerRt s l { x with shown := .nothing, leased := none, switchNext := none }) l) s
  let s := moveRoutes s h th false
  let s := setStill (setProp (freeHold s h) (headObj h) pHeadStillRun 0 0) h 0
  let s := updHead s h fun x => { x with fromHold := false, prevZero := none, capturing := false }
  let s := { s with slices := s.slices.filter fun r => !(r.owner == headObj h) || resWaits s r }
  setRasterState s h 0

/-- Post the completions of applied commits in count order (R61). -/
def finishCommits (s : State) (h : Nat) (due : List Commit) (th : Ticks) : State :=
  (due.foldl (fun l c => insertCount c l) []).foldl (fun s c =>
    commitDone s h c stOk (outcomeOf c) (getPropN s (headObj h) pHeadHingeCount) th) s

/-- The AUDIO_CH objects whose AT_HINGE values a set of commits changes, with what they carried before. -/
def audioTouched (due : List Commit) : List ObjId :=
  ((due.flatMap fun c => c.values.map fun e => keyObj e.1).filter fun o => objCls o == clsAudioCh).eraseDups

/-- Steps 4 to 7 of Table 3.3. -/
def composeSteps (s : State) (h : Nat) (th : Ticks) (applied : Bool) (audioCh : List ObjId) (audioDests : List Nat)
    (olds : List (ObjId × OldPath)) : State :=
  let s := playStep s h
  let ls := headLayers s h
  let before := ls.map fun l => (l, (layerRt s l).shown)
  let (sw, s) := ls.foldl (fun (a : Bool × State) l => let r := failoverStep a.2 h l th; (a.1 || r.1, r.2)) (false, s)
  let (drops, s) := ls.foldl (fun (a : List (ObjId × ObjId) × State) l =>
    match chooseFrame a.2 h l with
    | (some o, s) => (a.1 ++ [(o, l)], s)
    | (none, s) => (a.1, s)) (([] : List (ObjId × ObjId)), s)
  let s := drops.foldl (fun s d => dropLease s d.1 (.layer d.2)) s
  let s := ls.foldl (fun s l => noteArea s h l) s
  let s := coverage s h
  let same := before.all fun b =>
    let x := layerRt s b.1
    sameShown b.2 x.shown && x.prevVisible == (getProp s b.1 pLayerVisible == 1) && x.prevStarved == (getProp s b.1 pLayerStarved == 1)
  let s := ls.foldl (fun s l => setLayerRt s l { layerRt s l with
    prevVisible := getProp s l pLayerVisible == 1, prevStarved := getProp s l pLayerStarved == 1 }) s
  let s := updHead s h fun x => { x with shownLayers := ls.filter fun l => getProp s l pLayerVisible == 1 && getProp s l pLayerCovered == 0 }
  let s := stillStep s h (!applied && !sw && same)
  audioRouter s (headRt s h).lineZero audioCh audioDests olds

/-! ### Events of the raster -/

/-- An event with a raster instant as its time (R240). -/
def postAt (s : State) (t : Ticks) (code : Nat) (o : ObjId) (arg : Nat) : State :=
  let s1 := postEvent { s with now := t } code o arg
  { s1 with now := max s.now t }

/-- Whether a head raises display events: RUNNING, and its unit not gloved (R240, R440). -/
def headShows (s : State) (h : Nat) : Bool :=
  getProp s (headObj h) pHeadRasterState == 2 && !placeGloved s (47 + h)

/-- The next instant of a line of the frame before or of the frame under way, and that frame's hinge. -/
def nextLine (s : State) (h n : Nat) : Ticks × Nat :=
  let x := headRt s h
  let o := headObj h
  match x.prevZero with
  | some f => if s.now ≤ lineAt s o f n then (lineAt s o f n, x.prevHinge) else (lineAt s o x.lineZero n, x.frameHinge)
  | none => (lineAt s o x.lineZero n, x.frameHinge)

/-- BLANK_START and LINE_MATCH, once at each instant. -/
def lineEvent (s : State) (h n code bit low : Nat) : State :=
  if !headShows s h then s
  else
    let e := nextLine s h n
    if bitOf (getPropN s (headObj h) pHeadDisplayEvents) bit && mapGet (headRt s h).lines bit != some e.1 then
      postAt (updHead s h fun x => { x with lines := mapPut x.lines bit e.1 }) e.1 code (headObj h) (e.2 % 2 ^ 32 * 2 ^ 32 + low)
    else tickTo e.1 s

/-- The instant of BLANK_START, and of LINE_MATCH. -/
def blankAt (s : State) (h : Nat) : Ticks := (nextLine s h (getPropN s (headObj h) pHeadRaster 1)).1
def matchAt (s : State) (h : Nat) : Ticks := (nextLine s h (getPropN s (headObj h) pHeadMatchLine)).1

def blankStep (s : State) (h : Nat) : State := lineEvent s h (getPropN s (headObj h) pHeadRaster 1) 0x0702 0 0

/-- LINE_MATCH comes after a BLANK_START of the same instant (R240). -/
def matchStep (s : State) (h : Nat) : State :=
  let n := getPropN s (headObj h) pHeadMatchLine
  lineEvent (if matchAt s h = blankAt s h then blankStep s h else s) h n 0x0703 1 n

/-- The events of a hinge's own instant precede the completions of its step 9 (R240). -/
def eventsAt (s : State) (h : Nat) (th : Ticks) : State :=
  if !headShows s h then s
  else
    let s := if blankAt s h = th then blankStep s h else s
    if matchAt s h = th then matchStep s h else s

/-- Every step of R62 at a hinge of a running head; `first` at H₀. -/
def runHinge (s : State) (h : Nat) (bad : List Nat) (first : Bool) : State :=
  let o := headObj h
  let th := (headRt s h).nextHinge
  let s := eventsAt (tickTo th s) h th
  let s := setTimeProp (wrapProp s o pHeadHingeCount) o pHeadHingeTime th
  let s := updHead s h fun x => { x with lastHinge := some th }
  let s := if first then setRasterState s h 2 else s
  let s := spareTakeover s h
  let s := lateAtHinge (markMissed s h th) h th
  let due := ((headRt s h).commits.filter fun c => commitDue s h th c).foldl (fun l c => insertStaged c l) []
  let failed := due.any fun c => bad.contains c.id
  let s := if failed then failDescriptors s h due else s
  let due := if failed then [] else due
  let s0 := s
  let auds := audioTouched due
  let dests := auds.map (audioDestOf s)
  let olds := auds.map fun c => (c, oldPath s c)
  let s := applyCommits s h due th
  let geometry := headChanged s0 s h pHeadCadence 1 || headChanged s0 s h pHeadRaster 4 || headChanged s0 s h pHeadPhase 1
  let egress := headChanged s0 s h pHeadCadence 1 || headChanged s0 s h pHeadRaster 4 || headChanged s0 s h pHeadCompFormat 1
  if getProp s o pHeadRun = 0 then
    -- the frame that would have followed gives the change instant of the channels that the commit changes (R284)
    let tc := (headRt (advanceRaster s0 h first) h).lineZero
    let s := publishHead (listLayers (recharge (freeStrayAccs (releaseOrphans (stopHead s h th)))) h) h
    let s := audioRouter s tc auds dests olds
    restoreIfFreed s0 (finishCommits (publishTaps s h) h due th) (evalState s [] [])
  else
    let s := if geometry && !first then retimeHead s h th else advanceRaster s h first
    let s := if getProp s o pHeadStillAfter = 0 ∧ (headRt s h).holdSurf ≠ 0 then freeHold s h else s
    let s := recharge (freeStrayAccs (releaseOrphans (moveRoutes s h th true)))
    let s := listLayers s h
    let s := publishTaps (publishHead s h) h
    -- at H₀ no previous hinge stands to compare with, so the hinge is not quiet (R237)
    let s := composeSteps s h th (!due.isEmpty || first) auds dests olds
    let s := egressHinge s h th egress
    -- a publish may start one job of a stage between two hinges (R138)
    let s := (headRoutes s h).foldl (fun s r =>
      setRouteRt s r { routeRt s r with stages := (routeRt s r).stages.map fun g => { g with published := false } }) s
    finishCommits s h due th

/-- Whether the unit of a head is gloved with no spare to take its work. -/
def headDead (s : State) (h : Nat) : Bool :=
  placeGloved s (47 + h) && !s.works.any fun w => w.kind == 4 && w.spare.isSome && !w.test && unitIdx 4 w.index == unitAt s (47 + h)

/-- HINGE. -/
def hingeStep (s : State) (h : Nat) (bad : List Nat) : State :=
  let o := headObj h
  if getProp s o pHeadRasterState ≠ 2 ∧ getProp s o pHeadRasterState ≠ 3 then s
  else if headDead s h then
    -- the egress engines keep the timing and repeat the last pixel (R446)
    freezePicture (advanceRaster (tickTo (headRt s h).nextHinge s) h false) h
  else settleFrees (runHinge s h bad false)

/-- HEAD_START_H0 (R225). -/
def startHinge (s : State) (h : Nat) : State :=
  if getProp s (headObj h) pHeadRasterState ≠ 1 then s else settleFrees (runHinge s h [] true)

/-- RETIME_LINE_ZERO (R226). -/
def lineZeroStep (s : State) (h : Nat) : State :=
  if getProp s (headObj h) pHeadRasterState ≠ 3 then s else setRasterState (tickTo (headRt s h).lineZero s) h 2

/-- What a head fetches of one surface: the surface, its fetch rectangle, and where that lands on the raster. -/
structure Fetched where
  surf : Surf
  src : Rect
  at' : Rect
deriving DecidableEq, Repr

/-- The surfaces that a head fetches for the frame that follows, in composition order: in STILL the hold surface alone
(R231, R239). -/
def fetchedLayers (s : State) (h : Nat) : List Fetched :=
  let ra := rasterOf s (headObj h)
  let full : Rect := ⟨0, 0, ra.1, ra.2.1⟩
  if (headRt s h).fromHold then ((surfOf s (headRt s h).holdSurf).map fun f => (⟨f, full, full⟩ : Fetched)).toList
  else (headRt s h).shownLayers.filterMap fun l =>
    let rs := layerRects s h l
    match (layerRt s l).shown with
    | .frame o _ _ _ =>
      if rectEmpty rs.1 || getProp s l pLayerStarved == 1 then none
      else (surfOf s o).map fun f => ⟨f, ⟨rs.2.2.x + (rs.1.x - rs.2.1.x), rs.2.2.y + (rs.1.y - rs.2.1.y), rs.1.w, rs.1.h⟩, rs.1⟩
    | _ => none

/-- The first raster line that depends on line `y` of a plane: its own, or with half the lines the one above the pair (R198). -/
def lineNeeds (f : Fetched) (vs : Bool) (y : Nat) : Nat :=
  let first := if vs then 2 * y - 1 else y
  (f.at'.y + (max (first : Int) f.src.y - f.src.y)).toNat

/-- The requests for what raster line `y` is the first to need of one surface: a line's byte span, or a row of tiles, of a _C
layout its metadata entries first and then the bytes that they give (R126, R231). -/
def fetchLine (s : State) (f : Fetched) (y : Nat) : List (Nat × Nat) :=
  (surfPlanes f.surf).zipIdx.flatMap fun e =>
    let p := e.1
    let q := planeSpan f.surf.format e.2 f.src
    let vs := (fmtComps f.surf.format).any fun c => c.plane == e.2 && c.vs
    let base := f.surf.base + p.off
    if fmtLayout f.surf.format = 0 then
      (((List.range (q.y1 - q.y0)).map (q.y0 + ·)).filter fun n => lineNeeds f vs n == y).map fun n =>
        (base + n * p.stride + q.x0 * 12 / 8, ceilDiv (q.x1 * 12) 8 - q.x0 * 12 / 8)
    else
      let tpr := tilesPerRow p.words
      let tiles := (List.range (ceilDiv q.x1 32 - q.x0 / 32)).map (q.x0 / 32 + ·)
      (((List.range (ceilDiv q.y1 8 - q.y0 / 8)).map (q.y0 / 8 + ·)).filter fun t => lineNeeds f vs (max (8 * t) q.y0) == y).flatMap fun t =>
        let slot (x : Nat) : Nat := base + (t * tpr + x) * 384
        if fmtLayout f.surf.format = 2 then
          let entry (x : Nat) : Nat := f.surf.base + p.metaOff + 2 * (t * tpr + x)
          (entry (q.x0 / 32), 2 * tiles.length) ::
            (tiles.map fun x => (slot x, mtcFetch (leNat (memRead s.frame (entry x) 2)))).filter fun e => e.2 != 0
        else tiles.map fun x => (slot x, 384)

/-- The fetch requests of a frame in line order, each with the instant at which scan-out needs its first pixel (R231). -/
def fetchFrame (s : State) (h : Nat) : State :=
  let o := headObj h
  let fs := fetchedLayers s h
  (List.range (getPropN s o pHeadRaster 1)).foldl (fun s y => fs.foldl (fun s f =>
    (fetchLine s f y).foldl (fun s e =>
      emit s (.fetch h e.1 e.2 (pixelAt s o (headRt s h).lineZero y f.at'.x.toNat))) s) s) s

/-- PREFETCH_START: H+1L (R59, R231). -/
def prefetchStep (s : State) (h : Nat) : State :=
  let o := headObj h
  if getProp s o pHeadRasterState ≠ 2 ∧ getProp s o pHeadRasterState ≠ 3 then s
  else
    let s := replayResume (tickTo (afterHinge s h) s) h
    if (headRt s h).prefetched then s else fetchFrame (updHead s h fun x => { x with prefetched := true }) h

/-! ### Commits on a stopped head (R64, R225) -/

/-- Bring a head that is not running to what its applied state asks for. -/
def startOrStop (s0 s : State) (h : Nat) : State :=
  let o := headObj h
  let run := getProp s o pHeadRun == 1 && getProp s o pHeadCadence != 0
  let place (s : State) : State :=
    let f := firstHinge s o s.now
    updHead s h fun x => { x with startedAt := s.now, lineZero := f.1, nextHinge := f.2, prevZero := none }
  match getPropN s o pHeadRasterState with
  | 0 => if run then setRasterState (place s) h 1 else s
  | 1 =>
    if !run then
      let s1 := { s with slices := s.slices.filter fun r => !(r.owner == headObj h) || resWaits s r }
      setRasterState (freeHold (restoreIfFreed s s1 (evalState s1 [] [])) h) h 0
    else if headChanged s0 s h pHeadCadence 1 || headChanged s0 s h pHeadRaster 4 || headChanged s0 s h pHeadPhase 1 ||
        headChanged s0 s h pHeadHaspLine 1 then place s
    else s
  | _ => s

/-- A commit applies to a head whose raster is stopped. -/
def applyIdle (s : State) (h : Nat) (c : Commit) : State :=
  let o := headObj h
  let s1 := applyCommits s h [c] s.now
  let s1 := startOrStop s s1 h
  let s1 := if getProp s1 o pHeadStillAfter = 0 ∧ (headRt s1 h).holdSurf ≠ 0 then freeHold s1 h else s1
  -- tap counts change at a hinge alone (R176)
  let s1 := publishHead (listLayers (recharge (freeStrayAccs (releaseOrphans s1))) h) h
  let s1 := commitDone s1 h c stOk 3 (getPropN s1 o pHeadHingeCount) s1.now
  settleFrees s1

/-- Whether a head counts as stopped for R64. -/
def headIdle (s : State) (h : Nat) : Bool := decide (getPropN s (headObj h) pHeadRasterState ≤ 1)

/-- COMMIT_STAGING_COMPLETE (R57, R60, R64, R73, R75). -/
def stagingDone (s : State) (h id : Nat) : State :=
  match commitOf s h id with
  | none => s
  | some c =>
    if c.staged.isSome then s
    else
      let n := (headRt s h).nextOrder + 1
      let s := updCommit (updHead s h fun x => { x with nextOrder := n }) h id fun d => { d with staged := some s.now, order := n }
      let c := { c with staged := some s.now, order := n }
      if headIdle s h then
        match c.release with
        | some t => if s.now < t then s else applyIdle s h c
        | none => applyIdle s h c
      else if s.hif.brace then updCommit s h id fun d => { d with held := true }
      else match c.missed with
        | some t =>
          let cause := if c.release.isSome then 2 else 0
          raiseLate (updCommit s h id fun d => { d with late := some cause }) h c cause (linesBetween s (headObj h) t s.now)
        | none => s

/-- GROUP_RELEASE_TIME: T comes for a group bank of a stopped head (R73). -/
def releaseTime (s : State) (h id : Nat) : State :=
  match commitOf s h id with
  | none => s
  | some c =>
    match c.release with
    | none => s
    | some t =>
      let s := tickTo t s
      if c.staged.isSome && headIdle s h then applyIdle s h c else s

/-! ### Display events and underruns -/


/-- Write the captured frame into the hold surface with its record (R239). -/
def writeHold (s : State) (h : Nat) (grids : List (List (List Int))) : State :=
  let x := headRt s h
  let o := headObj h
  match surfOf s x.holdSurf with
  | none => s
  | some f =>
    let s := { s with frame := writeSurf s.frame f (fromComps f.format f.width f.height grids) }
    let r := (headRate s o).getD (0, 1)
    let rc : FrameRec := ⟨x.frameHinge, x.lastHinge.getD 0, o, flHold, r.1, r.2, x.frameHinge, x.holdSurf, 0⟩
    let n := s.orders + 1
    updSurf { s with orders := n } x.holdSurf fun f =>
      { f with state := .complete, done := n, doneAt := s.now, copyA := ⟨rc, true⟩, copyB := ⟨rc, true⟩ }

/-- FRAME_DONE: the last active pixel has been handed to egress (R240, R242). -/
def frameDoneStep (s : State) (h : Nat) : State :=
  let o := headObj h
  if getProp s o pHeadRasterState ≠ 2 then s
  else
    let x := headRt s h
    let t := pixelAt s o x.lineZero (getPropN s o pHeadRaster 1 - 1) (getPropN s o pHeadRaster 0)
    let grids := frameGrids s h
    let s := tickTo t s
    let s := if x.capturing && !placeGloved s (47 + h) then writeHold s h grids else s
    let s := sendFrame (updHead s h fun x => { x with picture := grids, pictureUnder := x.underAt }) h grids x.underAt
    if headShows s h && bitOf (getPropN s o pHeadDisplayEvents) 2 then
      postAt s t 0x0704 o (x.frameHinge % 2 ^ 32 * 2 ^ 32 + x.underLines % 65536 + bit01 x.fromHold * 65536)
    else tickTo t s

/-- UNDERRUN (R241, R242). -/
def underrunStep (s : State) (h line pixel position : Nat) : State :=
  let o := headObj h
  let x := headRt s h
  let l := (headLayers s h)[position]?
  let fetched := x.fromHold || (match l with
    | some l => getProp s l pLayerVisible == 1 && getProp s l pLayerCovered == 0 && showsFrame s l && !rectEmpty (layerRects s h l).1
    | none => false)
  if !headShows s h || !fetched || decide (getPropN s o pHeadRaster 1 ≤ line) || decide (getPropN s o pHeadRaster 0 ≤ pixel) ||
      x.underAt.any (fun u => u.1 == line) then s
  else
    let t := pixelAt s o x.lineZero line pixel
    let s := bumpProp s o pHeadUnderrunCount
    let s := match l with | some l => if x.fromHold then s else bumpProp s l pLayerUnderruns | none => s
    let s := updHead s h fun y => { y with underAt := y.underAt ++ [(line, pixel)], underLines := y.underLines + 1, captureUnder := y.captureUnder || y.capturing }
    if x.underLines = 0 then
      postAt s t 0x0705 o (x.frameHinge % 2 ^ 32 * 2 ^ 32 + line % 2 ^ 14 + pixel % 2 ^ 14 * 2 ^ 14 + position % 16 * 2 ^ 28)
    else tickTo t s

/-- PLAYBACK_OFFER: the selected frame of a playing route with stages is an input of stage 0 at H+1L (R308). -/
def playOffer (s : State) (r : ObjId) : State :=
  let x := routeRt s r
  if getProp s r pRoutePlay ≠ 1 ∨ getProp s r pRouteState ≠ 1 ∨ (routeStages s r).isEmpty then s
  else match headIdx (getPropN s r pRouteHead) with
    | none => s
    | some h =>
      let s := tickTo (afterHinge s h) s
      match x.selected with
      | none => s
      | some o => if x.offered = some o then s else offerFrame (setRouteRt s r { x with offered := some o }) r 0 o

end Sys2Proof.Machine
end

