-- ==== Sys2Proof/Machine/References.lean ====
section
/-! DEFINITION. References, their qualification and selection, the DPLL, the timebase, cadence pulses and the RTC
(R313 to R332). -/

namespace Sys2Proof.Machine

def refObj (n : Nat) : ObjId := objId clsRef n
def ref0 : RefRt := ⟨none, none, [], ⟨none, none, 0, 0, 0, none⟩⟩
def refRt (s : State) (n : Nat) : RefRt := mapGetD s.refs n ref0
def setRefRt (s : State) (n : Nat) (x : RefRt) : State := { s with refs := mapPut s.refs n x }

/-! ### The pending offset and the state of the timebase (R319, R321) -/

/-- What remains of Δ: it is removed at no more than `system.tb_slope`. -/
def tbRemaining (s : State) : Int :=
  let gone : Nat := getPropN s sysObj pSystemTbSlope * (s.now - s.tb.pullAt) / 1000000000
  if 0 ≤ s.tb.pull then max 0 (s.tb.pull - gone) else min 0 (s.tb.pull + gone)

/-- Start removing Δ from here. -/
def setPull (s : State) (d : Int) : State := { s with tb := { s.tb with pull := d, pullAt := s.now } }

/-- Whether the DPLL is at its last stage (R321). -/
def lastStage (s : State) : Bool :=
  let n := getPropN s sysObj pSystemDpllStage
  n == 2 || (n == 1 && getProp s sysObj pSystemDpllBw == 1000)

/-- `system.tb_state` as its table gives it. -/
def tbStateNow (s : State) : Nat :=
  if s.tb.pull ≠ 0 then 2
  else if getProp s sysObj pSystemRefSelected ≠ 0 then (if lastStage s then 3 else 1)
  else if s.tb.ever then 4 else 0

/-- TB_STATE at each change. -/
def settleTb (s : State) : State :=
  let n := tbStateNow s
  if getPropN s sysObj pSystemTbState = n then s
  else
    let s := setProp s sysObj pSystemTbState 0 n
    postEvent { s with tb := { s.tb with ever := s.tb.ever || n == 3 } } 0x1320 sysObj n

/-- A signed number of nanoseconds in 48 bits. -/
def ns48 (d : Int) : Nat := twos 48 (d.fdiv (nsT : Nat))

/-- The loop error |e − Δ| of the selected reference, in ticks (R321). -/
def loopError (s : State) : Nat :=
  let r := getPropN s sysObj pSystemRefSelected
  (getProp s r pRefPhaseError - tbRemaining s).natAbs

/-- The threshold and the dwell of a stage (Table 14.4). -/
def stageLimit (n : Nat) : Nat × Nat := if n = 0 then (1000 * nsT, secT) else (100 * nsT, 10 * secT)

/-- Judge the dwell of the stage at a new measurement of the selected reference. -/
def judgeDwell (s : State) : State :=
  let ok := decide (loopError s < (stageLimit (getPropN s sysObj pSystemDpllStage)).1)
  { s with tb := { s.tb with dwell := if ok then some (s.tb.dwell.getD s.now) else none } }

/-- Take a reference, or none, as the DPLL's input (R319). -/
def switchTo (s : State) (r : ObjId) : State :=
  let was := getPropN s sysObj pSystemRefSelected
  if was = r then s
  else
    let d : Int := if r = 0 ∨ getProp s r pRefKind = 5 then 0 else getProp s r pRefPhaseError
    let s := setProp (setProp s sysObj pSystemRefSelected 0 r) sysObj pSystemDpllStage 0 0
    let s := setPull s d
    let s := { s with tb := { s.tb with dwell := if r = 0 then none else some s.now } }
    let prev := if was = 0 then 0x1F else objInst was
    settleTb (postEvent s 0x0C02 r (prev + ns48 d * 65536))

/-! ### Selection (R317, R318) -/

def refState (s : State) (n : Nat) : Nat := getPropN s (refObj n) pRefState

/-- The frequency offset that agreement is judged by: against the holdover frequency, in 10⁻¹². -/
def refFreq (s : State) (n : Nat) : Int := getProp s (refObj n) pRefFreqOffset 1

/-- Whether two references agree. -/
def refAgree (s : State) (a b : Nat) : Bool :=
  decide ((refFreq s a - refFreq s b).natAbs ≤ getPropN s sysObj pSystemDisagreePpm * 1000)

/-- Whether a reference's frequency lies within its limit (R316). -/
def freqOk (s : State) (n : Nat) : Bool :=
  decide ((refFreq s n).natAbs ≤ getPropN s (refObj n) pRefLimitPpm * 1000)

/-- The QUALIFIED references in ascending instance order. -/
def qualified (s : State) : List Nat := (List.range 17).filter fun n => refState s n == 3

/-- The best of a list by rank and then by instance. -/
def bestRank (s : State) (l : List Nat) : Option Nat :=
  l.foldl (fun b n => match b with
    | some m => if getProp s (refObj n) pRefRank < getProp s (refObj m) pRefRank then some n else some m
    | none => some n) none

/-- The QUALIFIED references of the lowest rank. -/
def topSet (s : State) : List Nat :=
  match bestRank s (qualified s) with
  | none => []
  | some b => (qualified s).filter fun n => getProp s (refObj n) pRefRank == getProp s (refObj b) pRefRank

/-- REF_STATE at a change. -/
def setRefState (s : State) (n st cause : Nat) : State :=
  if refState s n = st then s
  else postEvent (setProp s (refObj n) pRefState 0 st) 0x0C01 (refObj n) (st + cause * 256)

/-- The member of a set whose frequency agrees with the most other QUALIFIED references. -/
def mostAgreed (s : State) (l : List Nat) : Option Nat :=
  let votes (n : Nat) : Nat := ((qualified s).filter fun m => m != n && refAgree s n m).length
  l.foldl (fun b n => match b with
    | some m => if votes m < votes n then some n else some m
    | none => some n) none

/-- What Table 14.3 gives for a pair: the outcome. -/
def pairOutcome (s : State) (inc oth : Nat) : Nat :=
  if !freqOk s inc && !freqOk s oth then 3
  else match bestRank s ((qualified s).filter fun n => n != inc && n != oth) with
    | none => 0
    | some third => if refAgree s third oth && !refAgree s third inc then 2 else 1

/-- The disagreements of the incumbent with members of its top set, one after another. -/
def judgePairs (inc : Nat) : List Nat → State → State
  | [], s => s
  | m :: ms, s =>
    if getPropN s sysObj pSystemRefSelected ≠ refObj inc ∨ refState s inc ≠ 3 then s
    else
      let q := (min (refObj inc) (refObj m), max (refObj inc) (refObj m))
      if refAgree s inc m then
        judgePairs inc ms { s with tb := { s.tb with pairs := s.tb.pairs.filter fun r => decide (r ≠ q) } }
      else
      let out := pairOutcome s inc m
      let s := if s.tb.pairs.contains q then s
        else postEvent { s with tb := { s.tb with pairs := s.tb.pairs ++ [q] } } 0x0C03 (refObj inc)
          (m + out * 256 + twos 32 (refFreq s m - refFreq s inc) * 2 ^ 32)
      let s := match out with
        | 2 => switchTo s (refObj m)
        | 3 => setRefState (setRefState s inc 4 5) m 4 5
        | _ => s
      judgePairs inc ms s

/-- One evaluation of selection. -/
def selectOnce (s : State) : State :=
  let top := topSet s
  match top with
  | [] => switchTo s 0
  | _ :: _ =>
    match top.find? fun n => getPropN s sysObj pSystemRefSelected == refObj n with
    | some inc => judgePairs inc (top.filter (· != inc)) s
    | none => match mostAgreed s top with
      | some n => switchTo s (refObj n)
      | none => s

/-- SELECTION_EVALUATE: a second pass follows where a pair has failed. -/
def selectEval (s : State) : State := selectOnce (selectOnce s)

/-- A reference changes state, and selection follows (R317). -/
def refChange (s : State) (n st cause : Nat) : State :=
  if refState s n = st then s else selectEval (setRefState s n st cause)

/-! ### Measurement (R315, R316) -/

/-- The alignment period of a reference in ticks as num ÷ den of its rate; none without one. -/
def alignPeriod (kind num den : Nat) : Option (Nat × Nat) :=
  match kind with
  | 1 | 2 | 4 => if num = 0 then none else some (num, max den 1)
  | 3 => some (1, 1)
  | _ => none

/-- The phase error of an event at `t`: the nearest multiple of A less the corrected arrival, reduced into
(−A ÷ 2, A ÷ 2]. -/
def alignError (num den : Nat) (t : Ticks) (delay : Int) : Int :=
  let a := den * secT
  let n := (2 * t * num + a) / (2 * a)
  let e : Int := (n * a / num : Nat) - ((t : Nat) - delay)
  let ticks : Int := (a / num : Nat)
  let r := e % max ticks 1
  if 2 * r ≤ ticks then r else r - ticks

/-- Whether e has kept to `ref.phase_limit` within the last second, less what the frequency offset explains. -/
def phaseOk (s : State) (n : Nat) (period : Int) (t : Ticks) (e : Int) (errs : List (Ticks × Int)) : Bool :=
  errs.all fun p =>
    let drift := (getProp s (refObj n) pRefFreqOffset 0 * ((t : Nat) - (p.1 : Nat) : Int)).fdiv 1000000000000
    let d := e - p.2 - drift
    let d := if period = 0 then d else (d + period / 2) % period - period / 2
    decide (d.natAbs ≤ getPropN s (refObj n) pRefPhaseLimit * nsT)

/-- A reference is measured: its phase error, and what follows for its state. -/
def measureRef (s : State) (n : Nat) (t : Ticks) (e : Int) (period : Int) : State :=
  let o := refObj n
  if getProp s o pRefEnable = 0 ∨ getProp s o pRefKind = 0 then s
  else
    let x := refRt s n
    let st := refState s n
    let recent := x.errs.filter fun p => decide (t < p.1 + secT)
    let inPhase := decide (st ≠ 2 ∧ st ≠ 3) || phaseOk s n period t e recent
    let inFreq := freqOk s n
    let s := setProp s o pRefPhaseError 0 e
    let s := setRefRt s n { x with lastEvent := some t, errs := (t, e) :: (if inPhase ∧ 2 ≤ st ∧ st ≤ 3 then recent else []) }
    let s := if getPropN s sysObj pSystemRefSelected = o then judgeDwell s else s
    if !inFreq then refChange (setRefRt s n { refRt s n with since := none }) n 4 2
    else if !inPhase then refChange (setRefRt s n { refRt s n with since := none }) n 4 3
    else if st = 2 ∨ st = 3 then s
    else refChange (setRefRt s n { refRt s n with since := some s.now }) n 2 1

/-- REF_EVENT: an event of a pin reference, with the detected rate. -/
def refEventStep (s : State) (n num den : Nat) : State :=
  let o := refObj n
  let kind := getPropN s o pRefKind
  if kind = 0 ∨ 6 ≤ kind ∨ getProp s o pRefEnable = 0 then s
  else
    let s := setProps s o pRefDetected 0 [(num : Int), den]
    match alignPeriod kind num den with
    | none => measureRef s n s.now 0 0
    | some (a, b) =>
      measureRef s n s.now (alignError a b s.now (getProp s o pRefDelay * (nsT : Nat))) (b * secT / a : Nat)

/-- REF_LOSS. -/
def refLossStep (s : State) (n : Nat) : State :=
  if refState s n < 2 then s
  else
    let s := setProps s (refObj n) pRefDetected 0 [0, 0]
    refChange (setRefRt s n { ref0 with ptp := { ref0.ptp with path := none } }) n 1 1

/-- REF_QUALIFIED. -/
def refQualifiedStep (s : State) (n : Nat) : State :=
  match (refRt s n).since with
  | some t =>
    if refState s n = 2 ∧ t + getPropN s (refObj n) pRefQualTime * secT ≤ s.now then refChange s n 3 4 else s
  | none => s

/-- `ref.qual_left`: seconds of qualification remaining. -/
def qualLeft (s : State) (n : Nat) : Nat :=
  match (refRt s n).since with
  | some t => if refState s n = 2 then ceilDiv (t + getPropN s (refObj n) pRefQualTime * secT - s.now) secT else 0
  | none => 0

/-- REF_FREQ_UPDATE. -/
def refFreqStep (s : State) (n : Nat) (a b : Int) : State :=
  if refState s n < 2 then s
  else
    let s := setProps s (refObj n) pRefFreqOffset 0 [clampInt (-2147483648) 2147483647 a, clampInt (-2147483648) 2147483647 b]
    if !freqOk s n then refChange (setRefRt s n { refRt s n with since := none }) n 4 2
    else s

/-- A write of `ref.enable`, or a restart: DISABLED, or ABSENT until an event arrives. -/
def refEnableStep (s : State) (n : Nat) : State :=
  let o := refObj n
  let off := getProp s o pRefEnable = 0 ∨ getProp s o pRefKind = 0
  if off then refChange (setRefRt s n ref0) n 0 0
  else if refState s n = 0 then refChange s n 1 0
  else s

/-! ### PTP (R314) -/

/-- The ETH port that brings a slave clock its messages: one that is not STOPPED. -/
def ptpHears (s : State) (o : ObjId) : Bool :=
  let p := getPropN s o pRefPort
  objCls p == clsPortIn && getProp s p pPortInKind == 3 && getProp s p pPortInState != 0

/-- The slave sends its delay request at t3: unicast in hybrid mode (R314). -/
def delayReq (s : State) (o : ObjId) : State :=
  emit s (.delayReq (getPropN s o pRefPort) (getPropN s o pRefPtpDomain) (getProp s o pRefPtpMode == 1))

/-- A PTP message for a slave clock. -/
def ptpStep (s : State) (n domain : Nat) (m : PtpMessage) : State :=
  let o := refObj n
  if getProp s o pRefKind ≠ 6 ∨ getProp s o pRefEnable = 0 ∨ getPropN s o pRefPtpDomain ≠ domain ∨ !ptpHears s o then s
  else
    let x := refRt s n
    let p := x.ptp
    let put (s : State) (q : PtpClock) : State := setRefRt s n { refRt s n with ptp := q }
    let measure (s : State) (q : PtpClock) : State :=
      match q.path with
      | none => put s q
      | some d =>
        measureRef (put s q) n s.now ((q.t1 : Nat) + d - ((q.t2 : Nat) - getProp s o pRefDelay * (nsT : Nat))) 0
    match m with
    | .announce prio gm utc =>
      let better : Bool := match p.master with
        | none => true
        | some q => decide (prio < q.1 ∨ (prio = q.1 ∧ gm ≤ q.2))
      if better then
        setProp (put s { p with master := some (prio, gm) }) sysObj pSystemUtcOffset 0 (clampInt (-1000) 1000 utc)
      else s
    | .sync origin two =>
      if p.master.isNone then s
      else if two then put s { p with pending := some s.now }
      else measure (delayReq s o) { p with t1 := origin, t2 := s.now, t3 := s.now, pending := none }
    | .followUp origin =>
      match p.pending with
      | none => s
      | some t2 => measure (delayReq s o) { p with t1 := origin, t2 := t2, t3 := s.now, pending := none }
    | .delayResp t4 =>
      if p.master.isNone ∨ (p.t1 = 0 ∧ p.t2 = 0) then s
      else
        measure s { p with path := some ((((p.t2 : Nat) : Int) - (p.t1 : Nat) + (t4 : Nat) - (p.t3 : Nat)).fdiv 2) }

/-! ### Pulling, stepping and stages -/

/-- TB_PULL_DONE. -/
def pullDone (s : State) : State :=
  if s.tb.pull = 0 ∨ tbRemaining s ≠ 0 then s else settleTb (setPull s 0)

/-- Whether a head is STARTING, RUNNING or RETIMING. -/
def headsBusy (s : State) : Bool := (List.range 24).any fun h => getProp s (headObj h) pHeadRasterState != 0

/-- Move the instants of a request. -/
def shiftReq (f : Ticks → Ticks) (r : Request) : Request := { r with start := f r.start, bell := f r.bell }

/-- Move what the interfaces, rings, routes and ports measure in elapsed time. -/
def shiftPaths (s : State) (f : Ticks → Ticks) : State :=
  { s with
    flights := s.flights.map fun x => { x with deadline := f x.deadline, lastProgress := f x.lastProgress, req := shiftReq f x.req, resumes := x.resumes.map f }
    waiting := s.waiting.map (shiftReq f)
    mbs := s.mbs.map fun m => (m.1, { m.2 with bells := m.2.bells.map fun b => (b.1, f b.2) })
    dmaQueue := s.dmaQueue.map fun x => { x with req := shiftReq f x.req, budgetEnd := f x.budgetEnd }
    dma := s.dma.map fun x => { x with budgetEnd := f x.budgetEnd }
    evs := s.evs.map fun e => (e.1, { e.2 with lastSignal := e.2.lastSignal.map f })
    rings := s.rings.map fun e => (e.1, { e.2 with
      lastOverrun := e.2.lastOverrun.map f, collectEnd := e.2.collectEnd.map f, newestAt := e.2.newestAt.map fun x => (f x.1, x.2) })
    slices := s.slices.map fun r => { r with grants := r.grants.map fun g => { g with due := f g.due } }
    routes := s.routes.map fun e => (e.1, { e.2 with stages := e.2.stages.map fun x => { x with lastLate := x.lastLate.map f } })
    ports := s.ports.map fun e => (e.1, { e.2 with
      lastStart := e.2.lastStart.map f, starts := e.2.starts.map f, lastDropEvt := e.2.lastDropEvt.map f
      legSeen := e.2.legSeen.map (Option.map f), buffer := e.2.buffer.map (fun b => (f b.1, b.2)), held := e.2.held.map fun b => (f b.1, b.2) })
    laneTxs := s.laneTxs.map fun e => (e.1, { e.2 with lastEvt := e.2.lastEvt.map f, declared := none })
    outs := s.outs.map fun e => (e.1, { e.2 with silentTo := f e.2.silentTo, failedAt := e.2.failedAt.map f }) }

/-- Move what the other parts of the block measure in elapsed time. -/
def shiftParts (s : State) (f : Ticks → Ticks) : State :=
  { s with
    hls := s.hls.map fun e => (e.1, { e.2 with
      window := e.2.window.map fun m => { m with firstRetry := m.firstRetry.map f, sentAt := f m.sentAt }
      stalled := e.2.stalled.map fun m => (m.1, m.2.1, f m.2.2), lastValid := f e.2.lastValid, t1 := none
      waitSince := e.2.waitSince.map f })
    tdms := s.tdms.map fun e => (e.1, { e.2 with edges := e.2.edges.map f, glitchAt := e.2.glitchAt.map f })
    keys := { s.keys with slots := s.keys.slots.map fun e => (e.1, { e.2 with due := f e.2.due }) }
    cc := { s.cc with faults := s.cc.faults.map f, matrix := s.cc.matrix.map fun x => { x with since := f x.since } }
    refs := s.refs.map fun e => (e.1, { e.2 with lastEvent := e.2.lastEvent.map f, since := e.2.since.map f, errs := [] })
    tb := { s.tb with rtcAt := f s.tb.rtcAt, lastDisc := s.tb.lastDisc.map f, dwell := s.tb.dwell.map f, pulses := [] }
    pcs := s.pcs.map fun e => (e.1, { e.2 with refreshed := e.2.refreshed.map f, trained := e.2.trained.map f })
    chains := s.chains.map fun e => (e.1, { e.2 with lastLatch := e.2.lastLatch.map f, shiftFrom := e.2.shiftFrom.map f })
    strobes := s.strobes.map fun e => (e.1, { e.2 with lastEnd := e.2.lastEnd.map f, lastEvt := e.2.lastEvt.map f })
    trigs := s.trigs.map fun e => (e.1, { e.2 with lastFired := e.2.lastFired.map f, lastEvt := e.2.lastEvt.map f })
    power := { s.power with
      entry := s.power.entry.map fun x => (x.1, f x.2), resetAt := s.power.resetAt.map f, braceAt := s.power.braceAt.map f
      handover := s.power.handover.map fun h => { h with begun := f h.begun } } }

/-- Move what is measured in elapsed time to the stepped timebase (log entry 14). -/
def shiftTimes (s : State) (d : Int) : State :=
  let f (t : Ticks) : Ticks := ((t : Nat) + d).toNat
  shiftParts (shiftPaths s f) f

/-- TB_STEP: firmware steps the timebase by what remains of Δ, where `system.tb_step_allow` permits (R320). -/
def stepTimebase (s : State) : State :=
  let d := tbRemaining s
  let allow := getProp s sysObj pSystemTbStepAllow
  if d.natAbs ≤ getPropN s sysObj pSystemTbStepThreshold * nsT ∨ allow = 0 ∨ (allow = 1 ∧ headsBusy s) then s
  else
    let s := shiftTimes { s with now := ((s.now : Nat) + d).toNat } d
    let s := setPull s 0
    let s := { s with tb := { s.tb with retiming := some s.now } }
    let s := (List.range 17).foldl (fun s n =>
      if 2 ≤ refState s n then setProp s (refObj n) pRefPhaseError 0 (getProp s (refObj n) pRefPhaseError - d) else s) s
    let s := (List.range 24).foldl (fun s h =>
      match getPropN s (headObj h) pHeadRasterState with
      | 0 => s
      | 1 =>
        let f := firstHinge s (headObj h) s.now
        updHead s h fun x => { x with startedAt := s.now, lineZero := f.1, nextHinge := f.2, prevZero := none }
      | _ => retimeHead s h s.now) s
    settleTb (postEvent s 0x1321 sysObj (ns48 d))

/-- DPLL_STAGE_ADVANCE. -/
def stageAdvance (s : State) : State :=
  let n := getPropN s sysObj pSystemDpllStage
  match s.tb.dwell with
  | none => s
  | some t =>
    if getProp s sysObj pSystemRefSelected = 0 ∨ lastStage s ∨ s.now < t + (stageLimit n).2 then s
    else
      let s := setProp s sysObj pSystemDpllStage 0 (n + 1 : Nat)
      let s := { s with tb := { s.tb with dwell := if loopError s < (stageLimit (n + 1)).1 then some s.now else none } }
      settleTb s

/-- `system.tb_set` (R325): a correction from the reading at the request's start, where the state of the timebase permits. -/
def writeTbSet (s : State) (sec nsf : Nat) (start : Ticks) : State :=
  let r := getPropN s sysObj pSystemRefSelected
  if r ≠ 0 ∧ (getProp s r pRefKind = 6 ∨ getProp s r pRefKind = 7) then s
  else settleTb (setPull s ((timeOfPair sec nsf : Nat) - (start : Nat) : Int))

/-- A copy of the timebase counter disagrees with the DPLL and is gloved (R438). -/
def copyMismatch (s : State) (copy : Nat) : State :=
  if s.tb.gloved.isSome then s else { s with tb := { s.tb with gloved := some copy } }

/-! ### Cadence (R326, R327) -/

/-- Whether a head uses a cadence: in its active bank, or in what a pending, held or group bank would produce. -/
def headUses (s : State) (h : Nat) (c : ObjId) : Bool :=
  let o := headObj h
  let uses (v : State) : Bool := getProp v o pHeadRun == 1 && getPropN v o pHeadCadence == c
  uses s || (headRt s h).commits.any fun k => uses (applyDelta s k.values)

/-- `cadence.users`: heads and chains bound to a cadence. -/
def cadenceUsers (s : State) (c : ObjId) : Nat :=
  ((List.range 24).filter fun h => headUses s h c).length +
  ((List.range 8).filter fun n => getPropN s (chainObj n) pChainSource == c).length

/-- A write of a cadence's rate or offset: taken only while nothing uses the cadence (R327). -/
def writeCadence (s : State) (c : ObjId) (es : List (Nat × Nat × Int)) : State :=
  if cadenceUsers s c ≠ 0 then s
  else
    let s := es.foldl (fun s e => setProp s c e.1 e.2.1 e.2.2) s
    let r := (getPropN s c pCadenceRate 0, getPropN s c pCadenceRate 1)
    postEvent { s with tb := { s.tb with pulses := mapDel s.tb.pulses (objInst c) } } 0x0D01 c (r.1 % 2 ^ 32 + r.2 % 65536 * 2 ^ 32)

/-- CADENCE_PULSE: the next pulse of the grid. -/
def cadencePulseStep (s : State) (n : Nat) : State :=
  let c := objId clsCadence n
  let t := match mapGet s.tb.pulses n with
    | some l => firstPulse s c (max s.now (l + 1))
    | none => firstPulse s c s.now
  let s := tickTo t s
  chainSource { s with tb := { s.tb with pulses := mapPut s.tb.pulses n t } } c

/-! ### The RTC (R328) -/

/-- Set the RTC's reading. -/
def putRtc (s : State) (ticks : Nat) : State := { s with tb := { s.tb with rtcTicks := ticks, rtcAt := s.now } }

/-- RTC_STATE (Table 14.9). -/
def rtcState (s : State) (st : Nat) (correction : Int) : State :=
  if getPropN s sysObj pSystemRtcState = st ∧ correction = 0 then s
  else postEvent (setProp s sysObj pSystemRtcState 0 st) 0x1322 sysObj (st + twos 32 correction * 2 ^ 32)

/-- Whether the selected reference disciplines the RTC. -/
def rtcSource (s : State) : Bool :=
  let r := getPropN s sysObj pSystemRefSelected
  match getPropN s r pRefKind with
  | 6 => true
  | 3 => getProp s r pRefTraceable == 1
  | 7 => match mapGet s.hls 0 with | some x => x.traceable | none => false
  | _ => false

/-- RTC_DISCIPLINE: the RTC reads `ticks`, and has drifted by `drift` steps. -/
def disciplineRtc (s : State) (ticks : Nat) (drift : Int) : State :=
  let early : Bool := match s.tb.lastDisc with | some t => decide (s.now < t + 64 * secT) | none => false
  if getProp s sysObj pSystemTbState ≠ 3 ∨ !rtcSource s ∨ early then s
  else
    let want := s.now * 32768 / secT
    let d : Int := (want : Nat) - (ticks : Nat)
    let s := { s with tb := { s.tb with lastDisc := some s.now } }
    if 32768 ≤ d.natAbs * 1000 then rtcState (putRtc s want) 2 d
    else
      let s := setProp (putRtc s ticks) sysObj pSystemRtcTrim 0 (clampInt (-512) 511 (getProp s sysObj pSystemRtcTrim + drift))
      rtcState s 2 0

/-- RTC_FREE: 24 h without a comparison. -/
def freeRtc (s : State) : State :=
  match s.tb.lastDisc with
  | some t => if getProp s sysObj pSystemRtcState = 2 ∧ t + 86400 * secT ≤ s.now then rtcState s 1 0 else s
  | none => s

/-- `system.rtc_set`: sets the RTC while it is not DISCIPLINED. -/
def writeRtcSet (s : State) (sec ticks : Nat) : State :=
  if getProp s sysObj pSystemRtcState = 2 then s
  else
    let old := rtcNow s
    let new' := sec * 32768 + ticks % 32768
    rtcState (putRtc s new') 1 ((new' : Nat) - (old : Nat))

end Sys2Proof.Machine
end

