-- ==== Sys2Proof/Machine/HingeLink.lean ====
section
/-! DEFINITION. The Hinge Link as a receiver: links, sequence numbers, time, the join, the map of the domain and group
commits (R72 to R74, R333 to R345). -/

namespace Sys2Proof.Machine

/-! ### Links (R334, R338) -/

/-- HL_LINK (Table 15.7): a link changes state. -/
def setHlState (s : State) (n st cause : Nat) : State :=
  if hlState s n = st then s
  else postEvent (setProp s sysObj pSystemHlState n st) 0x1330 sysObj (n + st * 256 + cause * 65536)

/-- HL_DOMAIN (Table 15.7). -/
def raiseDomain (s : State) (cause : Nat) : State :=
  postEvent s 0x1331 sysObj (domainState s + cause * 16 + ownNumber s * 65536 + getPropN s sysObj pSystemHlDomain 2 * 2 ^ 32)

def setDomain (s : State) (number depth count st : Nat) : State :=
  setProps s sysObj pSystemHlDomain 0 [(number : Int), depth, count, st]

/-- LINK (Table 15.3). The spec gives bits 31:16 the sender's domain state and depth: here bits 18:16 and 26:24. -/
def linkWord (s : State) (n : Nat) : Nat := bit01 (n != 0) + domainState s * 65536 + ownDepth s * 2 ^ 24
def sendLink (s : State) (n : Nat) : State := hlSend s n 0x01 [linkWord s n]

/-- The links of this device that face down and carry messages. -/
def downLinks (s : State) : List Nat := [1, 2, 3, 4].filter fun n => hlState s n == 3

/-- A JOIN of this device (R335): its serial and the requested number. -/
def sendJoin (s : State) : State :=
  hlSendSeq (setHl s 0 { hlOf s 0 with asked := true }) 0 0x20
    [Config.serial % 2 ^ 32, Config.serial / 2 ^ 32 % 2 ^ 32, getPropN s sysObj pSystemHlNumber % 65536]

/-- The device is WAITING from now on (Table 15.1). -/
def beginWait (s : State) : State := setHl s 0 { hlOf s 0 with waitSince := some s.now }

/-- The entries of the map that name a present device. -/
def mapCount (s : State) : Nat := ((List.range 512).filter fun d => mapPresent (mapEntry s d)).length

/-- A map that holds this device alone. -/
def mapAlone (s : State) : State :=
  let own := ownNumber s
  (List.range 512).foldl (fun s d => setProp s sysObj pSystemHlMap d (if d = own then 8 else 0)) s

/-- TOPOLOGY to every device below (R335, R342): the present entries, at most 251 to a fragment. -/
def sendTopology (s : State) : State :=
  let items := (List.range 512).filterMap fun d =>
    let e := mapEntry s d
    if mapPresent e then some [d * 2 ^ 23 + e % 65536] else none
  (downLinks s).foldl (fun s n => hlFragments s n 0x22 [] 251 items) s

/-- The map changed: the count of devices, the event, and, from the root, the news for everyone below. -/
def domainChanged (s : State) : State :=
  let s := raiseDomain (setProp s sysObj pSystemHlDomain 2 (mapCount s)) 6
  if actsAsRoot s then sendTopology s else s

/-! ### A link goes down (R338, R343) -/

/-- Members of this device in GROUP_REPORTs that the peer has not acknowledged: group and head. -/
def unackedReports (s : State) : List (Nat × ObjId) :=
  let h := hlOf s 0
  let contents := h.window.map (fun m => (m.typ, m.payload)) ++ h.stalled.map fun m => (m.1, m.2.1)
  contents.flatMap fun c =>
    if c.1 ≠ 0x32 then []
    else
      let ws := c.2.drop 2
      (List.range (ws.length / 4)).filterMap fun k =>
        let e := atD ws (4 * k) 0 + atD ws (4 * k + 1) 0 * 2 ^ 32
        if memberDevice e = ownNumber s ∧ outcomeApplied (atD ws (4 * k + 2) 0 % 256) then some (atD c.2 0 0, memberObject e) else none

/-- The group bank that a head still holds for a group. -/
def groupBank (s : State) (gid : Nat) (head : ObjId) : Option Commit :=
  match headIdx head with
  | some h => (headRt s h).commits.find? fun c => match c.src with | .group g _ _ => g == gid | _ => false
  | none => none

/-- Withdraw the group banks of a group on this device's heads that have not been taken. -/
def withdrawGroupHere (s : State) (g : GroupRun) : State :=
  g.members.foldl (fun s m =>
    if m.via.isSome then s
    else match headIdx (memberObject m.entry), groupBank s g.gid (memberObject m.entry) with
      | some h, some c => withdrawCommit s h c
      | _, _ => s) s

/-- The device leaves its domain upward (R343): GROUP_ORPHAN for the heads that took a bank of a group whose originator
lies outside its subtree. Where it is the link of this device that went down, it withdraws such groups, here and below. -/
def orphanGroups (s : State) (down : Bool) : State :=
  let lost := s.groups.filter (·.viaUp)
  let taken := (lost.flatMap fun g => g.members.filterMap fun m =>
    if m.via.isNone && (m.outcome.map outcomeApplied).getD false then some (g.gid, memberObject m.entry) else none) ++
    unackedReports s
  let s := (if down then lost else []).foldl (fun s g =>
    let s := withdrawGroupHere s g
    let s := (downLinks s).foldl (fun s n => if g.members.any (fun m => m.via == some n) then hlSendSeq s n 0x33 [g.gid] else s) s
    dropGroup s g.gid) s
  taken.eraseDups.foldl (fun s q => postEvent s 0x1332 sysObj (q.1 + q.2 * 2 ^ 32)) s

/-- UPLINK is ABSENT (R339). -/
def uplinkLost (s : State) : State := refLossStep s 16

/-- The device leaves its domain for a state outside it. -/
def leaveDomain (s : State) (st cause : Nat) : State :=
  let was := domainState s
  let s := if was = 1 then orphanGroups s (st == 3) else s
  let s := setProp s sysObj pSystemHlRoot 0 Config.serial
  let s := mapAlone (setDomain s (ownNumber s) 0 1 st)
  let s := if st = 2 then beginWait s else s
  uplinkLost (if was = st then s else raiseDomain s cause)

/-- Report MISSING for the members below a link that have not reported (R343). -/
def missingBelow (s : State) (n : Nat) : State :=
  s.groups.foldl (fun s g =>
    let gone := g.members.filter fun m => m.via == some n && m.outcome.isNone
    let s := gone.foldl (fun s m => recordOutcome s g.gid m.entry 6 0 none) s
    if g.origin then checkGroup s g.gid
    else settleGroup (sendReports s g.gid (gone.map fun m => { m with outcome := some 6, hinge := 0 })) g.gid) s

/-- Remove a link's subtree from the map; its numbers become free. -/
def dropSubtree (s : State) (n : Nat) : State :=
  let gone := (List.range 512).filter fun d => linkTo s d == some n
  if gone.isEmpty then s else domainChanged (gone.foldl (fun s d => setProp s sysObj pSystemHlMap d 0) s)

/-- A link end declares its link DOWN. -/
def hlDown (s : State) (n cause : Nat) : State :=
  let st := hlState s n
  if st < 2 then s
  else
    let taken := n == 0
    let s := bumpProp (setHlState s n 1 cause) sysObj pSystemHlCounts (3 * n + 2)
    let s := if taken then leaveDomain s 3 5 else dropSubtree (missingBelow s n) n
    setHl s n { hl0 with locked := (hlOf s n).locked }

/-- A link whose lanes are locked begins to train. -/
def hlTrain (s : State) (n : Nat) : State :=
  if hlState s n ≠ 1 then s
  else sendLink (setHlState (setHl s n { hlOf s n with lastValid := s.now }) n 2 4) n

/-- The two lanes of a link. -/
def hlLanesOf (s : State) (n : Nat) : List Nat :=
  let a := getPropN s sysObj pSystemHlLanes (2 * n)
  let b := getPropN s sysObj pSystemHlLanes (2 * n + 1)
  if a ≤ 95 ∧ b ≤ 95 then [a, b] else []

/-- After something has happened to a lane: what follows for the Hinge Link that has it (Table 4.5, R338). -/
def hlLaneAfter (s : State) (l : Nat) : State :=
  match (List.range 5).find? fun n => (hlLanesOf s n).contains l with
  | none => s
  | some n =>
    let run := hlLanesOf s n
    let xs := run.map (laneOf s)
    let bits := (List.range 2).foldl (fun m k => if (atD xs k lane0).state = .locked then setBit m k true else m) 0
    let s := setHl s n { hlOf s n with locked := bits }
    let bad := xs.any (fun y => decide (y.state ≠ .locked ∨ y.link ≠ 0 ∨ y.lanes ≠ 1)) || lanesDisagree s run
    if bad then hlDown s n 1
    else if hlState s n = 1 ∧ linkReady s run then hlTrain (deskewed s run) n
    else s

/-! ### Receiving (R336, R337) -/

/-- A message that fails its check is counted, and NAK goes once for the number expected. -/
def hlFail (s : State) (n : Nat) : State :=
  let s := bumpProp s sysObj pSystemHlCounts (3 * n)
  let h := hlOf s n
  if hlState s n ≠ 3 ∨ h.nakFor = some h.rxSeq then s
  else hlSend (setHl s n { h with nakFor := some h.rxSeq }) n 0x02 [h.rxSeq]

/-- The message types that are not reserved (Table 15.3). -/
def hlTypes : List Nat := [0x01, 0x02, 0x10, 0x11, 0x12, 0x20, 0x21, 0x22, 0x30, 0x31, 0x32, 0x33]

/-- Whether a message holds (R336): its length, its check and its type. -/
def hlWhole (ws : List Nat) : Bool :=
  let len := bitsOf (atD ws 0 0) 31 16
  decide (len ≤ 252 ∧ ws.length = len + 3 ∧ atD ws (len + 2) 0 = crc32c (wordBytes (ws.take (len + 2)))) &&
    hlTypes.contains (bitsOf (atD ws 0 0) 15 8)

/-- Take a message of a type: its payload and the state that has noted it, or the state after it was discarded. -/
def hlTake (s : State) (n typ : Nat) (sequenced : Bool) (ws : List Nat) : State ⊕ (List Nat × State) :=
  let w0 := atD ws 0 0
  let len := bitsOf w0 31 16
  if hlState s n < 2 ∨ bitsOf w0 7 0 ≠ 0xA7 then .inl s
  else if !hlWhole ws then .inl (hlFail s n)
  else if bitsOf w0 15 8 ≠ typ then .inl s
  else
    let w1 := atD ws 1 0
    let payload := (ws.drop 2).take len
    let s := setHl s n { hlOf s n with lastValid := s.now }
    let s := if hlState s n = 3 then hlAck s n (bitsOf w1 31 16) else s
    if !sequenced then .inr (payload, s)
    else if hlState s n ≠ 3 then .inl s
    else
      let h := hlOf s n
      let d := (bitsOf w1 15 0 + 65536 - h.rxSeq) % 65536
      if d = 0 then .inr (payload, setHl s n { h with rxSeq := (h.rxSeq + 1) % 65536, nakFor := none })
      else if d < 32768 then .inl (hlSend (setHl s n { h with nakFor := some h.rxSeq }) n 0x02 [h.rxSeq])
      else .inl s

/-- LINK: faces, and what the peer is in its domain. -/
def linkStep (s : State) (n : Nat) (ws : List Nat) : State :=
  match hlTake s n 0x01 false ws with
  | .inl s => s
  | .inr (p, s) =>
    let w := atD p 0 0
    let face := w % 2
    let st := bitsOf w 18 16
    let ready := decide (n = 0) && decide (st ≤ 1)
    let s := setHl s n { hlOf s n with
      peerFace := some face, peerState := st, peerDepth := bitsOf w 26 24, asked := (hlOf s n).asked && ready }
    let own := bit01 (n != 0)
    if hlState s n = 2 then
      if face = own then setHlState s n 4 0
      else
        let h := hlOf s n
        let s := setHl s n { h with txSeq := 0, rxSeq := 0, window := [], stalled := [], nakFor := none, parts := [], delay := none, t1 := none, asked := false }
        let s := sendLink (setHlState s n 3 4) n
        if n ≠ 0 ∨ domainState s = 0 then s
        else
          let s := beginWait (setDomain s (ownNumber s) 0 1 2)
          if ready then sendJoin s else s
    else if hlState s n = 3 ∧ n = 0 then
      if domainState s = 1 ∧ 1 < st then leaveDomain s 2 5
      else if domainState s = 2 ∧ ready ∧ !(hlOf s 0).asked then sendJoin s
      else s
    else s

/-- Send every unacknowledged message again, oldest first. -/
def hlResend (s : State) (n : Nat) : State :=
  let h := hlOf s n
  let s := setHl s n { h with window := h.window.map fun m =>
    { m with firstRetry := some (m.firstRetry.getD s.now), sentAt := s.now } }
  let s := bumpProp s sysObj pSystemHlCounts (3 * n + 1) h.window.length
  h.window.foldl (fun s m => emit s (.hlMessage n (hlWords m.typ m.seq h.rxSeq m.payload))) s

/-- NAK: the peer asks for what it expects. -/
def nakStep (s : State) (n : Nat) (ws : List Nat) : State :=
  match hlTake s n 0x02 false ws with
  | .inl s => s
  | .inr (p, s) => if hlState s n = 3 then hlResend (hlAck s n (atD p 0 0 % 65536)) n else s

/-- HL_RETRANSMIT_TIMER. -/
def retransmitStep (s : State) (n : Nat) : State :=
  match (hlOf s n).window with
  | m :: _ => if hlState s n = 3 ∧ m.sentAt + 4 * usT ≤ s.now then hlResend s n else s
  | [] => s

/-- HL_KEEPALIVE: a link whose join was refused still says what this device is. -/
def keepaliveStep (s : State) (n : Nat) : State :=
  let st := hlState s n
  if st = 2 ∨ st = 3 ∨ st = 4 ∧ n = 0 ∧ domainState s = 4 then sendLink s n else s

/-- HL_SILENCE. -/
def silenceStep (s : State) (n : Nat) : State :=
  if 2 ≤ hlState s n ∧ (hlOf s n).lastValid + 10 * usT ≤ s.now then hlDown s n 1 else s

/-- HL_BUDGET_EXPIRY. -/
def budgetStep (s : State) (n : Nat) : State :=
  let expired := (hlOf s n).window.any fun m => match m.firstRetry with | some t => decide (t + m.budget ≤ s.now) | none => false
  if expired then hlDown s n 2 else s

/-- HL_WAITING_TIMEOUT: a device that stays WAITING for 1 s says so once. -/
def waitingStep (s : State) : State :=
  match (hlOf s 0).waitSince with
  | some t =>
    if domainState s = 2 ∧ t + secT ≤ s.now then raiseDomain (setHl s 0 { hlOf s 0 with waitSince := none }) 4 else s
  | none => s

/-! ### Time (R339, R340) -/

/-- TIME_SYNC_SEND: a parent sends its time down a link. -/
def syncSendStep (s : State) (n : Nat) : State :=
  if n = 0 ∨ hlState s n ≠ 3 then s
  else
    let up := getPropN s sysObj pSystemRefSelected == refObj 16
    let h := hlOf s 0
    let locked := getProp s sysObj pSystemTbState == 3
    let trace := if actsAsRoot s then locked && rtcSource s else locked && up && h.traceable
    let copied := !actsAsRoot s && up
    let st := if copied then h.rootState else getPropN s sysObj pSystemTbState
    let utc := if copied then h.rootUtc else getProp s sysObj pSystemUtcOffset
    hlSend s n 0x10 (timeWords (stampOf s.now) ++ [bit01 trace + st * 2 + twos 16 utc * 65536])

/-- TIME_SYNC: UPLINK takes t1 + d for its arrival, and TIME_REQ answers it. -/
def timeSyncStep (s : State) (n : Nat) (ws : List Nat) : State :=
  match hlTake s n 0x10 false ws with
  | .inl s => s
  | .inr (p, s) =>
    if n ≠ 0 ∨ hlState s 0 ≠ 3 then s
    else
      let t1 := timeOfWords p
      let t2 := stampOf s.now
      let w := atD p 4 0
      let h := hlOf s 0
      let s := setHl s 0 { h with
        reqNo := (h.reqNo + 1) % 2 ^ 32, t1 := some t1, t2 := t2, t3 := t2
        traceable := bitOf w 0, rootState := bitsOf w 3 1, rootUtc := signedOf 16 (bitsOf w 31 16) }
      let s := match h.delay with
        | some d =>
          if domainState s = 1 then
            measureRef s 16 t2 ((t1 + d : Nat) - ((t2 : Nat) - getProp s (refObj 16) pRefDelay * (nsT : Nat))) 0
          else s
        | none => s
      hlSend s 0 0x11 [(hlOf s 0).reqNo]

/-- TIME_REQ: the parent returns its arrival. -/
def timeReqStep (s : State) (n : Nat) (ws : List Nat) : State :=
  match hlTake s n 0x11 false ws with
  | .inl s => s
  | .inr (p, s) => if n = 0 ∨ hlState s n ≠ 3 then s else hlSend s n 0x12 (atD p 0 0 :: timeWords (stampOf s.now))

/-- TIME_RESP: the mean path delay of the exchange. -/
def timeRespStep (s : State) (n : Nat) (ws : List Nat) : State :=
  match hlTake s n 0x12 false ws with
  | .inl s => s
  | .inr (p, s) =>
    let h := hlOf s 0
    match h.t1 with
    | some t1 =>
      if n ≠ 0 ∨ hlState s 0 ≠ 3 ∨ atD p 0 0 ≠ h.reqNo then s
      else
        let t4 := timeOfWords (p.drop 1)
        let d : Int := (((h.t2 : Nat) - (t1 : Nat) : Int) + ((t4 : Nat) - (h.t3 : Nat) : Int)) / 2
        setHl s 0 { h with delay := some d.toNat }
    | none => s

/-! ### The join (R335) -/

/-- The device that holds a number, as the root knows it: none where it is free for a serial. -/
def numberTaken (s : State) (serial d : Nat) : Bool :=
  mapPresent (mapEntry s d) && !(mapGet s.hlGrants serial == some d && d != ownNumber s)

/-- What the root answers to a JOIN: a number, or a cause. -/
def grant (s : State) (serial want depth : Nat) : Nat ⊕ Nat :=
  let others := ((List.range 512).filter fun d => numberTaken s serial d).length
  let fixed := decide (want ≤ 511)
  if fixed && numberTaken s serial want then .inr 1
  else if 6 < depth then .inr 2
  else if 512 ≤ others then .inr 3
  else if fixed then .inl want
  else
    match mapGet s.hlGrants serial with
    | some d => if numberTaken s serial d then .inl (((List.range 512).find? fun d => d != 0 && !numberTaken s serial d).getD 0) else .inl d
    | none =>
      match (List.range 512).find? fun d => d != 0 && !numberTaken s serial d with
      | some d => .inl d
      | none => .inr 3

/-- The root answers a JOIN that came over a link. The word of the requested number carries, above bit 15, the parent
and its link, which the parent puts there: the spec does not say how the root learns them. -/
def rootJoin (s : State) (n : Nat) (p : List Nat) : State :=
  let serial := atD p 0 0 + atD p 1 0 * 2 ^ 32
  let w := atD p 2 0
  let parent := if bitOf w 31 then bitsOf w 24 16 else ownNumber s
  let link := if bitOf w 31 then bitsOf w 27 25 else n
  let depth := if parent = ownNumber s then 1 else mapDepth (mapEntry s parent) + 1
  let root := [Config.serial % 2 ^ 32, Config.serial / 2 ^ 32 % 2 ^ 32]
  match grant s serial (bitsOf w 15 0) depth with
  | .inr cause => hlSendSeq s n 0x21 ([atD p 0 0, atD p 1 0, 1 + cause * 256, 0, depth] ++ root)
  | .inl d =>
    let s := match mapGet s.hlGrants serial with
      | some old => if old ≠ d ∧ !numberTaken s serial old then setProp s sysObj pSystemHlMap old 0 else s
      | none => s
    let s := { s with hlGrants := mapPut s.hlGrants serial d }
    let s := setProp s sysObj pSystemHlMap d ((8 + depth + parent * 16 + link * 8192 : Nat) : Int)
    let s := hlSendSeq s n 0x21 ([atD p 0 0, atD p 1 0, 0, d, depth] ++ root)
    domainChanged s

/-- JOIN: it travels up, and the root grants or refuses a number. -/
def joinStep (s : State) (n : Nat) (ws : List Nat) : State :=
  match hlTake s n 0x20 true ws with
  | .inl s => s
  | .inr (p, s) =>
    if n = 0 then s
    else
      let serial := atD p 0 0 + atD p 1 0 * 2 ^ 32
      let s := { s with hlJoins := mapPut s.hlJoins serial n }
      if domainState s = 0 then rootJoin s n p
      else if domainState s = 1 then
        let w := atD p 2 0
        let w := if bitOf w 31 then w else w % 65536 + ownNumber s * 65536 + n * 2 ^ 25 + 2 ^ 31
        hlSendSeq s 0 0x20 [atD p 0 0, atD p 1 0, w]
      else s

/-- JOIN_ACK: this device joins or is refused, or it passes the answer on. -/
def joinAckStep (s : State) (n : Nat) (ws : List Nat) : State :=
  match hlTake s n 0x21 true ws with
  | .inl s => s
  | .inr (p, s) =>
    if n ≠ 0 then s
    else
      let serial := atD p 0 0 + atD p 1 0 * 2 ^ 32
      if serial = Config.serial then
        if domainState s ≠ 2 then s
        else
          let w := atD p 2 0
          if w % 256 = 0 then
            let s := setDomain s (atD p 3 0 % 512) (atD p 4 0 % 8) (getPropN s sysObj pSystemHlDomain 2) 1
            raiseDomain (setProp s sysObj pSystemHlRoot 0 (atD p 5 0 + atD p 6 0 * 2 ^ 32 : Nat)) 0
          else
            let s := setHlState (setDomain s (ownNumber s) 0 1 4) 0 4 3
            raiseDomain s (bitsOf w 15 8)
      else
        match mapGet s.hlJoins serial with
        | some k => hlSendSeq { s with hlJoins := mapDel s.hlJoins serial } k 0x21 p
        | none => s

/-! ### Fragments (R342) -/

/-- Collect a fragment: what has arrived so far of its content, and all of it once it is whole. -/
def collect (s : State) (n typ gid : Nat) (head : List Nat) (frag : Nat) (body : List Nat) : Option (List Nat) × State :=
  let h := hlOf s n
  let mine (x : HlPart) : Bool := x.typ == typ && x.gid == gid
  let idx := frag % 256
  let old := if idx = 0 then none else h.parts.find? mine
  let rest := h.parts.filter fun x => !mine x
  let next := match old with | some x => x.next | none => 0
  if idx ≠ next then (none, setHl s n { h with parts := rest })
  else
    let words := (match old with | some x => x.words | none => []) ++ body
    if bitOf frag 15 then (some words, setHl s n { h with parts := rest })
    else (none, setHl s n { h with parts := rest ++ [⟨typ, gid, idx + 1, head, words⟩] })

/-- TOPOLOGY: passed on down, and taken into the map once it is whole. -/
def topologyStep (s : State) (n : Nat) (ws : List Nat) : State :=
  match hlTake s n 0x22 true ws with
  | .inl s => s
  | .inr (p, s) =>
    if n ≠ 0 ∨ domainState s ≠ 1 then s
    else
      let s := (downLinks s).foldl (fun s k => hlSendSeq s k 0x22 p) s
      match collect s 0 0x22 0 [] (atD p 0 0) (p.drop 1) with
      | (none, s) => s
      | (some es, s) =>
        let s := (List.range 512).foldl (fun s d => setProp s sysObj pSystemHlMap d 0) s
        let s := es.foldl (fun s e => setProp s sysObj pSystemHlMap (bitsOf e 31 23) ((e % 65536 : Nat) : Int)) s
        raiseDomain (setProp s sysObj pSystemHlDomain 2 (mapCount s)) 6

/-! ### Group commits (R73, R74, R341 to R343) -/

/-- Group banks that a head holds. -/
def groupBanks (s : State) (h : Nat) : Nat := ((headRt s h).commits.filter fun c => c.release.isSome).length

/-- Seal a group's bank on one head of this device; false where the member reports MISSING. -/
def sealMember (s : State) (gid : Nat) (T : Ticks) (mb tag : Nat) (entry : Nat) : Bool × State :=
  let o := memberObject entry
  match headIdx o with
  | none => (false, s)
  | some h =>
    if groupBanks s h ≥ 8 then (false, s)
    else
      let values := (headRt s h).staging
      match admitValues s h values [] with
      | .inl _ => (false, s)
      | .inr a => (true, (sealCommit a h (.group gid mb tag) values [] (some T)).2)

/-- Seal a group on this device's members that have neither reported nor sealed. -/
def sealGroup (s : State) (g : GroupRun) (mb tag : Nat) : State :=
  let todo := g.members.filter fun m => m.via.isNone && m.outcome.isNone && (groupBank s g.gid (memberObject m.entry)).isNone
  let r := todo.foldl (fun (q : State × List GroupMember) m =>
    match sealMember q.1 g.gid g.release mb tag m.entry with
    | (true, s) => (s, q.2)
    | (false, s) => (recordOutcome s g.gid m.entry 6 0 none, q.2 ++ [{ m with outcome := some 6, hinge := 0 }])) (s, [])
  if g.origin then r.1 else settleGroup (sendReports r.1 g.gid r.2) g.gid

/-- Groups that arrived during a handover are staged when it ends (R341). -/
def sealDeferred (s : State) : State :=
  s.groups.foldl (fun s g => if g.origin then s else sealGroup s g 15 0xFFFF) s

/-- A member as words. -/
def memberWords (entry : Nat) : List Nat := [entry % 2 ^ 32, entry / 2 ^ 32 % 2 ^ 32]
def membersOf (ws : List Nat) : List Nat :=
  (List.range (ws.length / 2)).map fun k => atD ws (2 * k) 0 + atD ws (2 * k + 1) 0 * 2 ^ 32

/-- Where a member lies: this device, below a downward link that carries messages, or nowhere within reach. -/
inductive Place where
  | here | below (link : Nat) | nowhere
deriving DecidableEq, Repr

def memberPlace (s : State) (entry : Nat) : Place :=
  let d := memberDevice entry
  if d = ownNumber s then .here
  else match linkTo s d with
    | some n => if hlState s n = 3 then .below n else .nowhere
    | none => .nowhere

def runMember (s : State) (e : Nat) : GroupMember :=
  match memberPlace s e with
  | .here => ⟨e, none, none, 0, none⟩
  | .below n => ⟨e, some n, none, 0, none⟩
  | .nowhere => ⟨e, none, some 6, 0, none⟩

/-- Release a group from the device that acts as root (R341): its own members are sealed, and each subtree gets its
members. Members that no link reaches are reported MISSING. -/
def releaseGroup (s : State) (gid : Nat) (T : Ticks) (entries : List Nat) : State :=
  let s := match groupOf s gid with
    | some g => setGroup s { g with sent := s.now, members := g.members.map fun m =>
        match m.outcome, memberPlace s m.entry with
        | some _, _ => m
        | none, .here => { m with via := none }
        | none, .below n => { m with via := some n }
        | none, .nowhere => { m with outcome := some 6 } }
    | none => { s with groups := s.groups ++ [⟨gid, T, s.now, false, entries.map (runMember s), none, false⟩] }
  match groupOf s gid with
  | none => s
  | some g =>
    let s := if g.origin then s else sendReports s gid (g.members.filter fun m => m.outcome.isSome)
    let s := if g.origin then s else if s.hif.handover then s else sealGroup s g 15 0xFFFF
    (downLinks s).foldl (fun s n =>
      let ms := g.members.filter fun m => m.via == some n && m.outcome.isNone
      if ms.isEmpty then s
      else hlFragments s n 0x31 (gid :: timeWords T ++ timeWords s.now) 121 (ms.map fun m => memberWords m.entry)) s

/-- GROUP_UP: passed on toward the root, which releases the group with its last fragment. -/
def groupUpStep (s : State) (n : Nat) (ws : List Nat) : State :=
  match hlTake s n 0x30 true ws with
  | .inl s => s
  | .inr (p, s) =>
    if n = 0 then s
    else if actsAsRoot s then
      match collect s n 0x30 (atD p 0 0) [] (atD p 9 0) (p.drop 10) with
      | (some body, s) => releaseGroup s (atD p 0 0) (timeOfWords (p.drop 1)) (membersOf body).eraseDups
      | (none, s) => s
    else if domainState s = 1 then hlSendSeq s 0 0x30 p
    else s

/-- Whether an originator lies outside this device's subtree. -/
def originOutside (s : State) (gid : Nat) : Bool :=
  gid / 65536 != ownNumber s && (linkTo s (gid / 65536)).isNone

/-- Pass a fragment of GROUP_DOWN on to one link: with its members, or empty to end what the link has begun to get. -/
def passDown (s : State) (p : List Nat) (n : Nat) : State :=
  let gid := atD p 0 0
  let last := bitOf (atD p 9 0) 15
  let here := (membersOf (p.drop 10)).filter fun e => memberPlace s e == .below n
  let h := hlOf s n
  let mine (x : HlPart) : Bool := x.typ == 0x31 && x.gid == gid
  let begun := h.parts.find? mine
  if here.isEmpty && !(last && begun.isSome) then s
  else
    let idx := match begun with | some x => x.next | none => 0
    let rest := h.parts.filter fun x => !mine x
    let s := setHl s n { h with parts := if last then rest else rest ++ [⟨0x31, gid, idx + 1, [], []⟩] }
    hlSendSeq s n 0x31 ((p.take 9) ++ [idx + (if last then 0x8000 else 0)] ++ here.flatMap memberWords)

/-- GROUP_DOWN: each fragment is passed on as it arrives, and the last one seals the group on this device's heads. -/
def groupDownStep (s : State) (n : Nat) (ws : List Nat) : State :=
  match hlTake s n 0x31 true ws with
  | .inl s => s
  | .inr (p, s) =>
    if n ≠ 0 ∨ domainState s = 2 then s
    else
      let gid := atD p 0 0
      let s := (downLinks s).foldl (fun s k => passDown s p k) s
      match collect s 0 0x31 gid [] (atD p 9 0) (p.drop 10) with
      | (none, s) => s
      | (some body, s) =>
        let T := timeOfWords (p.drop 1)
        let fresh := (membersOf body).eraseDups.map (runMember s)
        let s := match groupOf s gid with
          | some _ => s
          | none =>
            -- a group of this device's own that is no longer known has completed here (R74)
            if gid / 65536 = ownNumber s then s
            else { s with groups := s.groups ++ [⟨gid, T, timeOfWords (p.drop 5), false, fresh, none, originOutside s gid⟩] }
        match groupOf s gid with
        | some g =>
          if g.origin then s
          else
            let s := sendReports s gid (g.members.filter fun m => m.outcome.isSome)
            if s.hif.handover then s else sealGroup s g 15 0xFFFF
        | none => s

/-- GROUP_REPORT: toward the originator, which counts each member once. -/
def groupReportStep (s : State) (n : Nat) (ws : List Nat) : State :=
  match hlTake s n 0x32 true ws with
  | .inl s => s
  | .inr (p, s) =>
    if domainState s = 2 then s
    else
      let gid := atD p 0 0
      let body := p.drop 2
      let recs := (List.range (body.length / 4)).map fun k =>
        (atD body (4 * k) 0 + atD body (4 * k + 1) 0 * 2 ^ 32, atD body (4 * k + 2) 0 % 256, atD body (4 * k + 3) 0)
      if gid / 65536 = ownNumber s then
        -- a record carries no hinge time: where the member applied, it is a free value, not before T
        let T := match groupOf s gid with | some g => g.release | none => 0
        let s := recs.foldl (fun s r =>
          if outcomeApplied r.2.1 then
            let (v, s) := freshValue s
            recordOutcome s gid r.1 r.2.1 r.2.2 (some (T + v))
          else recordOutcome s gid r.1 r.2.1 r.2.2 none) s
        checkGroup s gid
      else
        let s := recs.foldl (fun s r =>
          match groupOf s gid with
          | some _ => recordOutcome s gid r.1 r.2.1 r.2.2 none
          | none => s) s
        settleGroup (hlSendSeq s (linkToOrigin s gid) 0x32 p) gid

/-- Withdraw what this device's heads hold of a group, with their reports. -/
def withdrawReport (s : State) (g : GroupRun) : State :=
  g.members.foldl (fun s m =>
    if m.via.isSome || m.outcome.isSome then s
    else match headIdx (memberObject m.entry), groupBank s g.gid (memberObject m.entry) with
      | some h, some c => withdrawAtDeadline s h c
      | _, _ => s) s

/-- Withdraw a group here and below. -/
def withdrawDown (s : State) (gid : Nat) : State :=
  match groupOf s gid with
  | none => s
  | some g =>
    let s := (downLinks s).foldl (fun s n =>
      if g.members.any (fun m => m.via == some n && m.outcome.isNone) then hlSendSeq s n 0x33 [gid] else s) s
    settleGroup (withdrawReport s g) gid

/-- GROUP_WITHDRAW: up to the root, and down from it to the members. -/
def groupWithdrawStep (s : State) (n : Nat) (ws : List Nat) : State :=
  match hlTake s n 0x33 true ws with
  | .inl s => s
  | .inr (p, s) =>
    let gid := atD p 0 0
    if n = 0 ∨ actsAsRoot s then
      withdrawDown s gid
    else if domainState s = 1 then hlSendSeq s 0 0x33 [gid]
    else s

/-! ### A group commit of this device (R71, R74) -/

/-- Submit a group: its run, its own members sealed at the request's start, and the rest up to the root or released. -/
def submitGroup (s : State) (r : Request) (start : Ticks) (T : Ticks) (entries : List Nat) : Nat × State :=
  let gid := ownNumber s * 65536 + s.groupCount % 65536
  let s := { s with groupCount := (s.groupCount + 1) % 65536 }
  let joined := decide (domainState s = 1)
  let alone := decide (domainState s = 2)
  let member (e : Nat) : GroupMember :=
    if memberDevice e = ownNumber s then ⟨e, none, none, 0, none⟩
    else if alone then ⟨e, none, some 6, 0, none⟩
    else match memberPlace s e with
      | .below n => ⟨e, some n, none, 0, none⟩
      | _ => if joined ∧ mapPresent (mapEntry s (memberDevice e)) ∧ hlState s 0 = 3 then ⟨e, some 0, none, 0, none⟩ else ⟨e, none, some 6, 0, none⟩
  let ms := entries.eraseDups.map member
  let s := { s with groups := s.groups ++ [⟨gid, T, start, true, ms, some r, false⟩] }
  let s := sealGroup s ⟨gid, T, start, true, ms, some r, false⟩ r.mb (reqTag r)
  if joined then
    (gid, hlFragments s 0 0x30 (gid :: timeWords T ++ timeWords s.now) 121 (ms.map fun m => memberWords m.entry))
  else if ms.all (fun m => m.via.isNone) then (gid, s)
  else (gid, releaseGroup s gid T [])

/-- The deadline of a group (R74): it is withdrawn from every member that has not reported, and completes. -/
def expireGroup (s : State) (gid : Nat) : State :=
  match groupOf s gid with
  | none => s
  | some g =>
    let s := if domainState s = 1 ∧ g.members.any (fun m => m.via.isSome && m.outcome.isNone) then hlSendSeq s 0 0x33 [gid]
      else s
    let s := if domainState s = 1 then withdrawReport s g else withdrawDown s gid
    match groupOf s gid with
    | some g => completeGroup s g
    | none => s

end Sys2Proof.Machine
end

