-- ==== Sys2Proof/Machine/Audio.lean ====
section
/-! DEFINITION. TDM ports, their measurement and clock faults, and the samples, underruns and changes of audio paths
(R271 to R278, R281, R283, R287). -/

namespace Sys2Proof.Machine

def tdm0 : TdmPort := ⟨[], 0, none, none, 0, [], 0, 0, [], false, false⟩
def tdmOf (s : State) (n : Nat) : TdmPort := mapGetD s.tdms n tdm0
def setTdm (s : State) (n : Nat) (x : TdmPort) : State := { s with tdms := mapPut s.tdms n x }
def audioPortObj (n : Nat) : ObjId := objId clsAudioPort n

def setAudioPortState (s : State) (o : ObjId) (v : Nat) : State := setProp s o pAudioPortState 0 v

/-! ### Measurement (R275) -/

/-- The 21 rate classes, nominal, × 1,000 ÷ 1,001 and × 1,001 ÷ 1,000. -/
def rateClasses : List Nat := ([1, 2, 3, 4, 5, 6, 7] : List Nat).flatMap fun c => [c, c + 16, c + 32]

/-- The class that lies within 0.03 % of a measured rate in 2⁻¹⁶ Hz, or NONE. -/
def classOf (rate : Nat) : Nat :=
  (rateClasses.find? fun c =>
    let r := classRate c
    decide (10000 * ((r.1 * 65536 : Nat) - (rate * r.2 : Nat) : Int).natAbs ≤ 3 * rate * r.2)).getD 0

/-- The mean frame rate over the last 64 frames, in 2⁻¹⁶ Hz, once they have been measured. -/
def measuredRate (x : TdmPort) : Option Nat :=
  if x.edges.length < 65 then none
  else
    let d := atD x.edges 0 0 - atD x.edges 64 0
    some (64 * secT * 65536 / max d 1)

/-- The mean BCLK period over the same frames, in ps. -/
def measuredBclk (x : TdmPort) : Nat :=
  (atD x.edges 0 0 - atD x.edges 64 0) * 1000 / (65536 * max (x.gaps.take 64).sum 1)

/-- The paths that touch a port. -/
def pathsOf (s : State) (o : ObjId) : List ObjId :=
  (objsOf s clsAudioCh).filter fun c => srcParty s (audioSrcOf s c) == some o || dstParty s (audioDestOf s c) == some o

/-- Whether a path plays or is about to. -/
def pathLive (s : State) (c : ObjId) : Bool := [1, 2, 7].contains (getPropN s c pAudioChState)

/-- An ASRC channel whose ratio has left 1:4 to 4:1 stops its path and enters RATIO_RANGE; one whose ratio has changed
by more than 0.05 % acquires again, unless its port's class changed (R278, R281). -/
def followRatio (s : State) (classChange : Bool) (c : ObjId) : State :=
  if !asrcUsed s c || !pathLive s c then s
  else
    let old := getPropN s c pAudioChAsrcRatio
    let r := pathRatio s c
    let d := audioDestOf s c
    let enter (s : State) (st : Nat) : State :=
      let s := setPath s c { pathOf s c with last := 0 }
      beginChange (postEvent (setAudioState (setProp s c pAudioChAsrcRatio 0 r) c st) 0x0B03 c (st + r / 2 ^ 24 % 2 ^ 40 * 2 ^ 24))
        d none s.now none
    if !ratioInside r then enter s 6
    else if !classChange && decide (old < 2000 * ((r : Int) - (old : Int)).natAbs) && getProp s c pAudioChState != 7 then enter s 7
    else setProp (setProp s c pAudioChAsrcRatio 0 r) c pAudioChLatency 0 (pathLatency s c)

/-- What follows from a measurement: the properties, AUDIO_RATE, and the paths through ASRC channels. -/
def applyRate (s : State) (n : Nat) : State :=
  let o := audioPortObj n
  let x := tdmOf s n
  match measuredRate x with
  | none => s
  | some rate =>
    let cls := classOf rate
    let was := getPropN s o pAudioPortRateClass
    let s := setProp (setProp (setProp s o pAudioPortRate 0 rate) o pAudioPortBclkPeriod 0 (measuredBclk x)) o pAudioPortRateClass 0 cls
    let changed := decide (cls ≠ was)
    let far : Bool := match x.lastRate with
      | none => true
      | some l => decide (l < 2000 * ((rate : Int) - (l : Int)).natAbs)
    let s := if changed || far then
        postEvent (setTdm s n { x with lastRate := some rate }) 0x0A01 o
          (rate % 2 ^ 48 + cls % 256 * 2 ^ 48 + bit01 changed * 2 ^ 63)
      else s
    if getProp s o pAudioPortState ≠ 2 then s
    else
      let asrc := (pathsOf s o).filter fun c => asrcUsed s c && pathLive s c
      if changed && asrc.any (fun c => !ratioInside (pathRatio s c)) then
        -- the whole port mutes: each of its channels stops first
        let s := (pathsOf s o).foldl (fun s c =>
          if pathLive s c then beginChange (setAudioState s c 3) (audioDestOf s c) none s.now none else s) s
        setTdm s n { tdmOf s n with muting := true }
      else asrc.foldl (fun s c => followRatio s changed c) s

/-! ### Frames (R271 to R274, R276) -/

/-- The word of receive slot `i`, as a sample. -/
def slotSample (s : State) (o : ObjId) (bits : List Bool) (i : Nat) : Int :=
  let w := getPropN s o pAudioPortWordBits
  let start := bit01 (bitOf (getPropN s o pAudioPortFsync) 1) + i * getPropN s o pAudioPortSlotBits + getPropN s o pAudioPortOffset
  let v := (List.range w).foldl (fun v k => 2 * v + bit01 (atD bits (start + k) false)) 0
  rxSample w (signedOf w v)

/-- Whether a destination channel carries samples: a signal or its end is on it, or an active path that gives it zeros until it plays
(R281, R283, R287). -/
def destCarries (s : State) (d : Nat) : Bool :=
  let x := destOf s d
  x.playing.isSome || x.tail.isSome || x.change.isSome ||
    (objsOf s clsAudioCh).any fun c => audioDestOf s c == d && [1, 2, 3, 4, 6, 7].contains (getPropN s c pAudioChState)

/-- The bits of one transmit slot, none where it is left at high impedance: the word, most significant bit first, from
`audio_port.offset` bits on, and zeros around it (R271 to R273). -/
def slotBits (s : State) (o : ObjId) (zeros : Bool) (i : Nat) : List (Option Bool) :=
  let n := getPropN s o pAudioPortSlotBits
  let w := getPropN s o pAudioPortWordBits
  let off := getPropN s o pAudioPortOffset
  let word (v : Nat) : List (Option Bool) :=
    (List.range n).map fun k => some (decide (off ≤ k ∧ k < off + w) && bitOf v (w - 1 - (k - off)))
  let idle := List.replicate n (if getProp s o pAudioPortTxIdle = 1 then none else some false)
  let base := dstBase s o
  match (enabledSlots (getPropN s o pAudioPortTxMask) (getPropN s o pAudioPortSlots)).findIdx? (· == i) with
  | none => idle
  | some k =>
    if zeros then word 0
    else if base = noChannel ∨ !destCarries s (base + k) then idle
    else word (twos w (txSample w (destOf s (base + k)).value))

/-- The bits of a transmitted frame of `len` BCLK periods: slot 0 at its start, or one period later, and zeros after the last slot
(R271). -/
def tdmBits (s : State) (o : ObjId) (len : Nat) (zeros : Bool) : List (Option Bool) :=
  let bits := List.replicate (bit01 (bitOf (getPropN s o pAudioPortFsync) 1)) (some false) ++
    (List.range (getPropN s o pAudioPortSlots)).flatMap (slotBits s o zeros)
  bits ++ List.replicate (len - bits.length) (some false)

/-- Where a frame-clock edge falls: the port's frame length and position, and whether it is a framing error. An edge off the
position moves it only where two in a row agree on a new one (R276). -/
def gridStep (x : TdmPort) (bclks : Nat) : TdmPort × Bool :=
  if x.edges.isEmpty then ({ x with since := 0 }, false)
  else
    let y := { x with gaps := (bclks :: x.gaps).take 64 }
    if x.len = 0 ∨ bclks = x.len then ({ y with len := bclks, since := 0 }, false)
    else if x.gaps.head? = some bclks then ({ y with len := bclks, since := 0 }, true)
    else ({ y with since := (x.since + bclks) % x.len }, true)

/-- The frames that have begun at the port's position since the edge before, without an edge of their own: the BCLK periods from
that edge to each. -/
def unmarked (x : TdmPort) (bclks : Nat) : List Nat :=
  if x.edges.isEmpty ∨ x.len = 0 then []
  else (List.range ((x.since + bclks - 1) / x.len)).map fun k => (k + 1) * x.len - x.since

/-- One frame at the port's position, with RXD from its first bit on: its source channels and its destination channels. -/
def tdmFrameRun (s : State) (n : Nat) (bits : List Bool) : State :=
  let o := audioPortObj n
  let runs := decide (getPropN s o pAudioPortState = 2)
  let rx := enabledSlots (getPropN s o pAudioPortRxMask) (getPropN s o pAudioPortSlots)
  let s := captureAudioLine (deliverBlock s o (rx.map fun i => if runs then slotSample s o bits i else 0)) o s.now
  emit s (.tdmFrame n (!bitOf (getPropN s o pAudioPortFsync) 2) (tdmBits s o (tdmOf s n).len (!runs)))

/-- Whether some destination that a port's paths reach still changes. -/
def portChanging (s : State) (o : ObjId) : Bool := (pathsOf s o).any fun c => (destOf s (audioDestOf s c)).change.isSome

/-- A frame-clock edge begins a frame: the active edge of bit 0 of `audio_port.fsync` on the pin that `audio_port.group` names, with
the data sampled on the BCLK edges of bit 2 and launched on the others (R271, R274); one off the port's position begins none
(R276). -/
def frameEdge (s : State) (n bclks : Nat) (d : TdmFrame) : State :=
  let o := audioPortObj n
  let st := getPropN s o pAudioPortState
  let fsync := getPropN s o pAudioPortFsync
  if st = 0 ∨ st = 3 ∨ d.falling ≠ bitOf fsync 0 ∨ d.clock ≠ getPropN s o pAudioPortGroup then s
  else
    let old := tdmOf s n
    let s := (unmarked old bclks).foldl (fun s k => tdmFrameRun s n (old.data.drop k)) s
    let (x, bad) := gridStep old bclks
    let x := { x with
      edges := ((s.now / nsT * nsT) :: x.edges).take 65, frames := x.frames + 1, data := if bitOf fsync 2 then d.onFall else d.onRise }
    let s := applyRate (setTdm (if bad then bumpProp s o pAudioPortFramingErrors else s) n x) n
    let y := tdmOf s n
    let s := if y.muting && st == 2 && !portChanging s o then
        setAudioPortState (setTdm s n { y with muting := false, edges := y.edges.take 1, gaps := [], frames := 1 }) o 4
      else s
    if x.since = 0 then tdmFrameRun s n x.data else s

/-! ### Clock faults (R276 to R278) -/

/-- A BCLK edge less than 0.4τ after the one before. -/
def glitchStep (s : State) (n : Nat) : State :=
  let o := audioPortObj n
  if getProp s o pAudioPortState = 0 then s
  else
    let s := bumpProp s o pAudioPortGlitches
    let x := tdmOf s n
    let k := x.glitches + 1
    let due : Bool := match x.glitchAt with | none => true | some t => decide (t + msT ≤ s.now)
    if due then postEvent (setTdm s n { x with glitches := 0, glitchAt := some s.now }) 0x0A04 o (k % 2 ^ 32)
    else setTdm s n { x with glitches := k }

/-- Mark the source channels of a party. -/
def markSources (s : State) (o : ObjId) (f : AudioSrc → AudioSrc) : State :=
  let b := srcBase s o
  if b = noChannel then s
  else (List.range (srcChannels s o)).foldl (fun s k => { s with srcs := mapPut s.srcs (b + k) (f (srcOf s (b + k))) }) s

/-- Whether 4 frame periods have passed since the last frame-clock edge; no period is known before two edges (R276). -/
def frameClockGone (s : State) (x : TdmPort) : Bool :=
  match x.edges with
  | a :: b :: r =>
    let n := r.length + 1
    decide (a + 4 * ((a - (b :: r).getLastD b) / n) ≤ s.now)
  | _ => true

/-- Loss of BCLK or of the frame clock. -/
def clockLost (s : State) (n : Nat) (frameClock : Bool) : State :=
  let o := audioPortObj n
  if getProp s o pAudioPortState = 0 ∨ getProp s o pAudioPortState = 3 ∨ (frameClock && !frameClockGone s (tdmOf s n)) then s
  else
    let s := postEvent (setAudioPortState s o 3) 0x0A02 o (bit01 frameClock)
    let s := markSources s o fun x => { x with lost := true }
    setTdm s n { tdmOf s n with wasLost := true, muting := false, edges := [], gaps := [], frames := 0, len := 0, since := 0 }

/-- BCLK returns: MEASURING, with zeros from its source channels. -/
def clockReturn (s : State) (n : Nat) : State :=
  let o := audioPortObj n
  if getProp s o pAudioPortState ≠ 3 then s
  else
    let s := markSources (setAudioPortState s o 1) o fun _ => ⟨0, false⟩
    setTdm s n { tdmOf s n with edges := [], gaps := [], frames := 0, len := 0, since := 0 }

/-- The 64 frames of measurement have passed, which the 65th edge ends: RUNNING, and the port's channels start again. -/
def clockBack (s : State) (n : Nat) : State :=
  let o := audioPortObj n
  let x := tdmOf s n
  if getProp s o pAudioPortState ≠ 1 ∨ x.frames < 65 then s
  else
    let s := setAudioPortState s o 2
    let s := if x.wasLost then postEvent (setTdm s n { x with wasLost := false }) 0x0A03 o (getPropN s o pAudioPortRate % 2 ^ 48) else s
    restartPaths s o s.now

/-- The 64 frames of MUTED_RATE have passed. -/
def mutedEnd (s : State) (n : Nat) : State :=
  let o := audioPortObj n
  if getProp s o pAudioPortState ≠ 4 ∨ (tdmOf s n).frames < 65 then s
  else restartPaths (setAudioPortState s o 2) o s.now

/-! ### Paths -/

/-- An ASRC channel ends its acquisition (R281). -/
def acquireEnd (s : State) (c : ObjId) : State :=
  if getProp s c pAudioChState ≠ 7 ∨ !s.objs.contains c then s
  else
    let r := getPropN s c pAudioChAsrcRatio
    beginChange (postEvent (setAudioState s c 1) 0x0B03 c (1 + r / 2 ^ 24 % 2 ^ 40 * 2 ^ 24)) (audioDestOf s c) (some c) s.now none

/-- One destination sample (R283); an egress port's samples wait until it sends them. -/
def samplePeriod (s : State) (d : Nat) : State :=
  let s := releaseFlows s
  let before := (destOf s d).value
  let s := destSample s d s.now
  let x := { destOf s d with prev := before }
  match dstParty s d with
  | some o =>
    if objCls o = clsPortOut then
      -- in the span of an engine's hand-over embedded audio is silent (R441)
      let v := if s.now < (outOf s o).silentTo ∧ [1, 5].contains (getPropN s o pPortOutKind) = true then 0 else x.value
      setDest s d { x with sent := (x.sent ++ [v]).drop (x.sent.length + 1 - 4096) }
    else setDest s d x
  | none => setDest s d x

/-- A change that has not been made by n₀ + T (R283). -/
def changeTimeout (s : State) (d : Nat) : State :=
  match (destOf s d).change with
  | none => s
  | some g =>
    let p := max (destPeriod s d) 1
    let n := getPropN s sysObj pSystemAudioZcTimeout * msT / p
    if s.now < g.tc + n * p then s else forceChange s d

/-- The argument of ACH_UNDERRUN and ACH_REJOIN. -/
def achArg (s : State) (c : ObjId) : Nat := audioDestOf s c % 65536 + audioSrcOf s c % 65536 * 65536

/-- A path underruns (R287). -/
def pathUnderrun (s : State) (c : ObjId) : State :=
  let s := releaseFlows s
  let d := audioDestOf s c
  let p := pathOf s c
  if !s.objs.contains c ∨ (destOf s d).playing ≠ some c ∨ p.under ∨ !p.fifo.isEmpty ∨ p.starved < 4 ∨
      (srcOf s (audioSrcOf s c)).lost then s
  else
    let x := destOf s d
    let tail := if zeroCrossing (some x.prev) x.value then none else some (x.value, 0)
    let s := setDest s d { x with tail := tail }
    let s := bumpProp (setAudioState (setPath s c { p with under := true }) c 4) c pAudioChUnderruns
    postEvent s 0x0B01 c (achArg s c)

/-- A refilled path rejoins (R287). -/
def pathRejoin (s : State) (c : ObjId) : State :=
  let s := releaseFlows s
  let d := audioDestOf s c
  let p := pathOf s c
  if !s.objs.contains c ∨ !p.under ∨ p.fifo.length < pathNominal s c then s
  else
    let s := setAudioState (setPath s c { p with under := false, starved := 0 }) c 1
    let s := setDest s d { destOf s d with playing := if (destOf s d).playing = some c then none else (destOf s d).playing }
    postEvent (beginChange s d (some c) s.now none) 0x0B02 c (achArg s c)

end Sys2Proof.Machine
end

