-- ==== Sys2Proof/Machine/Restart.lean ====
section
/-! DEFINITION. VX_RESTART of PORT_IN, PORT_OUT, AUDIO_PORT, REF and CHAIN objects: the stored values judged again, the
checks, and the object's fresh start (R37, R77 to R80, R246 to R248, R269, R313, R413). -/

namespace Sys2Proof.Machine

/-! ### Stored values (R37) -/

/-- The stored values of an object. -/
def storedOf (s : State) (o : ObjId) : Map Int := s.stored.filter fun e => keyObj e.1 == o

/-- The properties of a class in the order in which a restart judges them: each after those that its range needs. -/
def judgeOrder (cls : Nat) : List Nat :=
  match cls with
  | 1 => [pPortInKind, pPortInLinks, pPortInEthMode, pPortInEngines, pPortInFormat, pPortInRate, pPortInParent,
      pPortInAudioFormat, pPortInAudioChannels, pPortInRoiRect, pPortInRoiPlane, pPortInLanes]
  | 2 => [pPortOutKind, pPortOutLanes, pPortOutParent, pPortOutSampling, pPortOutDpMax, pPortOutAudioFormat,
      pPortOutAudioChannels]
  | 10 => [pAudioPortWordBits, pAudioPortOffset, pAudioPortRxMask, pAudioPortTxMask]
  | 12 => [pRefKind, pRefPort]
  | 14 => [pChainExposurePort]
  | _ => []

/-- Every stored value of an object applied and judged against the values that come in with it. -/
def bringIn (s : State) (o : ObjId) : State :=
  let es := storedOf s o
  let s := es.foldl (fun s e =>
    let pid := keyPid e.1
    let x := match propRow (objCls o) pid with
      | some r => ruleValue s r e.2
      | none => e.2
    setProp s o pid (keyIdx e.1) x) s
  (fixAll s o (judgeOrder (objCls o))).2

/-- The stored values are in force: nothing of the object is PENDING, and a lane list is what was applied. -/
def keepIn (s : State) (o : ObjId) : State :=
  let s := { s with stored := dropObj s.stored o }
  if objCls o = clsPortIn then setProps s o pPortInLanes rawLanes (getProps s o pPortInLanes 0 64)
  else if objCls o = clsPortOut then setProps s o pPortOutLanes rawLanes (getProps s o pPortOutLanes 0 4)
  else s

/-! ### Audio blocks (R269) -/

/-- The lowest-numbered run of `n` channels among 1,024 that lies in no given block. -/
def freeRun (blocks : List (Nat × Nat)) (n : Nat) : Option Nat :=
  (List.range (1025 - n)).find? fun b => blocks.all fun k => decide (b + n ≤ k.1 ∨ k.1 + k.2 ≤ b)

/-- The base of a party's block of one side after a restart: none where no run is free. -/
def newBlock (parties : List ObjId) (base count : ObjId → Nat) (o : ObjId) (oldCount n : Nat) : Option Nat :=
  if n = 0 then some noChannel
  else if n = oldCount ∧ base o ≠ noChannel then some (base o)
  else freeRun ((parties.filter fun p => p != o && base p != noChannel).map fun p => (base p, count p)) n

/-- Give a party its blocks for an evaluated configuration `v`: source side, then destination side. -/
def takeBlocks (s v : State) (o : ObjId) : Option State :=
  let rx := newBlock audioProducers (srcBase s) (srcChannels s) o (srcChannels s o) (srcChannels v o)
  let tx := newBlock audioConsumers (dstBase s) (dstChannels s) o (dstChannels s o) (dstChannels v o)
  match objCls o, rx, tx with
  | 1, some b, _ => some (setProp v o pPortInAudioBase 0 b)
  | 2, _, some b => some (setProp v o pPortOutAudioBase 0 b)
  | 10, some a, some b => some (setProp (setProp v o pAudioPortRxBase 0 a) o pAudioPortTxBase 0 b)
  | _, _, _ => none

/-! ### Engines (R80, R247) -/

/-- One engine's bit rate. -/
abbrev engineRate : Nat := 50000000000

/-- Engine places of a kind that are in service: kind 5 ingress, 6 egress. -/
def enginePlaces (s : State) (kind : Nat) : List Nat :=
  (List.range 64).filter fun e => unitRole s (unitAt s (unitIdx kind e)) == 0

/-- The bits of a payload sample: L24 or L16 (R97, R256). -/
def payloadBits (s : State) (o : ObjId) (pid : Nat) : Nat := if bitOf (getPropN s o pid) 4 then 24 else 16

/-- A shared port's payload bits per second: audio channels at their payload width, or the ancillary ring's surface at its rate,
the most that a frame can bring (DESIGN CHOICE: log entry 176). -/
def shareLoad (s : State) (o : ObjId) : Nat :=
  if objCls o = clsPortIn then
    if getProp s o pPortInKind = 5 then
      perSec (getPropN s o pPortInAudioChannels * payloadBits s o pPortInAudioFormat) (classRate (rateClass s o))
    else match ringOf s (getPropN s o pPortInAncRing) with
      | some r => perSec (8 * r.width * r.height) (getPropN s o pPortInRate 0, max (getPropN s o pPortInRate 1) 1)
      | none => 0
  else if getProp s o pPortOutKind = 3 then 
    perSec (getPropN s o pPortOutAudioChannels * payloadBits s o pPortOutAudioFormat) (classRate (rateClass s o))
  else match headRate s (getPropN s o pPortOutHead) with
    | some r => perSec (8 * 65536) r
    | none => 0

/-- Whether a port shares an engine. -/
def sharesEngine (s : State) (o : ObjId) : Bool :=
  if objCls o = clsPortIn then [5, 6].contains (getPropN s o pPortInKind) else [3, 4].contains (getPropN s o pPortOutKind)

/-- The ports other than one that hold engines, with their places. -/
def engineHolders (s : State) (o : ObjId) : List (ObjId × List Nat) :=
  let all := if objCls o = clsPortIn then s.ports.map fun e => (objId clsPortIn e.1, e.2.engines)
    else s.outs.map fun e => (objId clsPortOut e.1, e.2.engines)
  all.filter fun e => e.1 != o && !e.2.isEmpty

/-- The lowest-numbered `n` free engines; for a shared port the lowest engine with room. None where too few are free. -/
def takeEngines (s v : State) (o : ObjId) (n : Nat) : Option (List Nat) :=
  let kind := if objCls o = clsPortIn then 5 else 6
  let held := engineHolders s o
  if sharesEngine v o then
    (((enginePlaces s kind).find? fun e =>
      let us := held.filter fun x => x.2.contains e
      us.all (fun x => sharesEngine s x.1) && decide (us.length < 16) &&
      decide ((us.map fun x => shareLoad s x.1).sum + shareLoad v o ≤ engineRate)).map fun e => [e])
  else
    let free := (enginePlaces s kind).filter fun e => !held.any fun x => x.2.contains e
    if free.length < n then none else some (free.take n)

/-! ### Ingress ports (R78, R79, R80) -/

/-- Whether the lanes as applied form the port's links (R78). -/
def lanesForm (v : State) (p : ObjId) (runs : List (List Nat)) : Bool :=
  let used := runs.map fun r => (r.filter fun l => decide (l ≤ 95)).length
  match getPropN v p pPortInKind with
  | 1 => used.all fun n => n == used.headD 0 && decide (1 ≤ n ∧ n ≤ 16)
  | 2 => decide (getPropN v p pPortInLinks ≤ used.headD 0)
  | 3 => decide (ethLanes (getPropN v p pPortInEthMode) ≤ used.headD 0)
  | _ => true

/-- The frame-store charge of a port (R79). -/
def inCharge (v : State) (p : ObjId) : Nat :=
  let kind := getPropN v p pPortInKind
  if kind = 1 ∨ kind = 2 ∨ kind = 4 then
    let g := fmtFrameBytes (getPropN v p pPortInFormat) (getPropN v p pPortInGeometry 0) (getPropN v p pPortInGeometry 1)
    perSec (g + 128) (inRate v p)
  else if kind = 6 then
    match ringOf v (getPropN v p pPortInAncRing) with
    | some r => perSec (r.width * r.height + 128) (inRate v p)
    | none => 0
  else 0

/-- The engines that a port takes, as a count: none where a non-zero `port_in.engines` is below n (R80). -/
def inEngines (v : State) (p : ObjId) : Option Nat :=
  let kind := getPropN v p pPortInKind
  if kind = 1 ∨ kind = 2 ∨ kind = 4 then
    let words := fmtFrameWords (getPropN v p pPortInFormat) (getPropN v p pPortInGeometry 0) (getPropN v p pPortInGeometry 1)
    let r := inRate v p
    let n := max 1 (ceilDiv (words * 12 * r.1) (r.2 * engineRate))
    let cap := match kind with | 1 => 32 | 2 => 1 | _ => 8
    let x := getPropN v p pPortInEngines
    if cap < n then none else if x = 0 then some n else if x < n then none else some (min x cap)
  else some 0

/-- Bind a ring to a port: a ring with another writer is applied as 0 (R118). -/
def bindPort (v : State) (p : ObjId) (pid : Nat) : State :=
  let ring := getPropN v p pid
  match ringOf v ring with
  | none => setProp v p pid 0 0
  | some r => match r.writer with
    | none => updRing v ring fun g => { g with writer := some (.port p) }
    | some (.port _) => setProp v p pid 0 0
    | some (.stage _ _) => setProp v p pid 0 0

/-- Take a port's writer bindings away. -/
def unbindPort (s : State) (p : ObjId) : State :=
  { s with rings := s.rings.map fun e => if e.2.writer = some (.port p) then (e.1, { e.2 with writer := none }) else e }

/-- The charge of one owner in every reservation of sealed commits (R145). -/
def chargeCommits (s : State) (p : ObjId) (c : Nat) : State :=
  { s with heads := s.heads.map fun h => (h.1, { h.2 with
      commits := h.2.commits.map fun k => { k with charges := if c = 0 then mapDel k.charges p else mapPut k.charges p c } }) }

/-- Admission of a restart: the checks of Table 6.2 on the device as it will be, with the port's old charge taken out. -/
def admitPort (s v : State) (p : ObjId) (fits : Option Refused) : Refused ⊕ State :=
  match fits with
  | some e => .inl e
  | none =>
    let w := (allCommits v).foldl (fun w c => applyBank w c.values c.removes) v
    match admissionChecks (chargeCommits { s with charges := mapDel s.charges p } p 0) w p with
    | some e => .inl e
    | none =>
      match makeNeeds v ((needsOf v w).filter fun n => decide (n.owner = .delayLine)) with
      | .inl e => .inl e
      | .inr (made, v) => .inr (chargeCommits (recharge (installMade v made)) p (mapGetD (chargesOf w) p 0))

/-- What a port cannot have: reason UNITS with the port as object (R79). -/
def noUnits (p : ObjId) : Refused := { reason := 2, object := p }

/-- The running values of a port that its restart has failed: it goes on from HUNTING (R79). -/
def resumeIn (s : State) (p : ObjId) : State :=
  let s := dropOpen s p
  if getProp s p pPortInState = 0 then s else setPortState s p 1

/-- VX_RESTART of a PORT_IN (R79). -/
def restartIn (s : State) (p : ObjId) : Option Refused × State :=
  let s := dropOpen s p
  let v := keepIn (bringIn s p) p
  let kind := getPropN v p pPortInKind
  let runs := laneRuns v p ((getProps (bringIn s p) p pPortInLanes rawLanes 64).map Int.toNat)
  let v := unbindPort v p
  let v := if kind = 1 ∨ kind = 2 ∨ kind = 4 then bindPort v p pPortInRing else v
  let v := if kind = 2 ∨ kind = 6 then bindPort v p pPortInAncRing else v
  let engines : Option (List Nat) := match inEngines v p with
    | none => none
    | some n => if n = 0 ∧ !sharesEngine v p then some [] else takeEngines s v p n
  let old := portIn v p
  -- a frame whose record is issued still completes, and drops not yet reported still are (R13, R101)
  let v := setPortIn v p { portIn0 with
    closing := old.closing, drops := old.drops, lastDropEvt := old.lastDropEvt, engines := engines.getD [], charge := inCharge v p, runs := if kind = 1 ∨ kind = 2 ∨ kind = 3 then runs.map (·.filter fun l => decide (l ≤ 95)) else [] }
  let v := setPortState v p (if kind = 0 then 0 else 1)
  let fits : Option Refused :=
    if kind = 0 then none
    else if !lanesForm v p runs || engines.isNone then some (noUnits p)
    else none
  match takeBlocks s v p with
  | none => (some (noUnits p), resumeIn s p)
  | some v =>
    match admitPort s v p fits with
    | .inl e => (some { e with object := p }, resumeIn s p)
    | .inr v =>
      let v := runs.flatten.foldl (fun v l => if l ≤ 95 ∧ kind ≤ 3 then setLane v l (downLane (laneOf v l)) else v) v
      let v := setProps v p pPortInMeasured 0 [0, 0, 0, 0]
      let v := setProp v p pPortInFramePeriod 0 0
      let v := setProps v p pPortInPathState 0 [0, 0]
      -- the joins of a flow are made now (R97)
      let v := if 4 ≤ kind then
          [0, 1].foldl (fun v i => let q := getPropN v p pPortInParent i
            if q = 0 then v else emit v (.netReply q true)) v
        else v
      (none, settleAudioStates (restartPaths v p v.now))

/-! ### Egress ports (R246 to R248) -/

/-- An egress port's payload bits per second (R247). -/
def outLoad (v : State) (p : ObjId) : Nat :=
  let h := getPropN v p pPortOutHead
  let audio := perSec (dstChannels v p * 24) (classRate (rateClass v p))
  match headRate v h with
  | some r =>
    let ra := rasterOf v h
    perSec (ra.1 * ra.2.1 * bitsPerPixel (getPropN v p pPortOutSampling)) r + audio
  | none => audio

/-- The engines that an egress port takes. -/
def outEngines (v : State) (p : ObjId) : Option Nat :=
  let kind := getPropN v p pPortOutKind
  let x := getPropN v p pPortOutEngines
  if kind = 1 then some 1
  else if kind = 2 ∨ kind = 5 then
    let n := max 1 (ceilDiv (outLoad v p) engineRate)
    if 8 < n then none else if x = 0 then some n else if x < n then none else some (min x 8)
  else some 0

/-- The transmit lanes that a port needs: one for single-link SDI, four for quad-link, 1, 2 or 4 for DP (Table 11.1). -/
def outLanesOk (v : State) (p : ObjId) : Bool :=
  let n := ((getPropsN v p pPortOutLanes 4).filter fun l => decide (l ≤ 95)).length
  match getPropN v p pPortOutKind with
  | 1 => decide ((if getPropN v p pPortOutSdiStd = 5 then 4 else 1) ≤ n)
  | 5 => n == 1 || n == 2 || n == 4
  | _ => true

/-- Whether a head would feed a ninth port of kinds SDI, V2110 and DP (R246). -/
def ninthPort (v : State) (p : ObjId) : Bool :=
  let h := getPropN v p pPortOutHead
  let counts (q : ObjId) : Bool := [1, 2, 5].contains (getPropN v q pPortOutKind) && getPropN v q pPortOutHead == h
  h != 0 && counts p &&
    decide (8 < (((List.range 128).map (objId clsPortOut)).filter fun q => counts q && (q == p || getProp v q pPortOutState != 0)).length)

/-- The state that a restarted port takes, reported where it changes (R248). -/
def startOut (s : State) (p : ObjId) (before : Nat) : State :=
  if getProp s p pPortOutKind = 0 then setOutState (setProp s p pPortOutState 0 before) p 0 0
  else
    let fresh := evalOut (setProp s p pPortOutState 0 255) p 0
    if getPropN fresh p pPortOutState = before then evalOut (setProp s p pPortOutState 0 before) p 0 else fresh

/-- VX_RESTART of a PORT_OUT (R247). -/
def restartOut (s : State) (p : ObjId) : Option Refused × State :=
  let v := keepIn (bringIn s p) p
  let before := getPropN s p pPortOutState
  let kind := getPropN v p pPortOutKind
  let engines : Option (List Nat) := match outEngines v p with
    | none => none
    | some n => if n = 0 ∧ !sharesEngine v p then some [] else takeEngines s v p n
  let v := setOut v p { out0 with engines := engines.getD [] }
  let v := setProp (setProp (setProp v p pPortOutDpLink 0 0) p pPortOutDpLink 1 255) p pPortOutState 0 (if kind = 0 then 0 else 1)
  let fits : Option Refused :=
    if kind = 0 then none
    else if ninthPort v p then some { reason := 2, object := getPropN v p pPortOutHead }
    else if !outLanesOk v p || engines.isNone then some (noUnits p)
    else none
  match takeBlocks s v p with
  | none => (some (noUnits p), s)
  | some v =>
    match admitPort s v p fits with
    | .inl e => (some e, s)
    | .inr v =>
      let v := startOut v p before
      (none, settleAudioStates (restartPaths v p v.now))

/-! ### TDM ports, references and chains -/

/-- VX_RESTART of an AUDIO_PORT: it measures its clock again (R275, R291). -/
def restartTdm (s : State) (o : ObjId) : Option Refused × State :=
  let v := keepIn (bringIn s o) o
  match takeBlocks s v o with
  | none => (some (noUnits o), s)
  | some v =>
    match admitPort s v o none with
    | .inl e => (some e, s)
    | .inr v =>
      let v := setTdm v (objInst o) tdm0
      let v := setProp (setProp (setProp v o pAudioPortRate 0 0) o pAudioPortRateClass 0 0) o pAudioPortBclkPeriod 0 0
      let v := setAudioPortState v o 1
      (none, settleAudioStates (restartPaths v o v.now))

/-- VX_RESTART of a REF: its qualification starts again (R313, R316). -/
def restartRef (s : State) (o : ObjId) : State :=
  let n := objInst o
  let v := setRefRt (keepIn (bringIn s o) o) n ref0
  let off := getProp v o pRefEnable = 0 ∨ getProp v o pRefKind = 0
  let v := refChange v n (if off then 0 else 1) 0
  -- PPS_10M takes the next pin, whose kind is applied as 0
  if getProp v o pRefKind = 3 then refEnableStep (setProp v (refObj (n + 1)) pRefKind 0 0) (n + 1) else v

/-- VX_RESTART of a CHAIN (R413). -/
def restartChain (s : State) (o : ObjId) : State := chainRestart (keepIn (bringIn s o) o) (objInst o)

/-- Restart an object: why it cannot, and the device after it. -/
def restartObj (s : State) (o : ObjId) : Option Refused × State :=
  match objCls o with
  | 1 => restartIn s o
  | 2 => restartOut s o
  | 10 => restartTdm s o
  | 12 => (none, restartRef s o)
  | 14 => (none, restartChain s o)
  | _ => (none, s)

end Sys2Proof.Machine
end

