-- ==== Sys2Proof/Machine/Deadlines.lean ====
section
/-! DEFINITION. What becomes of a request in flight when its deadline comes, or when pair A stops: it completes with
ABANDONED and the device is as it was before it (R39, R43, R45, R46, R66, R74, R306, R402). -/

namespace Sys2Proof.Machine

/-- Undo a planned move that has not taken place (R43). -/
def cancelMove (s : State) (kind index : Nat) : State :=
  match workOf s kind index with
  | none => s
  | some w =>
    if w.test || !w.planned then putWork s { w with req := none }
    else
      let s := dropWork s kind index
      match kind with
      | 0 =>
        match (List.range 96).find? fun l => coreOf s l == index with
        | some l => setLaneTx s l { laneTxOf s l with sparing := none }
        | none => s
      | 1 =>
        match s.fsMoves.find? fun v => v.old == index && v.planned with
        | some v => dropMove s v.lpc
        | none => s
      | _ => match w.spare with | some n => setRole s (unitIdx kind n) 1 false | none => s

/-- FREEING is cleared, and leases may be taken again (R122). -/
def unfree (s : State) (o : ObjId) : State :=
  if objCls o = clsRing then capProps (unfreeRing s o) o
  else updSurf s o fun f => { f with freeing := false }

/-- A flight ends with ABANDONED (R43). -/
def abandonFlight (s : State) (f : Flight) : State :=
  let out (s : State) : State := completeFlight s f (cplStatus stAbandoned)
  match f.waits with
  | .payload | .turn _ => withTaken (out s) f.req id
  | .commit h id =>
    match commitOf s h id with
    | some c => withdrawAtDeadline s h c
    | none => out s
  | .group gid => match groupOf s gid with | some _ => expireGroup s gid | none => out s
  | .free o => out (unfree s o)
  | .exportOf _ => out { s with charges := mapDel s.charges (exportKey f.req.mb f.req.cnt) }
  | .repair kind index => out (cancelMove s kind index)
  | .fwUpdate => out s
  | .reenrol => out (setKeys s fun k => { k with reenrolling := false })

/-- What the brace state under way has added to a long deadline so far (R433). -/
def braceExtra (s : State) (f : Flight) : Ticks :=
  match s.power.braceAt with
  | some b => if f.cls = .long then s.now - max b f.req.start else 0
  | none => 0

/-- Whether a flight's deadline has come: a suspended one has none (R46), and the brace state extends a long one (R433). -/
def flightDue (s : State) (f : Flight) : Bool := f.left.isNone && decide (f.deadline + braceExtra s f ≤ s.now)

/-- REQUEST_DEADLINE_EXPIRY. -/
def expireRequest (s : State) (mb cnt : Nat) : State :=
  match flightOf s mb cnt with
  | some f => if flightDue s f then abandonFlight s f else s
  | none => s

/-- HINGE_DEADLINE_WITHDRAW. -/
def expireHinge (s : State) (mb cnt : Nat) : State :=
  match flightOf s mb cnt with
  | some f => if flightDue s f && decide (f.cls = .hinge) then abandonFlight s f else s
  | none => s

/-- PROGRESS: at least every 500 ms of a long operation (R45). -/
def progressStep (s : State) (mb cnt thousandths : Nat) : State :=
  match flightOf s mb cnt with
  | some f =>
    if f.cls = .long then
      let s := { s with flights := s.flights.map fun g => if g.req = f.req then { g with lastProgress := s.now } else g }
      postEvent s 0x1301 sysObj (min thousandths 1000)
    else s
  | none => s

/-- The slowest frame period among heads of this device; a member on another device counts as 1 s (R45). -/
def slowest (s : State) (heads : List Nat) (remote : Bool) : Ticks :=
  (heads.map fun h => framePeriod s (headObj h)).foldl max (if remote then secT else 0)

/-- The deadline of a hinge-class request of given heads, from an instant. -/
def hingeDeadline (s : State) (from' : Ticks) (heads : List Nat) (remote : Bool) : Ticks :=
  from' + 2 * slowest s heads remote + noHeadDeadline

end Sys2Proof.Machine
end

