-- ==== Sys2Proof/Machine/Control.lean ====
section
/-! DEFINITION. The control complex: lockstep faults and recovery, the bus matrix, the registers of Tables 17.2 to 17.4,
the service port, debug, and the firmware handover (R366 to R376, R380, R381, R449, R450). -/

namespace Sys2Proof.Machine

def setCc (s : State) (f : Ctl → Ctl) : State := { s with cc := f s.cc }
def setPower (s : State) (f : Power → Power) : State := { s with power := f s.power }

/-! ### Flash: images and boot descriptors (R376, Table 17.5) -/

/-- Where a slot's image lies. -/
def slotBase (slot : Nat) : Nat := if slot = 0 then 0x100000 else 0x1100000

/-- The header and the body of the image in a slot. -/
def imageAt (flash : Mem) (slot : Nat) : List Byte × List Byte :=
  let h := memRead flash (slotBase slot) 1024
  (h, memRead flash (slotBase slot + 1024) (min (imgBodyLen h) 4193280))

/-- Put an image into a slot. -/
def writeImage (s : State) (slot : Nat) (header body : List Byte) : State :=
  setCc s fun c => { c with flash := memWrite c.flash (slotBase slot) (header ++ body) }

/-- A valid boot descriptor: sequence number and preferred slot. -/
def readDesc (flash : Mem) (copy : Nat) : Option (Nat × Nat) :=
  let b := memRead flash (copy * 0x1000) 64
  if fieldAt b 0 4 = 0x424E5345 ∧ fieldAt b 60 4 = crc32c (b.take 60) then some (fieldAt b 4 4, fieldAt b 8 1) else none

def descBytes (seq slot : Nat) : List Byte :=
  let b := toLe 4 0x424E5345 ++ toLe 4 seq ++ toLe 1 slot ++ List.replicate 51 0
  b ++ toLe 4 (crc32c b)

/-- The slot that the ROM prefers. -/
def preferredSlot (flash : Mem) : Nat :=
  match readDesc flash 0, readDesc flash 1 with
  | some a, some b => if a.1 < b.1 then bit01 (b.2 != 0) else bit01 (a.2 != 0)
  | some a, none => bit01 (a.2 != 0)
  | none, some b => bit01 (b.2 != 0)
  | none, none => 0

/-- Write the copy with the lower sequence number, one above the other's, naming a slot. -/
def writeDesc (s : State) (slot : Nat) : State :=
  let put (copy seq : Nat) : State := setCc s fun c => { c with flash := memWrite c.flash (copy * 0x1000) (descBytes (seq % 2 ^ 32) slot) }
  match readDesc s.cc.flash 0, readDesc s.cc.flash 1 with
  | some a, some b => if a.1 < b.1 then put 0 (b.1 + 1) else put 1 (a.1 + 1)
  | some a, none => put 1 (a.1 + 1)
  | none, some b => put 0 (b.1 + 1)
  | none, none => put 0 1

/-- The compatibility level that an image runs at (R53): the pinned one, or the highest it accepts. -/
def levelOf (s : State) (header : List Byte) : Nat := if s.cc.pin = 0 then (imgCompat header).2 else s.cc.pin

/-- The level in force is published. -/
def setLevel (s : State) (v : Nat) : State :=
  setHif (setProp s sysObj pSystemCompatLevel 0 v) fun h => { h with compat := v % 65536 }

/-! ### Handover (R55, R449, R450) -/

/-- A handover begins: the bit, and the event in ring 0. -/
def beginHandover (s : State) : State :=
  let s := writeEvent s s.now 0x1302 sysObj 0
  setHif s fun h => { h with handover := true }

/-- A handover ends. -/
def endHandover (s : State) : State :=
  let s := setHif s fun h => { h with handover := false }
  writeEvent s s.now 0x1303 sysObj 0

/-- The flight behind a handover. -/
def handoverFlight (s : State) (h : Handover) : Option Flight := h.req.bind fun r => flightOf s r.1 r.2

/-- An update's handover fails: the descriptor names the running slot again, and VX_FW_UPDATE ends with ABANDONED. -/
def failHandover (s : State) : State :=
  match s.power.handover with
  | none => s
  | some h =>
    let s := writeDesc s (1 - h.slot)
    let s := endHandover (setPower s fun p => { p with handover := none })
    match handoverFlight s h with
    | some f => completeFlight s f (cplStatus stAbandoned)
    | none => s

/-- HANDOVER_END: pair A serves the mailboxes on the new image (Table 20.7). -/
def handoverDone (s : State) : State :=
  match s.power.handover with
  | none => s
  | some h =>
    if s.cc.recovering.isSome || s.cc.stopped then s
    else
      let img := imageAt s.cc.flash h.slot
      let s := match verifyImage s img.1 img.2 with
        | .inr root => recordImage s img.1 root
        | .inl _ => s
      let s := setCc s fun c => { c with source := h.slot + 1, draining := c.draining.erase .pairA }
      let s := endHandover (setPower s fun p => { p with handover := none, bRestart := true })
      let s := setLevel s (levelOf s img.1)
      let s := match handoverFlight s h with
        | some f => completeFlight s f (cplStatus stOk)
        | none => s
      sealDeferred s

/-- PAIR_B_RESTART: pair B runs the new image, and VX_FW_UPDATE and VX_REPAIR are served again. -/
def restartPairB (s : State) : State := setPower s fun p => { p with bRestart := false }

/-! ### Lockstep faults and recovery (R367, R368) -/

def pairMaster (b : Bool) : BusMaster := if b then .pairB else .pairA

/-- A pair is stopped, isolated and recovered by the other. -/
def beginRecovery (s : State) (b : Bool) (cause : PairCause) : State :=
  let s := if s.power.handover.isSome then failHandover s else s
  let s := if b then s else beginHandover s
  setCc s fun c => { c with
    recovering := some (b, cause)
    aFault := c.aFault || !b, bFault := c.bFault || b
    draining := if c.draining.contains (pairMaster b) then c.draining else c.draining ++ [pairMaster b] }

/-- Both pairs stop: FW_FAULT (R368). -/
def stopBoth (s : State) (b : Bool) : State :=
  let s := setCc s fun c => { c with stopped := true, aFault := c.aFault || !b, bFault := c.bFault || b }
  setHif s fun h => { h with fwFault := true }

/-- A lockstep fault of a pair. -/
def lockstep (s : State) (b : Bool) (cause : PairCause) : State :=
  let c := s.cc
  let down := if b then c.bFault || c.bHold || c.haltedB else c.aFault || c.haltedA
  if c.stage ≠ 4 || c.stopped || down then s
  else
    let recent := s.now :: c.faults.filter fun t => decide (s.now < t + 3600 * secT)
    let s := setCc s fun c => { c with faults := recent }
    if s.cc.recovering.isSome || decide (4 ≤ recent.length) then stopBoth s b else beginRecovery s b cause

/-- Write what waited for the recovered pair A: events with their own times, then completions. -/
def releaseHeld (s : State) : State :=
  let es := s.heldEvents
  let cs := s.heldCpls
  let s := { s with heldEvents := [], heldCpls := [] }
  let s := es.foldl (fun s e => writeEvent s e.at' e.code e.obj e.arg) s
  cs.foldl (fun s c => postCompletion s c.1 c.2) s

/-- Whether a flight's effect is not in the control regions, so that the recovered pair A ends it with ABANDONED. -/
def lostByA (s : State) (f : Flight) : Bool :=
  match f.waits with
  | .payload | .turn _ | .exportOf _ => true
  | .commit h id => match commitOf s h id with | some c => c.staged.isNone | none => false
  | _ => false

/-- What pair A had consumed and not completed, and what a fence held back, ends with ABANDONED. -/
def abandonLost (s : State) : State :=
  let s := (s.flights.filter (lostByA s)).foldl abandonFlight s
  let ws := s.waiting
  ws.foldl (fun s r => postCompletion s r (cplStatus stAbandoned)) { s with waiting := [] }

def causeCode : PairCause → Nat
  | .comparator => 0 | .watchdog => 1 | .sramEcc => 2

/-- The keyring checks the image in SRAM against its measurement; where it differs, it is loaded again from the slot that it was
booted from (R367 step 3). -/
def restoreImage (s : State) : State :=
  let h := memRead s.cc.sram 0 1024
  let body := memRead s.cc.sram 1024 (min (imgBodyLen h) 4193280)
  if (measureOf h = s.keys.measured ∧ sha384 body = slice h 32 48) ∨ s.cc.source = 0 ∨ 2 < s.cc.source then s
  else
    let img := imageAt s.cc.flash (s.cc.source - 1)
    setCc s fun c => { c with sram := memWrite c.sram 0 (img.1 ++ img.2) }

/-- CC_RECOVERY: the recovered pair runs again. -/
def recoveryDone (s : State) (b : Bool) : State :=
  match s.cc.recovering with
  | some (p, cause) =>
    if p != b || s.cc.stopped then s
    else
      let s := setCc (restoreImage s) fun c => { c with
        recovering := none, recoveries := min (c.recoveries + 1) 255
        aFault := c.aFault && b, bFault := c.bFault && !b, draining := c.draining.erase (pairMaster b) }
      let s := bumpProp s sysObj pSystemCcRecoveries
      let s := if b then s else endHandover s
      let s := postEvent s 0x1350 sysObj (bit01 b + causeCode cause * 256 + s.cc.recoveries * 65536)
      if b then s else sealDeferred (settleFrees (abandonLost (releaseHeld s)))
  | none => s

/-- HANDOVER_TIMEOUT: pair B ends the handover as failed and recovers pair A on the old image. Which cause CC_RECOVERY
then reports is not stated: a free value. -/
def handoverLate (s : State) : State :=
  match s.power.handover with
  | none => s
  | some h =>
    if s.now < h.begun + 45 * msT then s
    else
      let (v, s) := freshValue (failHandover s)
      beginRecovery s false (match v % 3 with | 0 => .comparator | 1 => .watchdog | _ => .sramEcc)

/-! ### SRAM and the bus matrix (R370 to R374) -/

/-- SRAM_SCRUB: corrected words by row are counted; pair B keeps the trend (R370, R448). -/
def scrub (s : State) (rows : List Nat) : State :=
  if !firmwareRuns s then s
  else
    let s := bumpProp s sysObj pSystemCcEcc 0 rows.length
    rows.foldl (fun s r => setCc s fun c => { c with eccRows := mapPut c.eccRows r (mapGetD c.eccRows r 0 + 1) }) s

/-- MASTER_DRAIN_DONE: a master's port is released (R373). -/
def drainDone (s : State) (m : BusMaster) : State := setCc s fun c => { c with draining := c.draining.erase m }

/-- The element of a master in `system.cc_decode_errors`. -/
def masterIndex : BusMaster → Nat
  | .pairA => 0 | .pairB => 1 | .pci => 2 | .dma => 3 | .keyring => 4 | .service => 5 | .debug => 6 | .chain => 7

def decodeError (s : State) (m : BusMaster) : State := bumpProp s sysObj pSystemCcDecodeErrors (masterIndex m)

/-- Whether a master has a path to CC_CONTROL (Table 17.1). -/
def reachesControl (s : State) : BusMaster → Bool
  | .pairA | .pairB | .service => true
  | .debug => s.keys.unlocked
  | _ => false

/-- A write of CC_CONTROL.REMAP to 1 by a master (R374): only a pair sets it. -/
def setRemap (s : State) (m : BusMaster) : State :=
  if !reachesControl s m then decodeError s m
  else match m with
    | .pairA => if s.cc.booted && !s.cc.aFault then setCc s fun c => { c with remap := true } else s
    | .pairB => if s.cc.booted && !s.cc.bHold && !s.cc.bFault then setCc s fun c => { c with remap := true } else s
    | _ => s

/-- B_HOLD_WRITE and WDT_EN_SET (Table 17.2). -/
def writeHoldB (s : State) (hold : Bool) : State := setCc s fun c => { c with bHold := hold }
def startWatchdogs (s : State) : State := setCc s fun c => { c with wdtEn := true }

/-! ### Registers and the service port (Tables 17.2 to 17.4, 17.7) -/

def ccControl (s : State) : Nat := bit01 s.cc.remap + 2 * bit01 s.cc.wdtEn + 4 * bit01 s.cc.bHold

def ccStatus (s : State) : Nat :=
  let c := s.cc
  bit01 c.remap + 2 * bit01 c.stopped + 4 * bit01 c.aFault + 8 * bit01 c.bFault + c.recoveries * 256 + c.fail * 65536 +
    c.source * 2 ^ 24 + c.stage * 2 ^ 28

/-- The field of CC_QOS of each master, in the register's own order: A, B, PCI, DMA, KH, SVC, DAP, CHN from bit 0. -/
def ccQos (s : State) : Nat :=
  ((List.range 8).map fun i => getPropN s sysObj pSystemCcQos i % 16 * 16 ^ i).sum

/-- The control complex registers as bytes: the rest of the target reads zero. -/
def ccRegBytes (s : State) : List Byte := toLe 4 (ccControl s) ++ toLe 4 (ccStatus s) ++ toLe 4 (ccQos s)

/-- A write of bytes over the registers, by a master that is no pair: REMAP keeps its value, WDT_EN is only set. -/
def writeCcRegs (s : State) (at' : Nat) (data : List Byte) : State :=
  let old := ccRegBytes s
  let new := (List.range 12).map fun i => if at' ≤ i ∧ i < at' + data.length then atD data (i - at') 0 else atD old i 0
  let control := fieldAt new 0 4
  let s := setCc s fun c => { c with wdtEn := c.wdtEn || bitOf control 1, bHold := bitOf control 2 }
  let q := fieldAt new 8 4
  (List.range 8).foldl (fun s i => setProp s sysObj pSystemCcQos i (q / 16 ^ i % 16 : Nat)) s

/-- A response frame. -/
def serviceReply (s : State) (status len : Nat) (data : List Byte) : State :=
  let b := toLe 1 status ++ toLe 2 len ++ data
  emit s (.service (b ++ toLe 4 (crc32c b)))

/-- The targets of R380. -/
inductive SvcTarget where
  | sram (off : Nat)
  | flash (off : Nat)
  | regs (off : Nat)
  | other
deriving DecidableEq, Repr

def svcTarget (addr len : Nat) : SvcTarget :=
  if 0x10000000 ≤ addr ∧ addr + len ≤ 0x10800000 then .sram (addr - 0x10000000)
  else if 0x20000000 ≤ addr ∧ addr + len ≤ 0x30000000 then .flash (addr - 0x20000000)
  else if 0x32000000 ≤ addr ∧ addr + len ≤ 0x32010000 then .regs (addr - 0x32000000)
  else .other

/-- SERVICE_READ. -/
def serviceRead (s : State) (addr len : Nat) (crcOk : Bool) : State :=
  let n := clampNat 4 256 len
  if !crcOk then serviceReply s 1 n []
  else
    let bad (s : State) : State := serviceReply (decodeError s .service) 3 n (List.replicate n 0)
    match svcTarget (addr % 2 ^ 32) n with
    | .sram a => if s.keys.unlocked then serviceReply s 0 n (memRead s.cc.sram a n) else bad s
    | .flash a => serviceReply s 0 n (memRead s.cc.flash a n)
    | .regs a => serviceReply s 0 n (padTo n ((ccRegBytes s).drop a))
    | .other => bad s

/-- SERVICE_WRITE. -/
def serviceWrite (s : State) (addr : Nat) (data : List Byte) (crcOk : Bool) : State :=
  let n := clampNat 4 256 data.length
  let bs := padTo n data
  if !crcOk then serviceReply s 1 n []
  else
    match svcTarget (addr % 2 ^ 32) n with
    | .sram a =>
      if s.keys.unlocked then serviceReply (setCc s fun c => { c with sram := memWrite c.sram a bs }) 0 n []
      else serviceReply s 4 n []
    | .flash a =>
      if s.cc.stage = 15 ∨ s.keys.unlocked = true then
        serviceReply (setCc s fun c => { c with flash := memWrite c.flash a bs }) 0 n []
      else serviceReply s 4 n []
    | .regs a => serviceReply (writeCcRegs s a bs) 0 n []
    | .other => serviceReply (decodeError s .service) 3 n []

/-- JTAG_INSTRUCTION (R381). -/
def jtag (s : State) (i : JtagInstr) : State :=
  let s := setPower s fun p => { p with taken := match i with | .extest | .other => true | _ => false }
  match i with
  | .idcode => emit s (.idcode 0x19648A5F)
  | _ => s

/-- FW_READY: the event, then the bit (R27). -/
def fwReadyNow (s : State) : State :=
  let s := postEvent s 0x1304 sysObj 0
  setHif s fun h => { h with fwReady := true }

/-- DEBUG_HALT: only while debug is unlocked; FW_READY reads 0 while pair A is halted (R381). -/
def debugHalt (s : State) (b halt : Bool) : State :=
  if !s.keys.unlocked then s
  else if b then setCc s fun c => { c with haltedB := halt }
  else
    let was := s.cc.haltedA
    let s := setCc s fun c => { c with haltedA := halt }
    if halt then setHif s fun h => { h with fwReady := false }
    else if was && s.cc.stage == 4 && !s.cc.stopped then fwReadyNow s
    else s

end Sys2Proof.Machine
end

