-- ==== Sys2Proof/Machine/HostRegs.lean ====
section
/-! DEFINITION. The host's register writes: doorbells, counts, event rings, MSI-X and the rest of BAR0 (R25 to R29, R49,
R50, R470). -/

namespace Sys2Proof.Machine

/-- The clamp of R28: a new request tail. -/
def clampTail (new' tail cplHead : Count) : Count :=
  let d := new' - tail
  if 0x8000 < d.toNat then tail
  else tail + (if d.toNat < (cplHead + 32 - tail).toNat then d else cplHead + 32 - tail)

/-- The clamp of R29: a new count of consumed entries, at most the tail. -/
def clampHead (new' head tail : Count) : Count :=
  let d := new' - head
  if 0x8000 < d.toNat then head
  else if (tail - head).toNat < d.toNat then tail
  else new'

/-- The low 16 bits of a register value. -/
def lowCount (v : Word) : Count := BitVec.ofNat 16 (v.toNat % 65536)

/-- What a doorbell write adds to the order of doorbell writes (R47): nothing where it submits no request. -/
def noteBell (m : Mailbox) (tail : Count) (at' : Ticks) : List (Count × Ticks) :=
  if tail = m.reqTail then m.bells else m.bells ++ [(tail, at')]

/-- MB_DOORBELL_WRITE. -/
def doorbell (s : State) (mb : Nat) (v : Word) : State :=
  let m := mbOf s mb
  let tail := clampTail (lowCount v) m.reqTail m.cplHead
  setMb s mb { m with reqTail := tail, bells := noteBell m tail s.now }

/-- MB_CPL_HEAD_WRITE. -/
def writeCplHead (s : State) (mb : Nat) (v : Word) : State :=
  let m := mbOf s mb
  setMb s mb { m with cplHead := clampHead (lowCount v) m.cplHead m.cplTail }

/-- EV_HEAD_WRITE. -/
def writeEvHead (s : State) (r : Nat) (v : Word) : State :=
  let e := evOf s r
  setEv s r { e with head := clampHead (lowCount v) e.head e.tail }

/-- EV_LOST_CLEAR: a write of any value. -/
def clearLost (s : State) (r : Nat) : State := setEv s r { evOf s r with lost := 0 }

/-- EV_HOLDOFF_WRITE: bits 9:0, clamped to 1,000; it governs from the ring's next signal. -/
def writeHoldoff (s : State) (r : Nat) (v : Word) : State :=
  setEv s r { evOf s r with holdoff := min (v.toNat % 1024) 1000 }

/-- EVENT_HOLDOFF_END: one signal for every entry written since the previous one. -/
def holdoffEnd (s : State) (r : Nat) : State := if (evOf s r).owed then ringSignal s r else s

/-- MB_CONTROL: bit 0 is IRQ_EN. -/
def writeMbControl (s : State) (mb : Nat) (v : Word) : State :=
  setMb s mb { mbOf s mb with control := v &&& 1 }

/-- MSIX_UNMASK: messages that are pending are sent. Unmasking the function also stands for enabling MSI-X. -/
def unmask (s : State) (x : MsixTarget) : State :=
  match x with
  | .vector v => flushMsix (List.range 64) { s with msixMask := setBit s.msixMask v.val false }
  | .function => flushMsix (List.range 64) { s with functionMask := false, hif := { s.hif with msixEnabled := true } }

/-- A write of one word of the MSI-X table: an entry's vector control holds its mask bit, the rest is stored. -/
def writeMsixTable (s : State) (off : Nat) (v : Word) (bytes : List Byte) : State :=
  if off % 16 = 12 then
    if v.getLsbD 0 then { s with msixMask := setBit s.msixMask (off / 16) true }
    else flushMsix (List.range 64) { s with msixMask := setBit s.msixMask (off / 16) false }
  else { s with bar0 := memWrite s.bar0 (0x2000 + off) bytes }

/-- REGISTER_WRITE: a host write of bytes at an offset of BAR0. -/
def registerWrite (s : State) (off : Nat) (bytes : List Byte) : State :=
  let n := bytes.length
  let v : Word := BitVec.ofNat 32 (fieldAt bytes 0 4)
  if 0x100000 ≤ off ∧ off < 0x110000 then
    -- request slots take aligned writes of 4 to 64 bytes; completion slots take none
    if off % 4 = 0 ∧ n % 4 = 0 ∧ 4 ≤ n ∧ n ≤ 64 ∧ (off % 0x1000) + n ≤ 0x800 then { s with bar0 := memWrite s.bar0 off bytes } else s
  else if n ≠ 4 ∨ off % 4 ≠ 0 then s
  else if 0x2000 ≤ off ∧ off < 0x2400 then writeMsixTable s (off - 0x2000) v bytes
  else if 0x10000 ≤ off ∧ off < 0x20000 then
    let mb := (off - 0x10000) / 0x1000
    match off % 0x1000 with
    | 0x00 => doorbell s mb v
    | 0x10 => writeCplHead s mb v
    | 0x14 => writeMbControl s mb v
    | _ => s
  else if 0x20000 ≤ off ∧ off < 0x20400 then
    let r := (off - 0x20000) / 0x100
    match off % 0x100 with
    | 0x04 => writeEvHead s r v
    | 0x08 => clearLost s r
    | 0x0C => writeHoldoff s r v
    | _ => s
  else s

/-! ### Reads of BAR0 (R25, R26) -/

/-- HIF_ID (Table 2.2). -/
abbrev hifId : Nat := 0x9648A101

/-- A register of a mailbox block: MB_DOORBELL is write-only (Table 2.4). -/
def mbRegister (m : Mailbox) (off : Nat) : Nat :=
  match off with
  | 0x04 => m.reqTail.toNat
  | 0x08 => m.reqHead.toNat
  | 0x0C => m.cplTail.toNat
  | 0x10 => m.cplHead.toNat
  | 0x14 => m.control.toNat
  | _ => 0

/-- A register of an event ring block (Table 2.16). -/
def evRegister (e : EvRing) (off : Nat) : Nat :=
  match off with
  | 0x00 => e.tail.toNat
  | 0x04 => e.head.toNat
  | 0x08 => e.lost
  | 0x0C => e.holdoff
  | _ => 0

/-- A word of the MSI-X table: what was stored, with the mask bit in an entry's vector control. -/
def msixWord (s : State) (off : Nat) : Nat :=
  if off % 16 = 12 then bit01 (bitOf s.msixMask (off / 16)) else leNat (memRead s.bar0 (0x2000 + off) 4)

/-- A register of BAR0; a reserved offset reads zero (R25). -/
def bar0Register (s : State) (off : Nat) : Nat :=
  if off = 0 then hifId
  else if off = 4 then hifStatus s.hif
  else if 0x2000 ≤ off ∧ off < 0x2400 then msixWord s (off - 0x2000)
  else if off = 0x3000 then s.hif.msixPending % 2 ^ 32
  else if off = 0x3004 then s.hif.msixPending / 2 ^ 32 % 2 ^ 32
  else if 0x10000 ≤ off ∧ off < 0x20000 then mbRegister (mbOf s ((off - 0x10000) / 0x1000)) (off % 0x1000)
  else if 0x20000 ≤ off ∧ off < 0x20400 then evRegister (evOf s ((off - 0x20000) / 0x100)) (off % 0x100)
  else 0

/-- What a host read of BAR0 returns: the bytes of the rings of slots and entries, or a register read with an aligned 32-bit
access; a narrower or wider one reads zero. -/
def bar0Read (s : State) (off len : Nat) : List Byte :=
  if (0x100000 ≤ off ∧ off + len ≤ 0x110000) ∨ (0x200000 ≤ off ∧ off + len ≤ 0x220000) then memRead s.bar0 off len
  else if len = 4 ∧ off % 4 = 0 then toLe 4 (bar0Register s off)
  else List.replicate len 0

/-- REGISTER_WRITE: a host access to BAR0. -/
def registerAccess (s : State) (off : Nat) : RegAccess → State
  | .write bytes => registerWrite s off bytes
  | .read len => emit s (.bar0Read off (bar0Read s off len))

/-! ### BAR2 (R111) -/

/-- Whether an address of the frame store lies in an allocated surface. -/
def bar2Reaches (s : State) (a : Nat) : Bool := s.surfs.any fun e => decide (e.2.base ≤ a ∧ a < e.2.base + e.2.size)

/-- A host read: bytes outside every surface read zero. -/
def bar2Read (s : State) (addr len : Nat) : State :=
  emit s (.bar2Read addr ((List.range len).map fun i => if bar2Reaches s (addr + i) then memByte s.frame (addr + i) else 0))

/-- A host write: bytes outside every surface are ignored. -/
def bar2Write (s : State) (addr : Nat) (data : List Byte) : State :=
  let put (m : Mem) (e : Nat × Byte) : Mem := if bar2Reaches s (addr + e.1) then memPut m (addr + e.1) e.2 else m
  { s with frame := ((List.range data.length).zip data).foldl put s.frame }

end Sys2Proof.Machine
end

