-- ==== Sys2Proof/Machine/Matrix.lean ====
section
/-! DEFINITION. The bus matrix: the transactions that masters issue, their tags, and the arbitration at each target port
(R51, R371 to R373). -/

namespace Sys2Proof.Machine

/-- The target ports that commands reach, by row of Table 17.1. -/
abbrev portSram : Nat := 2
abbrev portFlash : Nat := 3
abbrev portRegs : Nat := 6
abbrev portHost : Nat := 9

/-- The bursts of an access: each has 1 to 16 beats of 16 bytes. -/
def burstsOf (addr len : Nat) : Nat := max 1 (ceilDiv (addr % 16 + len) 256)

/-- The effective QoS of a waiting transaction: its master's field of CC_QOS, and 1 for each whole microsecond that it has
waited, at most 15 (R372). -/
def effectiveQos (s : State) (x : MatrixTx) : Nat :=
  min 15 (getPropN s sysObj pSystemCcQos (masterIndex x.master) + (s.now - x.since) / usT)

/-- Whether a transaction has its tags: its master holds 16, and a transaction that would need more waits at the master. -/
def tagged (s : State) (x : MatrixTx) : Bool :=
  let before := (s.cc.matrix.takeWhile (· != x)).filter fun y => y.master == x.master
  decide ((before.map (·.bursts)).sum < 16)

/-- The transactions that a port arbitrates among: the oldest of each master that has its tags and whose own port is not
isolated (R372, R373). -/
def contenders (s : State) (port : Nat) : List MatrixTx :=
  let here := s.cc.matrix.filter fun x => x.port == port && tagged s x && !s.cc.draining.contains x.master
  here.filter fun x => here.find? (fun y => y.master == x.master) == some x

/-- How far a master stands after the last one granted at a port, in round-robin order. -/
def turnsAfter (s : State) (port : Nat) (m : BusMaster) : Nat :=
  (masterIndex m + 7 - mapGetD s.cc.granted port 7) % 8

/-- The grant of a port: the highest effective QoS, and on a tie the master that follows the last one granted. -/
def grantAt (s : State) (port : Nat) : Option MatrixTx :=
  (contenders s port).foldl (fun best x => match best with
    | none => some x
    | some b =>
      if effectiveQos s b < effectiveQos s x ∨
          (effectiveQos s b = effectiveQos s x ∧ turnsAfter s port x.master < turnsAfter s port b.master)
      then some x else some b) none

/-- What a granted transaction does at its target. -/
def actDo (s : State) (m : BusMaster) : MatrixAct → State
  | .bar2Read addr len => bar2Read s addr len
  | .bar2Write addr data => bar2Write s addr data
  | .serviceRead addr len => serviceRead s addr len true
  | .serviceWrite addr data => serviceWrite s addr data true
  | .remap => setRemap s m

/-- A grant at a port: the transaction takes effect, and its tags are free. -/
def takeGrant (s : State) (x : MatrixTx) : State :=
  actDo (setCc s fun c => { c with matrix := c.matrix.erase x, granted := mapPut c.granted x.port (masterIndex x.master) })
    x.master x.act

/-- Every port grants while transactions wait for it. -/
def serveMatrix : Nat → State → State
  | 0, s => s
  | n + 1, s =>
    match (List.range 10).findSome? (grantAt s) with
    | some x => serveMatrix n (takeGrant s x)
    | none => s

/-- A master issues a transaction. -/
def issueTx (s : State) (m : BusMaster) (port bursts : Nat) (a : MatrixAct) : State :=
  let s := setCc s fun c => { c with matrix := c.matrix ++ [⟨m, port, bursts, s.now, a⟩] }
  serveMatrix s.cc.matrix.length s

/-- MASTER_DRAIN_DONE: a master's port is released, and what it issued meanwhile goes on (R373). -/
def drainStep (s : State) (m : BusMaster) : State :=
  let s := drainDone s m
  serveMatrix s.cc.matrix.length s

/-- BAR2_ACCESS: PCIe inbound reaches the frame store's host port (R111). -/
def bar2Step (s : State) (write : Bool) (addr len : Nat) (data : List Byte) : State :=
  if write then issueTx s .pci portHost (burstsOf addr data.length) (.bar2Write addr data)
  else issueTx s .pci portHost (burstsOf addr len) (.bar2Read addr len)

/-- The port that a service access reaches; none where it has no path or is refused (R380). -/
def svcPort (s : State) (write : Bool) (addr len : Nat) : Option Nat :=
  match svcTarget (addr % 2 ^ 32) len with
  | .sram _ => if s.keys.unlocked then some portSram else none
  | .flash _ => if !write || s.keys.unlocked || s.cc.stage == 15 then some portFlash else none
  | .regs _ => some portRegs
  | .other => none

/-- SERVICE_READ and SERVICE_WRITE. -/
def serviceReadStep (s : State) (addr len : Nat) (crcOk : Bool) : State :=
  match svcPort s false addr (clampNat 4 256 len) with
  | some p => if crcOk then issueTx s .service p (burstsOf addr len) (.serviceRead addr len) else serviceRead s addr len crcOk
  | none => serviceRead s addr len crcOk

def serviceWriteStep (s : State) (addr : Nat) (data : List Byte) (crcOk : Bool) : State :=
  match svcPort s true addr (clampNat 4 256 data.length) with
  | some p =>
    if crcOk then issueTx s .service p (burstsOf addr data.length) (.serviceWrite addr data)
    else serviceWrite s addr data crcOk
  | none => serviceWrite s addr data crcOk

/-- REMAP_SET: a write of CC_CONTROL, or a decode error for a master without a path to it (R371, R374). -/
def remapStep (s : State) (m : BusMaster) : State :=
  if reachesControl s m then issueTx s m portRegs 1 .remap else setRemap s m

end Sys2Proof.Machine
end

