-- ==== Sys2Proof/Machine/Resets.lean ====
section
/-! DEFINITION. Reset classes, what survives them, boot, host push and the repair survey (R375 to R379, R385, R423 to R430,
R435, R436). -/

namespace Sys2Proof.Machine

/-! ### What survives (R430, Table 20.2) -/

/-- Bits of a survives set (Table 2.13). -/
abbrev clP : Nat := 0
abbrev clD : Nat := 1
abbrev clI : Nat := 2
abbrev clS : Nat := 3
abbrev clDS : Nat := 4
abbrev clB : Nat := 5

/-- Whether a property entry survives a class: fixed objects only, since created ones go. -/
def entrySurvives (cl : Nat) (k : Nat) : Bool :=
  let o := keyObj k
  decide (objInst o < fixedCount (objCls o)) &&
  match propRow (objCls o) (keyPid k) with
  | some r => bitOf r.surv cl
  | none => false

def keepProps (m : Map Int) (cl : Nat) : Map Int := m.filter fun e => entrySurvives cl e.1

/-- Whether an entry is of an AT_BOOT property. -/
def entryAtBoot (k : Nat) : Bool :=
  match propRow (objCls (keyObj k)) (keyPid k) with
  | some r => decide (r.applies = .atBoot)
  | none => false

/-- The stored AT_BOOT values begin to run (R37, R333). -/
def runBootValues (s : State) : State :=
  let es := s.stored.filter fun e => entryAtBoot e.1
  let s := { applyDelta s es with stored := s.stored.filter fun e => !entryAtBoot e.1 }
  let lanes := hlLanesApplied (getPropN s sysObj pSystemHlRole) (getPropsN s sysObj pSystemHlLanes 10)
  setProps s sysObj pSystemHlLanes 0 (lanes.map fun (x : Nat) => (x : Int))

/-- The timebase starts again from the RTC, or at 0 while it is INVALID (R325). -/
def restartTime (s : State) : Ticks × Timebase :=
  let rtc := rtcNow s
  let now := if getProp s sysObj pSystemRtcState = 0 then 0 else rtc * secT / 32768
  let disc : Option Ticks := s.tb.lastDisc.map fun t => now - (s.now - t)
  (now, { tbReset with rtcTicks := rtc, rtcAt := now, lastDisc := disc })

/-- The bytes of kept pseudo-channels (R363): a frozen one is not kept. -/
def keptFrame (s : State) : Mem :=
  s.frame.filter fun c =>
    let pc := pcOfLpc s (c.1 / 4096 % 120)
    bitOf (getPropN s sysObj pSystemFsPasrKeep (pc / 32)) (pc % 32) && fsState s pc != 2

/-- SRAM rows with 8 corrected errors are replaced (R448). -/
def repairSram (c : Ctl) : List Nat :=
  c.sramRepairs ++ (c.eccRows.filterMap fun e => if 8 ≤ e.2 ∧ !c.sramRepairs.contains e.1 then some e.1 else none)

/-- Moves of frozen pseudo-channels that no spare has replaced outlast a reset; the rest is over. -/
def keptMoves (s : State) : List FsMove := s.fsMoves.filter fun v => !v.planned && !v.mapped

/-- Planned spares that had not taken their work are free again (R425): SHAPER to EGRESS_ENGINE. -/
def freePlanned (s : State) : State :=
  s.works.foldl (fun s w => match w.spare with
    | some n => if decide (2 ≤ w.kind) && !w.test then setRole s (unitIdx w.kind n) 1 false else s
    | none => s) s

/-- The keyring after a reset of a class (R385, R400, R402): its OTP stands, its slots are derived when it starts. -/
def keptKeys (k : Keyring) (cl : Nat) : Keyring :=
  let ds := cl == clDS
  { keysReset with
    otp := k.otp
    zeroised := ds && k.zeroised
    unlocked := ds && k.unlocked
    unlockReset := k.unlockReset || k.unlocked
    quotes := if ds then k.quotes else 0
    certs := k.certs
    challenge := k.challenge
    drbg := k.drbg }

/-- The device after a reset of class P or D, or an entry to DS or B: everything at reset but what Table 20.2 keeps. -/
def resetTo (s : State) (cl : Nat) : State :=
  let s := freePlanned s
  let t := restartTime s
  let boot := cl != clDS
  let r : State := { State.reset with
    now := t.1
    tb := t.2
    props := keepProps s.props cl
    stored := s.stored.filter fun e => entryAtBoot e.1
    frame := if cl = clDS then keptFrame s else []
    keys := keptKeys s.keys cl
    cc := { ccReset with
      flash := s.cc.flash, pin := s.cc.pin, mode := s.cc.mode
      sram := if cl = clDS then s.cc.sram.filter (fun c => decide (0x7C0000 ≤ c.1)) else []
      eccRows := if boot then s.cc.eccRows.filter (fun e => decide (e.2 < 8)) else s.cc.eccRows
      sramRepairs := if boot then repairSram s.cc else s.cc.sramRepairs }
    dpPins := s.dpPins.map fun e => (e.1, { dpPins0 with hpd := e.2.hpd })
    fsMoves := keptMoves s
    places := s.places
    power := { powerReset with backupMark := s.power.backupMark }
    out := s.out
    free := s.free
    pending := s.pending }
  if boot then runBootValues r else r

/-! ### Reset of class D and P (R423 to R425, R435) -/

/-- An entry of `system.brace_log` for the brace state that ends now (R436, Table 20.9). -/
def logBrace (s : State) (rail mv : Nat) (inReset : Bool) : State :=
  match s.power.braceAt with
  | none => s
  | some t =>
    let i := (getPropN s sysObj pSystemBraceCount + 15) % 16
    let us := min ((s.now - t) / usT) (2 ^ 32 - 1)
    setProp (setProp s sysObj pSystemBraceLog (2 * i) (rtcSec s)) sysObj pSystemBraceLog (2 * i + 1)
      (mv % 65536 + rail % 16 * 65536 + bit01 inReset * 2 ^ 20 + us * 2 ^ 32 : Nat)

/-- A reset of class D begins: no effect while one is in progress or the device has tripped. -/
def deviceReset (s : State) (cause : Nat) : State :=
  if s.power.inReset || s.power.tripped then s
  else
    let s := logBrace s s.power.lowRail s.power.lowMv true
    let s := resetTo s clD
    setPower (setProp s sysObj pSystemResetCause 0 cause) fun p => { p with inReset := true, cause := cause }

/-- RST_N, PERST_N: a PERST_N assertion is no reset in DS (R428). -/
def rstN (s : State) : State := deviceReset s 1
def perstN (s : State) : State := if s.power.mode = 2 then s else deviceReset s 2

/-- DEVICE_RESET_START: 1 ms after the completion of VX_RESET. -/
def hostReset (s : State) : State :=
  match s.power.resetAt with
  | some t => if t ≤ s.now then deviceReset s 3 else s
  | none => s

/-- WATCHDOG_EXPIRY (R369): a lockstep fault while RUNNING, a device reset while the ROM runs. -/
def watchdog (s : State) (b : Bool) : State :=
  if s.cc.stopped then s
  else if s.cc.stage = 4 then (if s.cc.wdtEn then lockstep s b .watchdog else s)
  else if !b && s.cc.booted then deviceReset s 4 else s

/-- SUPPLY_RESET (R435): a rail that crosses its reset level has crossed its warning level before. -/
def supplyReset (s : State) (rail mv : Nat) : State :=
  if s.power.inReset || s.power.tripped then s
  else
    let s := if s.power.braceAt.isSome then s
      else setPower (bumpProp s sysObj pSystemBraceCount) fun p => { p with braceAt := some s.now }
    deviceReset (setPower s fun p => { p with lowMv := mv, lowRail := rail }) 5

/-! ### The repair survey (R429) -/

/-- Every unit in its first-power-on role, with the failed ones RETIRED. -/
def surveyRoles (s : State) (failed : List (Nat × Nat)) : State :=
  let gone (pid : Nat) : Bool := [pSystemSpareMap, pSystemLaneCore, pSystemCoreState, pSystemFsPcMap, pSystemFsPcState].contains pid
  let s := { s with
    props := s.props.filter fun e => !(keyObj e.1 == sysObj && gone (keyPid e.1))
    places := [], fsMoves := [] }
  failed.foldl (fun s u => if u.2 < unitCount u.1 then setKindRole s u.1 u.2 3 else s) s

/-- A passing spare takes the first-power-on work of a failed unit, where there is one. -/
def surveyReplace (s : State) (u : Nat × Nat) : State :=
  match u.1 with
  | 0 =>
    match (List.range 96).find? fun l => coreOf s l == u.2 with
    | some l => match freeCore s l with
      | some c => setProp (setProp s sysObj pSystemLaneCore l c) sysObj pSystemCoreState c 0
      | none => s
    | none => s
  | 1 =>
    match lpcOf s u.2 with
    | some l => match sparePc s u.2 with
      | some q => setFsState (setProp s sysObj pSystemFsPcMap l q) q 0
      | none => s
    | none => s
  | k =>
    let q := unitIdx k u.2
    if spareAtStart q then s
    else match freeSpare s k u.2 with
      | some n => setRole { s with places := mapPut s.places q (unitIdx k n) } (unitIdx k n) 0 true
      | none => s

/-- The repair record from the survey's results. -/
def survey (s : State) (failed : List (Nat × Nat)) : State :=
  let s := surveyRoles s failed
  (failed.filter fun u => decide (u.2 < unitCount u.1)).foldl surveyReplace s

/-- POWER_ON (R423, R429): class P, with the survey where the backup mark is found. -/
def powerOn (s : State) (vbatLost : Bool) (mode : Nat) (failed : List Nat) : State :=
  let mark := s.power.backupMark
  let s := if vbatLost then setProp { s with tb := { s.tb with rtcTicks := 0, rtcAt := s.now, lastDisc := none } } sysObj pSystemRtcState 0 0 else s
  let s := resetTo s (if mark then clB else clP)
  let s := if mark then survey s (failed.map fun f => (f / 256, f % 256)) else s
  let cause : Nat := if mark then 8 else 0
  let s := setCc s fun c => { c with mode := mode % 4 }
  setPower (setProp s sysObj pSystemResetCause 0 cause) fun p => { p with inReset := true, cause := cause, backupMark := false, tripped := false }

/-! ### Boot (R377 to R379) -/

/-- The Hinge Link after boot (R333, R335, R338). -/
def hlBoot (s : State) : State :=
  let root := getPropN s sysObj pSystemHlRole = 0
  let num := getPropN s sysObj pSystemHlNumber
  let own := if num ≤ 511 then num else 0
  let s := setProps s sysObj pSystemHlDomain 0 [(own : Int), 0, 1, (if root then 0 else 3 : Nat)]
  let s := mapAlone s
  (List.range 5).foldl (fun s n =>
    let on := getPropN s sysObj pSystemHlLanes (2 * n) ≤ 95
    setProp s sysObj pSystemHlState n (if on then 1 else 0 : Nat)) s

/-- References of a kind and enabled are ABSENT until an event; the others DISABLED (R316). -/
def refsBoot (s : State) : State :=
  (List.range 17).foldl (fun s n =>
    let on := getProp s (refObj n) pRefKind ≠ 0 ∧ getProp s (refObj n) pRefEnable = 1
    setProp s (refObj n) pRefState 0 (if on then 1 else 0 : Nat)) s

/-- The image is in SRAM, verified: both pairs start on it (R377 steps 4 and 5). -/
def startImage (s : State) (source : Nat) (header body : List Byte) (root : Nat) : State :=
  let s := recordImage s header root
  let s := setCc s fun c => { c with
    remap := true, bHold := false, wdtEn := true, stage := 4, source := source, pushWait := false
    sram := memWrite c.sram 0 (header ++ body) }
  let s := setProp s sysObj pSystemBootSource 0 source
  let s := refsBoot (hlBoot s)
  fwReadyNow (setLevel s (levelOf s header))

/-- A boot step fails: its code, and the ROM waits for a push or stands FAILED. -/
def bootFailed (s : State) (code : Nat) (again : Bool) : State :=
  let push := s.cc.mode != 0
  setCc s fun c => { c with fail := code, pushWait := push, stage := if push && !again then 1 else 15 }

/-- The ROM tries the preferred slot and then the other (R377 steps 2 and 3). -/
def bootFlash (s : State) : State :=
  let a := preferredSlot s.cc.flash
  let try' (slot : Nat) : (List Byte × List Byte) × (Nat ⊕ Nat) :=
    let img := imageAt s.cc.flash slot
    (img, verifyImage s img.1 img.2)
  match try' a with
  | (img, .inr root) => startImage s (a + 1) img.1 img.2 root
  | (_, .inl code) =>
    let s := setCc s fun c => { c with fail := code }
    match try' (1 - a) with
    | (img, .inr root) => startImage s (2 - a) img.1 img.2 root
    | (_, .inl code2) => bootFailed s code2 false

/-- Whether nothing lies in the flash's slots. -/
def flashBlank (m : Mem) : Bool := !m.any fun c => decide (0x100000 ≤ c.1 ∧ c.1 < 0x2100000)

/-- The ROM's start, and what follows it. `fresh` is false at exit from DS, which draws no challenge. -/
def runBoot (s : State) (seedOk : Bool) (corrected : Nat) (fresh : Bool) : State :=
  let t := restartTime s
  let s := { s with now := t.1, tb := t.2 }
  let s := setCc s fun c => { c with booted := true, remap := false, wdtEn := false, bHold := true, stage := 0, fail := 0, source := 0 }
  let s := startKeyring s seedOk corrected
  let s := otpProps (if fresh then newChallenge s else s)
  if s.cc.mode = 1 then setCc s fun c => { c with stage := 1, pushWait := true }
  else if flashBlank s.cc.flash then bootFailed s 1 false
  else bootFlash s

/-- BOOT: RST_N is released (R375, R377). An operand image is what the flash slot then holds; without one it holds what
the flash kept. -/
def bootStep (s : State) (mode : Nat) (slotA slotB : Option ImageBytes) (seedOk : Bool) (corrected : Nat) : State :=
  if s.cc.booted || s.power.tripped || s.power.mode != 0 then s
  else
    let put (s : State) (slot : Nat) (i : Option ImageBytes) : State :=
      match i with | some x => writeImage s slot (padTo 1024 x.header) x.body | none => s
    let s := put (put s 0 slotA) 1 slotB
    let s := setCc (setPower s fun p => { p with inReset := false }) fun c => { c with mode := mode % 4 }
    runBoot s seedOk corrected true

/-! ### Consuming requests (R30) -/

/-- When the doorbell write came that submitted a count: the first whose tail lies ahead of it. -/
def bellOf (m : Mailbox) (c : Count) : Ticks :=
  match m.bells.find? fun b => b.1 != c && decide ((b.1 - c).toNat ≤ 0x8000) with
  | some b => b.2
  | none => 0

/-- The request that a submitted count names, as its slot holds it now. -/
def requestAt (s : State) (mb : Nat) (c : Count) : Request :=
  ⟨mb, c.toNat, memRead s.bar0 (reqSlotAddr mb c.toNat) 64, s.now, bellOf (mbOf s mb) c, s.hif.handover⟩

/-- The request at the head of a mailbox. -/
def headRequest (s : State) (mb : Nat) : Option Request :=
  let m := mbOf s mb
  if m.reqTail = m.reqHead then none else some (requestAt s mb m.reqHead)

/-- The requests of a mailbox that are submitted and not consumed. -/
def unconsumed (s : State) (mb : Nat) : List Request :=
  let m := mbOf s mb
  (List.range (m.reqTail - m.reqHead).toNat).map fun k => requestAt s mb (m.reqHead + BitVec.ofNat 16 k)

/-- Firmware consumes it: its slot is free for the host (R30). -/
def consume (s : State) (mb : Nat) : State :=
  let m := mbOf s mb
  let head := m.reqHead + 1
  setMb s mb { m with reqHead := head, bells := m.bells.filter fun b => b.1 != head }

/-- HOST_PUSH: the ROM serves a VX_FW_UPDATE on MB00 with what its DMA brings from host memory (R33, R378). -/
def hostPush (s : State) (read : DmaStatus) (data : List Byte) : State :=
  match headRequest s 0 with
  | none => s
  | some r =>
    if !s.cc.pushWait || reqOpcode r != 0x70 || !reqIndirect r || reqObj r != sysObj then s
    else
      let s := consume s 0
      let fail (code st : Nat) : State := writeCompletion (bootFailed s code true) r (cplStatus st)
      let bytes := padTo (reqSrcLen r) data
      -- no attempt of the read succeeded within its budget (R471)
      if read ≠ .ok then writeCompletion s r (cplStatus stAbandoned)
      else if crc32c bytes ≠ reqSrcCrc r then fail 5 stBadCheck
      else
        let h := padTo 1024 bytes
        let body := (bytes.drop 1024).take (imgBodyLen h)
        match verifyImage s h body with
        | .inl code => fail code stDenied
        | .inr root => writeCompletion (startImage s 3 h body root) r (cplStatus stOk)

end Sys2Proof.Machine
end

