-- ==== Sys2Proof/Machine/Props.lean ====
section
/-! DEFINITION. Reading a property: the stored value, or what the state gives for the properties that report it
(R38, R104, R115, R133, R134, R137, R156, R182, R233, R266, R330, R364, R405, R419). -/

namespace Sys2Proof.Machine

/-- A byte of a list as a value; bytes beyond its end read zero. -/
def byteAt (bs : List Byte) (i : Nat) : Nat := (atD bs i 0).toNat

/-! ### Surfaces and rings (Tables 5.9 and 5.10) -/

/-- The data planes that a surface reports: at most four. -/
def surfaceAddress (f : Surf) (i : Nat) : Nat :=
  match (surfPlanes f)[i % 4]? with
  | none => 0
  | some p => if i < 4 then f.base + p.off else if fmtLayout f.format = 2 then f.base + p.metaOff else 0

/-- The host leases of a surface. -/
def hostLeases (f : Surf) : Nat := (f.leases.filter fun h => decide (h = .host)).length

/-- The bytes of `surface.record`: the record as a reader reads it, EMPTY when both copies fail (R115). -/
def surfaceRecord (f : Surf) (o : ObjId) : List Byte := recBytes ((surfRec f).getD (emptyRec o f.position))

/-- A computed property of a SURFACE. -/
def readSurfProp (s : State) (o : ObjId) (f : Surf) (pid idx : Nat) : Option Int :=
  if pid = pSurfaceFormat then some f.format
  else if pid = pSurfaceGeometry then some (if idx = 0 then f.width else f.height)
  else if pid = pSurfaceStride then some (((surfPlanes f)[idx]?.map (·.stride)).getD 0)
  else if pid = pSurfaceAddress then some (surfaceAddress f idx)
  else if pid = pSurfaceSize then some f.size
  else if pid = pSurfaceState then some (surfStateCode s f)
  else if pid = pSurfaceLeases then some (min f.leases.length 65535)
  else if pid = pSurfaceHostLeases then some (hostLeases f)
  else if pid = pSurfaceRing then some f.ring
  else if pid = pSurfacePosition then some f.position
  else if pid = pSurfaceMtcMode then some f.mtc
  else if pid = pSurfaceRecord then some (byteAt (surfaceRecord f o) idx)
  else none

/-- The physical pseudo-channel of a control region. -/
def regionPc (s : State) (c : CtlRegion) : Nat := pcOfLpc s c.lpc

/-- A computed property of a RING. -/
def readRingProp (s : State) (r : Ring) (pid idx : Nat) : Option Int :=
  if pid = pRingLength then some r.length
  else if pid = pRingFormat then some r.format
  else if pid = pRingGeometry then some (if idx = 0 then r.width else r.height)
  else if pid = pRingSurfaces then some (if idx < r.length then ringMember r idx else 0)
  else if pid = pRingWriter then
    some (match r.writer with | some (.port p) => p | some (.stage q _) => q | none => 0)
  else if pid = pRingNewest then some (match ringNewest s r with | some (_, f, _) => f.position | none => 0xFFFFFFFF)
  else if pid = pRingNewestFrame then some (match ringNewest s r with | some (_, _, rc) => rc.frame | none => noFrame)
  else if pid = pRingState then some (bit01 r.freeing)
  else if pid = pRingMtcMode then some r.mtc
  else if pid = pRingRecordPcs then some (regionPc s (if idx = 0 then r.recA else r.recB))
  else if pid = pRingCepra then some (byteAt r.cepra idx)
  else none

/-! ### Ports, routes, layers and heads -/

/-- The engine number that a place's work runs on now: 64 to 71 for a spare (R12). -/
def engineNumber (s : State) (kind e : Nat) : Nat :=
  let q := unitAt s (unitIdx kind e)
  if q < 201 then q - (if kind = 5 then 73 else 137) else q - (if kind = 5 then 137 else 145)

/-- `route.unit_load`: the pixel rate per unit of a stage. -/
def unitLoad (s : State) (r : ObjId) (i : Nat) : Nat :=
  if !(liveRoutes s).contains r then 0
  else match (routeStages s r)[i]? with
    | some g => (stageCost s (liveRoutes s) r i g).2
    | none => 0

/-- `shaper.state` and `tconv.state`: SPARE and GLOVED follow the role of the object's unit. A retired unit's object reads
GLOVED, the one value for a unit out of service that is no free spare. -/
def unitState (s : State) (o : ObjId) (pid idx : Nat) : Int :=
  match getPropN s sysObj pSystemSpareMap (objUnit s (spareIdx o)) % 8 with
  | 0 => getProp s o pid idx
  | 1 => 2
  | _ => 3

/-- The first unit of the stage that holds a SHAPER or TCONV, whose parameters are the stage's; else the unit itself (R137). -/
def leadUnit (s : State) (u : ObjId) : ObjId :=
  let r := getPropN s u (if objCls u = clsShaper then pShaperRoute else pTconvRoute)
  if r = 0 then u
  else match (routeStages s r).find? fun g => g.units.contains u with
    | some g => atD g.units 0 u
    | none => u

/-- An AT_HINGE property of a unit other than the first of its stage: the first unit's value, which it takes (R137). -/
def gangProp (s : State) (u : ObjId) (pid idx : Nat) : Option Int :=
  let hinge := match propRow (objCls u) pid with | some r => decide (r.applies = .atHinge) | none => false
  if hinge && leadUnit s u != u then some (getProp s (leadUnit s u) pid idx) else none

/-- `tconv.acc_norm`: the weights that govern the unit's stage, normalised; 0 beyond the last position (R214). -/
def accNormAt (s : State) (u : ObjId) (idx : Nat) : Int := (atD (tconvNorm s (leadUnit s u)) idx 0 : Nat)

/-- A computed property of another created or fixed object. -/
def readObjProp (s : State) (o : ObjId) (pid idx : Nat) : Option Int :=
  let n := objInst o
  match objCls o with
  | 1 =>
    if pid = pPortInEngineMap then
      some (match (portIn s o).engines[idx]? with | some e => engineNumber s 5 e | none => 0xFF)
    else none
  | 2 =>
    if pid = pPortOutEngineMap then
      some (match (outOf s o).engines[idx]? with | some e => engineNumber s 6 e | none => 0xFF)
    else none
  | 3 => (surfOf s o).bind fun f => readSurfProp s o f pid idx
  | 4 => (ringOf s o).bind fun r => readRingProp s r pid idx
  | 5 =>
    if pid = pRouteOutput then some (routeOutput s o)
    else if pid = pRouteCharge then some (mapGetD (reservedCharges s) o 0 : Nat)
    else if pid = pRouteUnitLoad then some (unitLoad s o idx)
    else none
  | 6 => if pid = pLayerFetchBytes then some (layerFetch s o) else none
  | 7 =>
    if pid = pHeadCommitState then some (commitState s n)
    else if pid = pHeadStillCharge then some (mapGetD (reservedCharges s) o 0 : Nat)
    else if pid = pHeadLoad then
      let l := headLoad s o
      some (if idx = 0 then l.1 else if idx = 1 then l.2.1 else l.2.2)
    else none
  | 8 => if pid = pShaperState then some (unitState s o pid idx) else gangProp s o pid idx
  | 9 =>
    if pid = pTconvState then some (unitState s o pid idx)
    else if pid = pTconvAccNorm then some (accNormAt s o idx)
    else gangProp s o pid idx
  | 12 => if pid = pRefQualLeft then some (qualLeft s n) else none
  | 13 =>
    let num := max (getPropN s o pCadenceRate 0) 1
    if pid = pCadencePeriod then some (getPropN s o pCadenceRate 1 * secT / num)
    else if pid = pCadenceNextPulse then
      let t := firstPulse s o (s.now + 1)
      some (if idx = 0 then secOf t else nsFracOf t)
    else if pid = pCadenceUsers then some (cadenceUsers s o)
    else none
  | 14 => if pid = pChainLatchEvery then some (latchEvery s n) else none
  | 15 =>
    if pid = pLampState then some (lampState s n)
    else if pid = pLampTrimApplied then some (lampTrim s n)
    else none
  | 17 =>
    if pid = pKeyslotPublic then some (byteAt (slotPublic s n) idx)
    else if pid = pKeyslotKeyId then some (byteAt (slotKeyId s n) idx)
    else if pid = pKeyslotCert then some (byteAt (slotCert s n) idx)
    else none
  | _ => none

/-- The level at each GPIO pin: what the device drives on an output, what the board drives on an input (Table 21.8). -/
def gpioIn (s : State) : Nat :=
  let dir := getPropN s sysObj pSystemGpioDir
  dir &&& getPropN s sysObj pSystemGpioOut ||| (65535 - dir) &&& Config.gpioLevels s.now

/-- A computed property of SYSTEM. -/
def readSysProp (s : State) (pid idx : Nat) : Option Int :=
  if pid = pSystemFsCharge then some (fsCharge s)
  else if pid = pSystemLbFree then some (lbFree s)
  else if pid = pSystemAsrcFree then
    some (256 - (asrcHolders s fun r => (liveRoutes s).contains r || routeLive s r).length : Nat)
  else if pid = pSystemTbNow then some (if idx = 0 then secOf s.now else nsFracOf s.now)
  else if pid = pSystemTbPending then some (tbRemaining s)
  else if pid = pSystemRtcTime then some (if idx = 0 then rtcSec s else rtcNow s % 32768)
  else if pid = pSystemFsDiag then some (byteAt (fsDiag s) idx)
  else if pid = pSystemFsFree then some (if idx = 0 then fsFreeBytes s else fsLargest s)
  else if pid = pSystemSerial then some (Config.serial % 2 ^ 64 : Nat)
  else if pid = pSystemFwMeasurement then some (byteAt (fwMeasurement s) idx)
  else if pid = pSystemConfigDigest then some (byteAt (configDigest s) idx)
  else if pid = pSystemDebugChallenge then some (byteAt s.keys.challenge idx)
  else if pid = pSystemPufCapacity then some (Config.pufCapacity % 65536 : Nat)
  else if pid = pSystemGpioIn then some (gpioIn s : Nat)
  else if pid = pSystemDebugUnlock ∨ pid = pSystemPufReenrol ∨ pid = pSystemTallyRearm then some 0
  else none

/-- The value that a property reads: computed, at its default where it does not apply to its object's kind (R104,
R266), or as stored. -/
def readProp (s : State) (o : ObjId) (pid idx : Nat) : Int :=
  if !propApplies s o pid then propDefault o pid idx
  else match (if o = sysObj then readSysProp s pid idx else readObjProp s o pid idx) with
    | some v => v
    | none => getProp s o pid idx

/-! ### What VX_DESCRIBE returns (R38) -/

/-- The range of a property of an object: its limits that depend on the object are those that hold now. -/
def rangeOf (s : State) (o : ObjId) (r : PropRow) : Int × Int :=
  let g (p : Nat) (i : Nat := 0) : Int := getProp (newestView s o) o p i
  let dyn : Option (Int × Int) :=
    match objCls o with
    | 1 =>
      let kind := getPropN (newestView s o) o pPortInKind
      let fmt := (g pPortInAudioFormat).toNat
      if kind = 0 then none
      else if r.pid = pPortInLinks then some (1, if kind ≤ 2 then 4 else 1)
      else if r.pid = pPortInEngines then some (0, match kind with | 2 => 1 | 4 => 8 | _ => 32)
      else if r.pid = pPortInAudioChannels then some (audioChannels kind fmt 0 false, audioChannels kind fmt 64 false)
      else if r.pid = pPortInRoiPlane then some (0, fmtRoiPlanes (g pPortInFormat).toNat)
      else none
    | 2 =>
      let kind := getPropN (newestView s o) o pPortOutKind
      let fmt := (g pPortOutAudioFormat).toNat
      if r.pid = pPortOutAudioChannels ∧ kind ≠ 0 then some (audioChannels kind fmt 0 true, audioChannels kind fmt 64 true)
      else none
    | 4 =>
      match ringOf s o with
      | none => none
      | some x =>
        let n : Int := x.length
        if r.pid = pRingCapturePre then some (0, n - 1)
        else if r.pid = pRingCapturePost then some (1, n - g pRingCapturePre)
        else none
    | 7 =>
      let free := g pHeadRaster 3 - g pHeadRaster 1 - 1 - g pHeadPrefetchLines
      if r.pid = pHeadHaspLine then some (0, max 0 free)
      else if r.pid = pHeadMatchLine then some (0, g pHeadRaster 3 - 1)
      else if r.pid = pHeadSync then some (0, g pHeadRaster 2 - g pHeadRaster 0 - 1)
      else none
    | 8 => if r.pid = pShaperToneKnee then some (0, g pShaperToneTarget - 1) else none
    | 5 =>
      match ringOf s (g pRouteSource).toNat with
      | some x => if r.pid = pRoutePlayPos then some (0, max 0 ((x.pre.length + x.post.length : Nat) - 1 : Int)) else none
      | none => none
    | 10 =>
      if r.pid = pAudioPortWordBits then some (8, min 32 (g pAudioPortSlotBits))
      else if r.pid = pAudioPortOffset then some (0, min 31 (max 0 (g pAudioPortSlotBits - g pAudioPortWordBits)))
      else if r.pid = pAudioPortRxMask ∨ r.pid = pAudioPortTxMask then some (0, (2 ^ (g pAudioPortSlots).toNat : Nat) - 1)
      else none
    | 19 =>
      if r.pid = pSystemRollbackFloor then some (s.keys.otp.rollback, max s.keys.otp.rollback (imgRollback s.cc.image))
      else if r.pid = pSystemCompatLevel then some ((imgCompat s.cc.image).1, (imgCompat s.cc.image).2)
      else none
    | _ => none
  match dyn with
  | some x => x
  | none =>
    match r.rule with
    | .any => r.ty.limits
    | .clamp lo hi => (lo, hi)
    | .aboveAs hi _ => (0, hi)
    | .mask m => (0, m)
    | .flag => (0, 1)
    | .objOf _ => r.ty.limits
    | .special lo hi => (lo, hi)

/-- The properties whose default is what the object was allocated with. -/
def asAllocated (cls pid : Nat) : Bool :=
  (cls == clsSurface && [pSurfaceFormat, pSurfaceGeometry, pSurfaceStride, pSurfaceAddress, pSurfaceSize, pSurfaceRing,
    pSurfacePosition].contains pid) ||
  (cls == clsRing && [pRingLength, pRingFormat, pRingGeometry, pRingSurfaces, pRingRecordPcs].contains pid)

/-- The default that VX_DESCRIBE returns: that of element 0. -/
def defaultOf (s : State) (o : ObjId) (r : PropRow) : Int :=
  if asAllocated (objCls o) r.pid then readProp s o r.pid 0
  else if objCls o = clsSurface ∧ r.pid = pSurfaceMtcMode then match surfOf s o with | some x => (x.mtcAlloc : Nat) | none => 0
  else if objCls o = clsRing ∧ r.pid = pRingMtcMode then match ringOf s o with | some x => (x.mtcAlloc : Nat) | none => 0
  else if objCls o = clsRing ∧ r.pid = pRingCapturePre then match ringOf s o with | some x => (x.length / 2 : Nat) | none => 0
  else if objCls o = clsRing ∧ r.pid = pRingCapturePost then
    match ringOf s o with | some x => (x.length - x.length / 2 : Nat) | none => 0
  else if objCls o = clsSystem ∧ r.pid = pSystemCompatLevel then (imgCompat s.cc.image).2
  else if objCls o = clsSystem ∧ r.pid = pSystemHlRoot then (Config.serial % 2 ^ 64 : Nat)
  else propDefault o r.pid 0

/-- The VX_DESCRIBE payload (Table 2.13). An element count above 65,535 does not fit its field: those bytes are free. -/
def describe (s : State) (o : ObjId) (r : PropRow) : List Byte × State :=
  let lim := rangeOf s o r
  let wide (v : Int) : List Byte := toLe 8 (twos 64 v)
  let (n, s') := if r.n < 65536 then (r.n, s) else freshValue s
  (toLe 2 (r.ty.code + 0x8000 * bit01 r.arr) ++ toLe 2 n ++ toLe 1 r.applies.code ++ toLe 1 r.surv ++ toLe 2 0 ++
    wide lim.1 ++ wide lim.2 ++ wide (defaultOf s o r), s')

end Sys2Proof.Machine
end

