-- ==== Sys2Proof/Machine/Writes.lean ====
section
/-! DEFINITION. VX_SET: where a written value goes, and what the properties with an effect of their own do
(R36, R37, R44, R56, R124, R134, R141, R157, R177, R282, R285, R299, R325, R327, R328, R362, R388, R395 to R397, R400,
R402, R411, R417, R426, R472). -/

namespace Sys2Proof.Machine

/-! ### The elements that a request carries (R36) -/

/-- Where the elements of a request lie: the start index as applied, the payload offset of the first, and how many. -/
structure Span where
  start : Nat
  off : Nat
  n : Nat
deriving DecidableEq, Repr

/-- The span of a request for a property, where `room` bytes of values can be carried. -/
def spanOf (row : PropRow) (pl : List Byte) (count room : Nat) : Span :=
  let start := if row.arr then min (fieldAt pl 0 4) (row.n - 1) else 0
  let off := if row.arr then (if row.ty.size = 8 then 8 else 4) else 0
  ⟨start, off, min (min count (row.n - start)) ((room - off) / row.ty.size)⟩

/-- The written values. -/
def spanValues (row : PropRow) (sp : Span) (pl : List Byte) : List Int :=
  (List.range sp.n).map fun i => row.ty.decode (fieldAt pl (sp.off + i * row.ty.size) row.ty.size)

/-- Values as a completion or a result buffer carries them. -/
def spanBytes (row : PropRow) (sp : Span) (vs : List Int) : List Byte :=
  (if row.arr then toLe 4 sp.start ++ List.replicate (sp.off - 4) 0 else []) ++
    vs.flatMap fun v => toLe row.ty.size (row.ty.encode v)

/-- Whether a stored or staged value differs from the effective one (PENDING of Table 2.6). -/
def spanPending (s : State) (o : ObjId) (row : PropRow) (sp : Span) : Bool :=
  (List.range sp.n).any fun i =>
    let k := sp.start + i
    match row.applies with
    | .immediate => false
    | .atHinge => pendingDiffers s o row.pid k
    | _ => match mapGet (storedView s) (propKey o row.pid k) with | some v => v != getProp s o row.pid k | none => false

/-- The values of a span: effective, or the newest not yet applied (STAGED of Table 2.7). -/
def spanRead (s : State) (o : ObjId) (row : PropRow) (sp : Span) (staged : Bool) : List Int :=
  let newest := staged && row.applies != .immediate
  let v := if newest then newestView s o else s
  (List.range sp.n).map fun i => readProp v o row.pid (sp.start + i)

/-- A completion that carries the values of a span. -/
def spanCpl (s : State) (o : ObjId) (row : PropRow) (sp : Span) (staged : Bool) : Cpl :=
  let bs := spanBytes row sp (spanRead s o row sp staged)
  { count := some sp.n, payload := bs, results := some bs, pend := spanPending s o row sp }

/-! ### Where values go (R37) -/

/-- Apply values to an object at once. -/
def applyNow (s : State) (o : ObjId) (es : List (Nat × Nat × Int)) : State :=
  es.foldl (fun s e => setProp s o e.1 e.2.1 e.2.2) s

/-- Stage AT_HINGE values of an object. -/
def stageFor (s : State) (o : ObjId) (es : List (Nat × Nat × Int)) : State :=
  let ks := es.map fun e => (propKey o e.1 e.2.1, e.2.2)
  match hingeTarget s o with
  | .head h => stageValues s h ks
  | .held r => setRouteRt s r { routeRt s r with held := ks.foldl (fun m e => mapPut m e.1 e.2) (routeRt s r).held }
  | .now' => applyNow s o es

/-- Store AT_RESTART or AT_BOOT values of an object. -/
def storeFor (s : State) (o : ObjId) (es : List (Nat × Nat × Int)) : State :=
  { s with stored := es.foldl (fun m e => mapPut m (propKey o e.1 e.2.1) e.2.2) s.stored }

/-- An untied AUDIO_CH takes its values at once (R282, R285, R288): refused, or the device with them. -/
def setUntied (s : State) (c : ObjId) (es : List (Nat × Nat × Int)) : Refused ⊕ State :=
  let v := applyNow s c es
  let w := (allCommits v).foldl (fun w k => applyBank w k.values k.removes) v
  let sum := sumCharges (maxCharges (reservedCharges s) (chargesOf w))
  match checkAsrc w (liveRoutes w) with
  | some e => .inl e
  | none =>
    if fsBudget < sum then .inl { reason := 7, object := c, charge := sum }
    else match makeNeeds v ((needsOf v w).filter fun n => decide (n.owner = .delayLine)) with
      | .inl e => .inl e
      | .inr (made, v) =>
        .inr (audioRouter (recharge (installMade v made)) s.now [c] [audioDestOf s c] [(c, oldPath s c)])

/-! ### Properties with an effect of their own -/

/-- What a write answers: refused with a status and payload, or the device after it. -/
abbrev Written := (Nat × List Byte) ⊕ State

/-- `route.head` (R141). -/
def setRouteHead (s : State) (r : ObjId) (x : Int) : State :=
  if getProp s r pRouteState ≠ 0 ∨ hasPending s r then s
  else
    let x := objIn s [clsHead] x
    let s := setProp s r pRouteHead 0 x
    match headIdx x.toNat with
    | some h =>
      let held := (routeRt s r).held
      setRouteRt (stageValues s h held) r { routeRt s r with held := [] }
    | none => s

/-- `layer.head` (R157): it takes effect until the first commit that applies the layer. -/
def setLayerHead (s : State) (l : ObjId) (x : Int) : State :=
  if (layerRt s l).headFixed then s else setProp s l pLayerHead 0 (objIn s [clsHead] x)

/-- `audio_ch.route` (R285). -/
def setAudioRoute (s : State) (c : ObjId) (x : Int) : State :=
  if getProp s c pAudioChState ≠ 0 ∨ audioActive s c ∨ hasPending s c then s
  else audioRouter (setProp s c pAudioChRoute 0 (objIn s [clsRoute] x)) s.now [] [] []

/-- The record that a host publish writes (R124). -/
def hostRecord (o : ObjId) (frame : Nat) (at' : Ticks) : FrameRec := ⟨frame, at', sysObj, flHost, 0, 1, 0, o, 0⟩

/-- `surface.host_frame` (R123, R124): on a ring member, and on a surface of firmware's own, it is stored without effect. -/
def setHostFrame (s : State) (o : ObjId) (x : Int) (start : Ticks) : State :=
  let v := min x.toNat (2 ^ 64 - 2)
  let s := setProp s o pSurfaceHostFrame 0 v
  if !hostSurface s o then s
  else
    let n := s.orders + 1
    let rc := hostRecord o v start
    let s := updSurf { s with orders := n } o fun f =>
      { f with state := .complete, pend := none, order := n, done := n, doneAt := s.now, copyA := ⟨rc, true⟩, copyB := ⟨rc, true⟩ }
    frameArrived s o

/-- Whether a running route plays from a ring (R299, R307). -/
def ringPlayed (s : State) (ring : ObjId) : Bool :=
  (objsOf s clsRoute).any fun r => getProp s r pRouteState != 0 && getProp s r pRoutePlay == 1 && getPropN s r pRouteSource == ring

/-- `ring.capture_mode` (R299). -/
def setCaptureMode (s : State) (o : ObjId) (x : Int) : Written :=
  if ringPlayed s o then .inr s
  else match setCapture s o (x != 0) with
    | some s => .inr s
    | none => .inl (stNotAdmitted, [])

/-- `surface.mtc_mode`, and `ring.mtc_mode` for every member (R132, R134). -/
def setMtc (s : State) (o : ObjId) (x : Int) : State :=
  let m := if x < 0 ∨ 2 < x then 0 else x.toNat
  let one (s : State) (o : ObjId) : State := updSurf s o fun f => { f with mtc := m }
  match ringOf s o with
  | some r => (ringMembers r).foldl one (setRing s o { r with mtc := m })
  | none => one s o

/-- `system.tb_slope`: what remains of Δ is removed at the new rate from here. -/
def setSlope (s : State) (x : Int) : State :=
  let left := tbRemaining s
  let s := setProp s sysObj pSystemTbSlope 0 (clampInt 1 10000 x)
  if left = 0 then s else setPull s left

/-- `system.rollback_floor` (R395): clamped from the counter up to the running image's version. -/
def setRollback (s : State) (x : Int) : State :=
  let lo := s.keys.otp.rollback
  burnRollback s (clampNat lo (max lo (imgRollback s.cc.image)) x.toNat)

/-- `system.owner_key_hash` (R396): the hash is burnt once; elements that the write does not carry are zero. -/
def setOwnerHash (s : State) (start : Nat) (xs : List Int) : Written :=
  if s.keys.otp.ownerDone then .inl (stDenied, [])
  else
    let h := padTo 48 (List.replicate start 0 ++ xs.map fun x => BitVec.ofNat 8 x.toNat)
    if h.all (· == 0) then .inr s else .inr (burnOwner s h)

/-- `system.vendor_revoke` (R397). -/
def setRevoke (s : State) (x : Int) : Written :=
  let k := clampNat 0 3 x.toNat
  if k < s.cc.root ∧ !s.cc.image.isEmpty then .inr (burnRevoke s k) else .inl (stDenied, [])

/-- `keyslot.derive` (R388): slots 0 to 7 are DENIED; without slot 6 nothing can be derived (R386, R389). A derivation
raises KEY_CHANGED. -/
def setDerive (s : State) (o : ObjId) (start : Nat) (xs : List Int) : Written :=
  let n := objInst o
  if n < 8 then .inl (stDenied, [])
  else if s.keys.reenrolling then .inl (stBusy, [])
  else
    let s1 := setProps s o pKeyslotDerive start xs
    let s1 := setProp s1 o pKeyslotDerive 32 (hostPolicy s1 n : Nat)
    if (hostLabel s1 n).any (· != 0) && 2 ≤ getPropN s sysObj pSystemKeyringState then .inl (stDenied, [])
    else if (hostLabel s1 n).any (· != 0) then .inr (postEvent (deriveHost s1 n) 0x1101 o (n + hostPolicy s1 n * 256))
    else .inr (deriveHost s1 n)

/-- `system.debug_unlock` (R400): whether the signature holds; the challenge is used either way. -/
def setUnlock (s : State) (start : Nat) (xs : List Int) : Bool × State :=
  debugUnlock s (padTo 97 (List.replicate start 0 ++ xs.map fun x => BitVec.ofNat 8 x.toNat))

/-- `system.power_state` (R426). -/
def setPowerState (s : State) (x : Int) : Written :=
  let m := if x < 0 ∨ 3 < x then 0 else x.toNat
  if s.flights.any (fun f => decide (f.cls = .long)) || s.hif.handover then .inl (stBusy, [])
  else if getPropN s sysObj pSystemPowerState = m then .inr s
  else .inr (setPower (setProp s sysObj pSystemPowerState 0 m) fun p =>
    { p with entry := if m = 0 then none else some (m, s.now + msT) })

/-- A write of region properties resets the regions that it touches (R104). -/
def resetRegions (s : State) (p : ObjId) (pid start n : Nat) : State :=
  (List.range n).foldl (fun s i => roiReset s p (if pid = pPortInRoiRect then (start + i) / 4 else start + i)) s

/-- What an IMMEDIATE write does beside setting its value. -/
def afterWrite (s : State) (o : ObjId) (pid : Nat) (sp : Span) : State :=
  match objCls o with
  | 1 => if pPortInRoiRect ≤ pid ∧ pid ≤ pPortInRoiTrigger then resetRegions s o pid sp.start sp.n else s
  | 12 =>
    if pid = pRefEnable then refEnableStep s (objInst o)
    else if pid = pRefRank then selectEval s
    else s
  | 19 => if pid = pSystemDpllBw then settleTb s else s
  | _ => s

/-- An IMMEDIATE write (R37). -/
def setImmediate (s : State) (o : ObjId) (row : PropRow) (sp : Span) (xs : List Int) (start : Ticks) : Written :=
  let x := atD xs 0 0
  let pid := row.pid
  let plain : State := afterWrite (applyNow s o (writeElements s o row sp.start xs)) o pid sp
  if xs.isEmpty then .inr s
  else if !propApplies s o pid then .inr (applyNow s o (writeElements s o row sp.start xs))
  else match objCls o with
  | 3 =>
    if pid = pSurfaceHostFrame then .inr (setHostFrame s o x start)
    else if pid = pSurfaceMtcMode then .inr (setMtc s o x)
    else .inr plain
  | 4 =>
    if pid = pRingCaptureMode then setCaptureMode s o x
    else if pid = pRingMtcMode then .inr (setMtc s o x)
    else .inr plain
  | 5 => if pid = pRouteHead then .inr (setRouteHead s o x) else .inr plain
  | 6 => if pid = pLayerHead then .inr (setLayerHead s o x) else .inr plain
  | 11 => if pid = pAudioChRoute then .inr (setAudioRoute s o x) else .inr plain
  | 13 => .inr (writeCadence s o (writeElements s o row sp.start xs))
  | 17 => if pid = pKeyslotDerive then setDerive s o sp.start xs else .inr plain
  | 19 =>
    if pid = pSystemTbSet then
      .inr (writeTbSet plain (getPropN plain sysObj pSystemTbSet 0) (getPropN plain sysObj pSystemTbSet 1) start)
    else if pid = pSystemRtcSet then
      .inr (writeRtcSet plain (getPropN plain sysObj pSystemRtcSet 0) (getPropN plain sysObj pSystemRtcSet 1))
    else if pid = pSystemTbSlope then .inr (setSlope s x)
    else if pid = pSystemRollbackFloor then .inr (setRollback s x)
    else if pid = pSystemOwnerKeyHash then setOwnerHash s sp.start xs
    else if pid = pSystemVendorRevoke then setRevoke s x
    else if pid = pSystemPowerState then setPowerState s x
    else if pid = pSystemFsRelease then .inr (releasePc plain (getPropN plain sysObj pSystemFsRelease))
    else if pid = pSystemTallyRearm then .inr (if x = 0 then s else tallyRearm s x.toNat)
    else .inr plain
  | _ => .inr plain

/-- A lamp whose duty a write reaches at once (R416). -/
def noteLamp (s : State) (o : ObjId) (pid : Nat) : State :=
  if objCls o = clsLamp ∧ pid = pLampDuty ∧ hingeTarget s o = .now' then lampWritten s (objInst o) else s

/-- A write of any property that is not read-only. -/
def writeProp (s : State) (o : ObjId) (row : PropRow) (sp : Span) (xs : List Int) (start : Ticks) : Written :=
  match row.applies with
  | .immediate => setImmediate s o row sp xs start
  | .atHinge =>
    let es := writeElements (newestView s o) o row sp.start xs
    if objCls o = clsAudioCh ∧ getProp s o pAudioChRoute = 0 then
      match setUntied s o es with
      | .inl e => .inl (stNotAdmitted, refusedPayload e)
      | .inr s => .inr s
    else .inr (noteLamp (stageFor s o es) o row.pid)
  | .atRestart => .inr (storeFor s o (writeElements (newestView s o) o row sp.start xs))
  | .atBoot => .inr (storeFor s o (writeElements (newestView s o) o row sp.start xs))

/-- The two bytes of a VX_SET of `shaper.taps_v` (R177): the value, and the count that its stage would receive now. -/
def tapsForecast (s : State) (u : ObjId) : List Byte :=
  let value := getPropN (newestView s u) u pShaperTapsV
  let staged := match unitOwner s u with | some h => (headRt s h).staging | none => []
  let v := match unitOwner s u with
    | some _ => evalState s staged []
    | none => s
  let w := evalState s [] []
  let stage := (objsOf v clsRoute).findSome? fun r =>
    ((routeStages v r).zipIdx.find? fun g => g.1.kind == 1 && g.1.units.contains u).map fun g => (r, g)
  let count := match stage with
    | some (r, g) => match resOf (reserveStage (reserveHead s w v (getPropN v r pRouteHead) none) w v r g.1 g.2 (touchedBy w v staged) none) r g.2 with | some x => x.got | none => 0
    | none => 0
  toLe 1 value ++ toLe 1 count

end Sys2Proof.Machine
end

