-- ==== Sys2Proof/Machine/Requests.lean ====
section
/-! DEFINITION. Requests: consumption, fences and the validation order (R30 to R34, R44 to R47, R433), and what each
opcode of Table 2.11 does once its checks pass. -/

namespace Sys2Proof.Machine

/-! ### Opcodes (Table 2.11) -/

/-- What Table 2.11 says of an opcode: its classes, the bit of its policy group, and its deadline class. -/
structure OpRow where
  classes : List Nat
  group : Nat
  cls : DeadlineClass
deriving DecidableEq, Repr

/-- Every class of Table 2.9. -/
def everyClass : List Nat := (List.range 19).map (· + 1)

/-- The defined opcodes. Every one exists at every compatibility level of step A1. -/
def opRow (op : Nat) : Option OpRow :=
  match op with
  | 0x01 => some ⟨[19], 0, .immediate⟩
  | 0x02 => some ⟨[19], 0, .immediate⟩
  | 0x03 => some ⟨[19], 4, .immediate⟩
  | 0x10 => some ⟨everyClass, 0, .immediate⟩
  | 0x11 => some ⟨everyClass, 1, .immediate⟩
  | 0x12 => some ⟨everyClass, 0, .immediate⟩
  | 0x13 => some ⟨[19], 0, .immediate⟩
  | 0x20 => some ⟨[5, 6, 18, 11], 1, .immediate⟩
  | 0x21 => some ⟨[5, 6, 18, 11], 1, .immediate⟩
  | 0x30 => some ⟨[7, 18], 1, .hinge⟩
  | 0x31 => some ⟨[7], 1, .immediate⟩
  | 0x32 => some ⟨everyClass, 1, .immediate⟩
  | 0x40 => some ⟨[3, 4], 2, .immediate⟩
  | 0x41 => some ⟨[3, 4], 2, .hinge⟩
  | 0x42 => some ⟨[3], 2, .immediate⟩
  | 0x43 => some ⟨[3], 2, .immediate⟩
  | 0x44 => some ⟨[16, 4], 2, .immediate⟩
  | 0x45 => some ⟨[4], 2, .long⟩
  | 0x50 => some ⟨[1, 2, 10, 12, 14], 3, .long⟩
  | 0x60 => some ⟨[19], 4, .immediate⟩
  | 0x61 => some ⟨[19], 4, .long⟩
  | 0x70 => some ⟨[19], 5, .long⟩
  | 0x80 => some ⟨[17], 6, .long⟩
  | _ => none

/-! ### The checks of Table 2.10 -/

/-- Whether a mailbox's policy permits an opcode group (R44). -/
def permits (s : State) (mb group : Nat) : Bool := bitOf (getPropN s sysObj pSystemMbPolicy mb) group

/-- The properties that belong to the keyring (R403): those of KEYSLOT, and Table 18.6's of SYSTEM. -/
def keyringProp (o pid : Nat) : Bool :=
  objCls o == clsKeyslot || (objCls o == clsSystem && decide (pSystemKeyringState ≤ pid ∧ pid ≤ pSystemPufReenrol))

/-- The further group that a VX_SET needs for its property (step 5). -/
def furtherGroup (r : Request) : Option Nat :=
  if reqOpcode r ≠ 0x11 then none
  else if reqObj r = sysObj ∧ reqPid r = pSystemMbPolicy then some 7
  else if keyringProp (reqObj r) (reqPid r) then some 6
  else none

/-- Step 5: the mailbox's policy. -/
def policyOk (s : State) (r : Request) (row : OpRow) : Bool :=
  permits s r.mb row.group && (match furtherGroup r with | some g => permits s r.mb g | none => true)

/-- Step 6: the object, its property and its class. -/
def objectOk (s : State) (r : Request) (row : OpRow) : Bool :=
  let o := reqObj r
  let op := reqOpcode r
  row.classes.contains (objCls o) &&
  (if op = 0x20 ∨ op = 0x40 then objInst o == 0xFFFFFF
   else if op = 0x32 then true
   else objExists s o) &&
  (if op = 0x10 ∨ op = 0x11 ∨ op = 0x12 then (propRow (objCls o) (reqPid r)).isSome else true) &&
  (if op = 0x41 then match surfOf s o with | some f => f.ring == 0 | none => true else true)

/-- Whether a request needs an action that the brace state defers (R433). -/
def braceDefers (r : Request) : Bool :=
  let op := reqOpcode r
  let pid := reqPid r
  op == 0x03 || op == 0x70 || (op == 0x61 && !reqIndirect r && byteAt (reqPayload r) 1 == 0) ||
  (op == 0x11 && reqObj r == sysObj &&
    ([pSystemRollbackFloor, pSystemOwnerKeyHash, pSystemVendorRevoke, pSystemPufReenrol, pSystemPowerState].contains pid ||
      match propRow clsSystem pid with | some row => row.applies == .atBoot && !row.ro | none => false))

/-- Whether a long operation is in progress on an object. -/
def longOn (s : State) (o : ObjId) : Bool := s.flights.any fun f => decide (f.cls = .long) && reqObj f.req == o

/-- Step 7: nothing on the object or in the device makes the request wait (R34, R433, R449). -/
def busy (s : State) (r : Request) : Bool :=
  longOn s (reqObj r) || (s.hif.brace && braceDefers r) ||
  (s.power.bRestart && (reqOpcode r == 0x70 || reqOpcode r == 0x61))

/-- Steps 3 to 7: the status of the first check that fails. -/
def precheck (s : State) (r : Request) : Option Nat :=
  if r.inHandover then some stBusy
  else match opRow (reqOpcode r) with
    | none => some stUnknown
    | some row =>
      if !policyOk s r row then some stDenied
      else if !objectOk s r row then some stNoObject
      else if busy s r then some stBusy
      else none

/-! ### Deadlines (R45, R46) -/

/-- The heads that hold leases on a surface or on members of a ring (R122). -/
def leasingHeads (s : State) (o : ObjId) : List Nat :=
  let ms := match ringOf s o with | some r => ringMembers r | none => [o]
  (ms.flatMap fun m => match surfOf s m with
    | some f => f.leases.filterMap fun h => match h with | .layer l => headIdx (layerHead s l) | _ => none
    | none => []).eraseDups

/-- The entries of a group that count (R70, R74). -/
def groupEntries (s : State) (g : ObjId) : List Nat :=
  getPropsN s g pGroupMembers (min (getPropN s g pGroupMemberCount) 256)

/-- The heads involved in a request, and whether a head of another device is. -/
def involved (s : State) (r : Request) : List Nat × Bool :=
  let o := reqObj r
  match reqOpcode r with
  | 0x30 =>
    if objCls o = clsHead then ([objInst o], false)
    else
      let es := groupEntries s o
      let here := es.filter fun e => memberDevice e == ownNumber s
      (here.filterMap (fun e => headIdx (memberObject e)), es.any fun e => memberDevice e != ownNumber s)
  | 0x21 =>
    let h := if objCls o = clsRoute then getPropN s o pRouteHead else if objCls o = clsLayer then getPropN s o pLayerHead else 0
    (match headIdx h with | some h => [h] | none => [], false)
  | 0x41 => (leasingHeads s o, false)
  | _ => ([], false)

/-- The deadline class of a request: VX_DESTROY without a head is immediate, and re-enrolment is long (R67, R402). -/
def classOfReq (s : State) (r : Request) : DeadlineClass :=
  let base := match opRow (reqOpcode r) with | some row => row.cls | none => .immediate
  if reqOpcode r = 0x21 ∧ !(involved s r).1.isEmpty then .hinge
  else if reqOpcode r = 0x11 ∧ reqObj r = sysObj ∧ reqPid r = pSystemPufReenrol then .long
  else base

/-- A request in flight, with its deadline; a hinge-class deadline that starts in the brace state is suspended (R46). -/
def flightFor (s : State) (r : Request) (from' : Ticks) (w : Waits) : Flight :=
  let cls := classOfReq s r
  let inv := involved s r
  let due := match cls with
    | .immediate => r.start + immediateDeadline
    | .long => r.start + longDeadline
    | .hinge => hingeDeadline s from' inv.1 inv.2
  ⟨r, due, cls, if cls = .hinge ∧ s.hif.brace then some (due - r.start) else none, none, inv.1, w, s.now⟩

/-- Let a request wait. -/
def await (s : State) (r : Request) (from' : Ticks) (w : Waits) : State :=
  addFlight (endFlight s r) (flightFor s r from' w)

/-! ### What the opcodes do once their checks pass

`pl` is the payload: 44 bytes of the slot, or what DMA fetched. -/

/-- Complete with results that go to the result buffer where there is one (R33). -/
def answer (s : State) (r : Request) (c : Cpl) (bs : List Byte) : State :=
  complete s r { c with payload := if toBuffer r then [] else bs, results := some bs }

/-- The room for values: 44 bytes in a slot, more through a result buffer. -/
def roomFor (r : Request) : Nat := if toBuffer r then 0x100000 else 44

/-- VX_NOP. -/
def doNop (s : State) (r : Request) (pl : List Byte) : State :=
  answer s r {} (if reqIndirect r then pl else pl.take (reqPayloadLen r))

/-- VX_IDENTIFY (Table 2.21). -/
def doIdentify (s : State) (r : Request) : State :=
  let lim := imgCompat s.cc.image
  answer s r {} (toLe 2 0x9648 ++ toLe 1 0xA1 ++ toLe 1 0x01 ++ toLe 2 (imgRelease s.cc.image) ++ toLe 2 lim.1 ++
    toLe 2 lim.2 ++ toLe 2 s.cc.pin ++ toLe 2 s.hif.compat ++ toLe 1 s.cc.source ++
    toLe 1 (getPropN s sysObj pSystemKeyringState) ++ serialBytes ++ List.replicate 20 0)

/-- VX_PIN_LEVEL (R53). -/
def doPinLevel (s : State) (r : Request) (pl : List Byte) : State :=
  let lim := imgCompat s.cc.image
  let v := fieldAt pl 0 2
  if v < lim.1 ∨ lim.2 < v ∨ v = 0 then complete s r { status := stNotAdmitted, payload := toLe 2 lim.1 ++ toLe 2 lim.2 }
  else complete (setCc s fun c => { c with pin := v }) r
    { payload := toLe 2 v, pend := v != getPropN s sysObj pSystemCompatLevel }

/-- VX_GET (R36, R37). -/
def doGet (s : State) (r : Request) (pl : List Byte) : State :=
  match propRow (objCls (reqObj r)) (reqPid r) with
  | none => complete s r (cplStatus stNoObject)
  | some row =>
    let sp := spanOf row pl (reqCount r) (roomFor r)
    let bs := spanBytes row sp (spanRead s (reqObj r) row sp (reqStaged r))
    answer s r { count := some sp.n, pend := spanPending s (reqObj r) row sp } bs

/-- A request whose payload came by DMA, with its first bytes in the slot, for a later step that reads them. -/
def carryPayload (r : Request) (pl : List Byte) : Request :=
  if reqIndirect r then
    { r with slot := r.slot.take 2 ++ toLe 1 (reqFlags r / 2 * 2) ++ toLe 1 44 ++ slice r.slot 4 12 ++ padTo 44 pl ++ slice r.slot 60 4 }
  else r

/-- VX_SET completes with the values as applied (R37, R43, R177). -/
def setDone (s : State) (r : Request) (row : PropRow) (sp : Span) : State :=
  let o := reqObj r
  let pend := spanPending s o row sp
  if objCls o = clsShaper ∧ row.pid = pShaperTapsV then
    complete s r { count := some sp.n, pend := pend, payload := tapsForecast s o }
  else answer s r { count := some sp.n, pend := pend } (spanBytes row sp (spanRead s o row sp true))

/-- VX_SET. -/
def doSet (s : State) (r : Request) (pl : List Byte) : State :=
  let o := reqObj r
  match propRow (objCls o) (reqPid r) with
  | none => complete s r (cplStatus stNoObject)
  | some row =>
    let sp := spanOf row pl (reqCount r) (if reqIndirect r then pl.length else 44)
    let xs := spanValues row sp pl
    if row.ro then
      let sp := spanOf row pl (reqCount r) (roomFor r)
      answer s r { count := some sp.n, pend := spanPending s o row sp } (spanBytes row sp (spanRead s o row sp false))
    else if o = sysObj ∧ row.pid = pSystemPufReenrol then
      if atD xs 0 0 = 0 then setDone s r row sp
      else if canReenrol s then await (beginReenrol s) (carryPayload r pl) r.start .reenrol
      else complete s r (cplStatus stDenied)
    else if o = sysObj ∧ row.pid = pSystemDebugUnlock then
      let u := setUnlock s sp.start xs
      if u.1 then setDone u.2 r row sp else complete u.2 r (cplStatus stDenied)
    else
      match writeProp s o row sp xs r.start with
      | .inl (st, bs) => complete s r { status := st, payload := bs }
      | .inr s => setDone s r row sp

/-- VX_DESCRIBE (R38). -/
def doDescribe (s : State) (r : Request) : State :=
  match propRow (objCls (reqObj r)) (reqPid r) with
  | none => complete s r (cplStatus stNoObject)
  | some row =>
    let d := describe s (reqObj r) row
    answer d.2 r {} d.1

/-- VX_ENUMERATE (R42). -/
def doEnumerate (s : State) (r : Request) (pl : List Byte) : State :=
  let cls := fieldAt pl 0 1
  if cls = 0 ∨ 19 < cls then complete s r (cplStatus stNoObject)
  else
    let ids := (objsOf s cls).filter fun o => decide (fieldAt pl 4 3 ≤ objInst o)
    let room := if toBuffer r then reqDstLen r / 4 else 10
    let got := ids.take room
    let next := match ids[room]? with | some o => objInst o | none => 0xFFFFFFFF
    let bytes := got.flatMap fun o => toLe 4 o
    complete s r { count := some got.length, payload := toLe 4 next ++ (if toBuffer r then [] else bytes), results := some bytes }

/-- VX_CREATE (R35). -/
def doCreate (s : State) (r : Request) : State :=
  let (o, s) := newObj s (objCls (reqObj r))
  let s := if objCls o = clsAudioCh then audioRouter s s.now [] [] [] else s
  complete s r { object := some o }

/-- Values that banks hold for an object that is removed go with it. -/
def dropStaged (s : State) (o : ObjId) : State :=
  { s with heads := s.heads.map fun h => (h.1, { h.2 with
      staging := dropObj h.2.staging o
      taken := h.2.taken.map fun t => { t with values := dropObj t.values o }
      commits := h.2.commits.map fun c => { c with values := dropObj c.values o } }) }

/-- An AUDIO_CH is removed: a stop of its destination with t_c at the removal (R292). -/
def destroyAudio (s : State) (c : ObjId) : State :=
  let d := audioDestOf s c
  let old := oldPath s c
  let s := audioRouter (setProp s c pAudioChEnable 0 0) s.now [] [d] []
  let x := destOf s d
  let s := if x.playing = some c then
      setDest s d { x with change := x.change.map fun g => if g.old.isNone then { g with old := some old } else g }
    else s
  dropStaged (dropObject { s with paths := mapDel s.paths c } c) c

/-- VX_DESTROY (R67, R292). -/
def doDestroy (s : State) (r : Request) : State :=
  let o := reqObj r
  match (involved s r).1 with
  | h :: _ =>
    let a : Admitted := ⟨s, [], []⟩
    let c := sealCommit a h (.removal r.mb r.cnt (reqTag r) r.start) [] [o] none
    await c.2 r r.start (.commit h c.1)
  | [] =>
    let s :=
      if objCls o = clsAudioCh then destroyAudio s o
      else if objCls o = clsGroup then dropObject s o
      else removeObj s o
    complete s r (cplStatus stOk)

/-- VX_COMMIT on a HEAD (R56, R63, R142). -/
def doCommit (s : State) (r : Request) : State :=
  let h := objInst (reqObj r)
  let values := (headRt s h).staging.filter fun e => objExists s (keyObj e.1)
  match admitValues s h values [] with
  | .inl e => complete s r { status := stNotAdmitted, payload := refusedPayload e }
  | .inr a =>
    let c := sealCommit a h (.request r.mb r.cnt (reqTag r) r.start) values [] none
    await c.2 r r.start (.commit h c.1)

/-- The release time of a group commit as applied (R71). -/
def groupTime (s : State) (r : Request) (pl : List Byte) : Ticks :=
  let t := payloadTime pl
  if t = 0 ∨ t < r.start then r.start + getPropN s (reqObj r) pGroupReleaseLead * usT else t

/-- VX_COMMIT on a GROUP (R71 to R74). -/
def doGroupCommit (s : State) (r : Request) (pl : List Byte) : State :=
  let t := groupTime s r pl
  let flight (gid : Nat) : Flight := flightFor s r (max r.start t) (.group gid)
  let g := submitGroup s r r.start t (groupEntries s (reqObj r))
  checkGroup (addFlight (endFlight g.2 r) (flight g.1)) g.1

/-- VX_DISCARD (R65): what was sealed before its start is withdrawn. -/
def doDiscard (s : State) (r : Request) : State :=
  let h := objInst (reqObj r)
  complete (discardHead s h ((takenOf s h r).map (·.before))) r (cplStatus stOk)

/-- VX_SUBSCRIBE (R40). -/
def doSubscribe (s : State) (r : Request) (pl : List Byte) : State :=
  let o := reqObj r
  let cls := objCls o
  let ring := min (fieldAt pl 0 1) 3
  let scope := if fieldAt pl 1 1 = 1 then 1 else 0
  let written := fieldAt pl 4 32
  -- the events of the command interface cannot be disabled
  let mask := if cls = clsSystem then written ||| 0x1E else written
  if scope = 0 ∧ !objExists s o then complete s r (cplStatus stNoObject)
  else
    let sub : Subscription := ⟨ring, mask⟩
    let s := if scope = 1 then { s with classSubs := mapPut s.classSubs cls sub } else { s with objSubs := mapPut s.objSubs o sub }
    answer s r {} (toLe 1 ring ++ toLe 1 scope ++ toLe 2 0 ++ toLe 32 mask ++ List.replicate 8 0)

/-- The completion of VX_ALLOC (Table 5.5). -/
def allocPayload (size base stride fmt w h mtc len : Nat) : List Byte :=
  toLe 8 size ++ toLe 8 base ++ toLe 4 stride ++ toLe 2 fmt ++ toLe 2 w ++ toLe 2 h ++ toLe 1 mtc ++ toLe 1 0 ++ toLe 4 len

/-- VX_ALLOC (R107 to R109, R116, R117). -/
def doAlloc (s : State) (r : Request) (pl : List Byte) : State :=
  let fmt := fmtApply (fieldAt pl 0 2)
  let g := fmtGeometry fmt (fieldAt pl 2 2) (fieldAt pl 4 2)
  let req := fieldAt pl 8 4
  let mode := fieldAt pl 12 1
  let mtc := if fmtLayout fmt = 2 ∧ mode ≤ 2 then mode else 0
  let refuse : State := complete s r (cplStatus stNotAdmitted)
  let stride := ((surfaceLayout fmt g.1 g.2 req).1.head?.map (·.stride)).getD 0
  if fmt = 0 then refuse
  else if objCls (reqObj r) = clsRing then
    let len := clampNat 2 1048576 (fieldAt pl 16 4)
    match allocRing s fmt g.1 g.2 req mtc len with
    | none => refuse
    | some (o, s) =>
      let x := match ringOf s o with | some x => (x.size, x.base) | none => (0, 0)
      complete s r { object := some o, payload := allocPayload x.1 x.2 stride fmt g.1 g.2 mtc len }
  else
    match allocSurface s fmt g.1 g.2 req mtc .host with
    | none => refuse
    | some (o, s) =>
      let x := match surfOf s o with | some x => (x.size, x.base) | none => (0, 0)
      complete s r { object := some o, payload := allocPayload x.1 x.2 stride fmt g.1 g.2 mtc 1 }

/-- VX_FREE (R39, R122, R299, R473). -/
def doFree (s : State) (r : Request) : State :=
  let o := reqObj r
  let f := flightFor s r r.start (.free o)
  match ringOf s o, surfOf s o with
  | some x, _ =>
    if x.freeing then complete s r (cplStatus stNotAdmitted)
    else
      let s := (ringMembers x).foldl dropWaiting (freeCapture s o)
      addFlight (endFlight s r) f
  | none, some x =>
    if x.owner ≠ .host then complete s r (cplStatus stDenied)
    else if x.freeing then complete s r (cplStatus stNotAdmitted)
    else addFlight (endFlight (dropWaiting (setSurf s o { x with freeing := true }) o) r) f
  | none, none => complete s r (cplStatus stNoObject)

/-- The completion of VX_LEASE and VX_RELEASE (R121). -/
def leasePayload (s : State) (o : ObjId) : List Byte :=
  match surfOf s o with
  | some f => toLe 2 (hostLeases f) ++ toLe 1 (surfStateCode s f) ++ toLe 5 0 ++ (surfaceRecord f o).take 8
  | none => []

/-- VX_LEASE. -/
def doLease (s : State) (r : Request) : State :=
  let o := reqObj r
  match surfOf s o with
  | none => complete s r (cplStatus stNoObject)
  | some f =>
    if surfFreeing s f || decide (255 ≤ hostLeases f) then
      complete s r { status := stNotAdmitted, payload := leasePayload s o }
    else
      let s := addLease s o .host
      complete s r { payload := leasePayload s o }

/-- VX_RELEASE. -/
def doRelease (s : State) (r : Request) : State :=
  let s := dropLease s (reqObj r) .host
  complete s r { payload := leasePayload s (reqObj r) }

/-- VX_TRIGGER (R303). -/
def doTrigger (s : State) (r : Request) (pl : List Byte) : State :=
  let t := vxTriggerDo s (reqObj r) r.start pl
  complete t.2 r { payload := t.1 }

/-- VX_EXPORT (R305, R306). -/
def doExport (s : State) (r : Request) (pl : List Byte) : State :=
  let o := reqObj r
  match ringOf s o with
  | none => complete s r (cplStatus stNoObject)
  | some x =>
    let e := exportReq x pl
    if x.cap ≠ .frozen ∨ fsBudget < fsCharge s + e.rate then complete s r (cplStatus stNotAdmitted)
    else
      let r' := carryPayload r pl
      await { endFlight s r with charges := mapPut s.charges (exportKey r.mb r.cnt) e.rate } r' r.start (.exportOf o)

/-- VX_RESTART (R79). -/
def doRestart (s : State) (r : Request) : State :=
  match restartObj s (reqObj r) with
  | (some e, s) => complete s r { status := stNotAdmitted, payload := refusedPayload e }
  | (none, s) => complete s r (cplStatus stOk)

/-- VX_RESET (R423): the reset starts 1 ms after the completion. -/
def doReset (s : State) (r : Request) : State :=
  complete (setPower s fun p => { p with resetAt := some (p.resetAt.getD (s.now + msT)) }) r (cplStatus stOk)

/-- The fields of a VX_REPAIR payload (Table 20.5). -/
def repairKind (pl : List Byte) : Nat := fieldAt pl 0 1
def repairAction (pl : List Byte) : Nat := if fieldAt pl 1 1 ≤ 3 then fieldAt pl 1 1 else 1
def repairIndex (pl : List Byte) : Nat := fieldAt pl 2 2

/-- A unit's test on request: the work entry that UNIT_TESTED ends. -/
def requestTest (s : State) (r : Request) (kind index action : Nat) : State :=
  await (putWork s ⟨kind, index, none, false, true, some (r.mb, r.cnt), action, 0, none⟩) r r.start (.repair kind index)

/-- VX_REPAIR action MIGRATE (R443, R444, R265). -/
def doMigrate (s : State) (r : Request) (kind index : Nat) : State :=
  let req := some (r.mb, r.cnt)
  let go := match kind with
    | 0 => planLane s index req
    | 1 => planPc s index req
    | k => planMove s k index req
  match go with
  | none => complete s r (cplStatus stNotAdmitted)
  | some s => await s r r.start (.repair kind index)

/-- Whether a unit is a frozen pseudo-channel, which is not gloved before its release (R362). -/
def frozenUnit (s : State) (kind index : Nat) : Bool := kind == 1 && fsState s index == 2

/-- Whether another request or a move holds a unit. -/
def unitTaken (s : State) (kind index : Nat) : Bool :=
  match workOf s kind index with
  | some w => !w.test || w.req.isSome || w.spare.isSome
  | none => (s.works.any fun w => w.kind == kind && w.spare == some index && !w.test) ||
    (kind == 0 && s.laneTxs.any fun e => match e.2.sparing with | some y => y.1 == index | none => false)

/-- Actions TEST and RETIRE fit a free spare or a gloved unit that nothing else holds. -/
def spareOrGloved (s : State) (kind index : Nat) : Bool :=
  (kindRole s kind index == 1 || kindRole s kind index == 2) && !frozenUnit s kind index && !unitTaken s kind index

/-- Action TEST. -/
def doTest (s : State) (r : Request) (kind index : Nat) : State :=
  if !spareOrGloved s kind index then complete s r (cplStatus stNotAdmitted)
  else requestTest (setKindRole s kind index 2) r kind index 1

/-- Action RETURN. -/
def doReturn (s : State) (r : Request) (kind index : Nat) : State :=
  if kindRole s kind index ≠ 3 ∨ unitTaken s kind index then complete s r (cplStatus stNotAdmitted)
  else requestTest s r kind index 2

/-- Action RETIRE. -/
def doRetire (s : State) (r : Request) (kind index : Nat) : State :=
  if !spareOrGloved s kind index then complete s r (cplStatus stNotAdmitted)
  else
    let s := setKindRole (dropWork s kind index) kind index 3
    complete s r { payload := repairPayload 2 (roleCode s kind index) none 0 }

/-- VX_REPAIR by its action. -/
def doRepair (s : State) (r : Request) (pl : List Byte) : State :=
  let k := repairKind pl
  let i := repairIndex pl
  if unitCount k ≤ i then complete s r (cplStatus stNoObject)
  else match repairAction pl with
    | 0 => if s.hif.brace then complete s r (cplStatus stBusy) else doMigrate s r k i
    | 1 => doTest s r k i
    | 2 => doReturn s r k i
    | _ => doRetire s r k i

/-- The slot that is not running (R394); after a host push, the one that the descriptors do not prefer. -/
def idleSlot (s : State) : Nat :=
  match s.cc.source with
  | 1 => 1
  | 2 => 0
  | _ => 1 - preferredSlot s.cc.flash

/-- VX_FW_UPDATE (R54, R394, R449): pair B verifies and writes the image, reads it back, and hands over. -/
def doFwUpdate (s : State) (r : Request) (pl : List Byte) : State :=
  let h := padTo 1024 pl
  let body := (pl.drop 1024).take (imgBodyLen h)
  let lim := imgCompat h
  match verifyImage s h body with
  | .inl _ => complete s r (cplStatus stDenied)
  | .inr _ =>
    if s.cc.pin ≠ 0 ∧ (s.cc.pin < lim.1 ∨ lim.2 < s.cc.pin) then complete s r (cplStatus stDenied)
    else
      let slot := idleSlot s
      -- whether the slot reads back as written is the flash's: a free value
      let v := freshValue (writeImage s slot h body)
      if v.1 % 2 = 1 then complete v.2 r (cplStatus stAbandoned) else
      let s := await (writeDesc v.2 slot) r r.start .fwUpdate
      let s := setPower s fun p => { p with handover := some ⟨s.now, true, some (r.mb, r.cnt), slot⟩ }
      beginHandover (setCc s fun c => { c with draining := c.draining ++ [.pairA] })

/-- VX_ATTEST (R399, R402). -/
def doAttest (s : State) (r : Request) (pl : List Byte) : State :=
  let n := objInst (reqObj r)
  let nonce := if reqIndirect r then pl.take 48 else pl.take (reqPayloadLen r)
  if s.keys.reenrolling then complete s r (cplStatus stBusy)
  else if !keyringSigns s || !(n == 1 || (decide (8 ≤ n) && slotPolicy s n == 1)) then complete s r (cplStatus stDenied)
  else
    let (q, seq, s) := makeQuote s n nonce
    let s := setProps s (reqObj r) pKeyslotLastQuote 0 (q.map fun b => (b.toNat : Int))
    let lead := if reqIndirect r && !toBuffer r then List.replicate 8 0 else []
    complete s r { payload := lead ++ toLe 4 seq, results := some q }

/-! ### Starting, fences and consumption -/

/-- Execute a request whose checks have passed. -/
def runBody (s : State) (r : Request) (pl : List Byte) : State :=
  match reqOpcode r with
  | 0x01 => doNop s r pl
  | 0x02 => doIdentify s r
  | 0x03 => doPinLevel s r pl
  | 0x10 => doGet s r pl
  | 0x11 => doSet s r pl
  | 0x12 => doDescribe s r
  | 0x13 => doEnumerate s r pl
  | 0x20 => doCreate s r
  | 0x21 => doDestroy s r
  | 0x30 => if objCls (reqObj r) = clsGroup then doGroupCommit s r pl else doCommit s r
  | 0x31 => doDiscard s r
  | 0x32 => doSubscribe s r pl
  | 0x40 => doAlloc s r pl
  | 0x41 => doFree s r
  | 0x42 => doLease s r
  | 0x43 => doRelease s r
  | 0x44 => doTrigger s r pl
  | 0x45 => doExport s r pl
  | 0x50 => doRestart s r
  | 0x60 => doReset s r
  | 0x61 => doRepair s r pl
  | 0x70 => doFwUpdate s r pl
  | 0x80 => doAttest s r pl
  | _ => complete s r (cplStatus stUnknown)

/-- The end of the DMA retry budget of a flight (Table 2.18). -/
def budgetOf (f : Flight) : Ticks :=
  if f.cls = .immediate then f.req.start + 25 * usT else f.req.start + (f.deadline - f.req.start) / 4

/-- Whether a request fetches its payload: VX_COMMIT on a HEAD carries none, whatever its bytes say (R63). -/
def fetches (r : Request) : Bool := reqIndirect r && !(reqOpcode r == 0x30 && objCls (reqObj r) == clsHead)

/-! ### The order of effects on one object (R47) -/

/-- Checks 1 and 2 of Table 2.10. -/
def slotOk (r : Request) : Bool :=
  fieldAt r.slot 60 4 == crc32c (r.slot.take 60) && reqSeq r == r.cnt

/-- Whether a request comes before another: by count in one mailbox, else by their doorbell writes, and within one scan
by mailbox. -/
def ringsBefore (a b : Request) : Bool :=
  if a.mb = b.mb then decide (1 ≤ (b.cnt + 65536 - a.cnt) % 65536 ∧ (b.cnt + 65536 - a.cnt) % 65536 ≤ 0x8000)
  else decide (a.bell < b.bell ∨ a.bell = b.bell ∧ a.mb < b.mb)

/-- Whether a flight has not taken its effect yet. -/
def unmoved (f : Flight) : Bool := match f.waits with | .payload | .turn _ => true | _ => false

/-- Whether an earlier request on the same object has still to take its effect. -/
def turnHeld (s : State) (r : Request) : Bool :=
  let before (q : Request) : Bool := reqObj q == reqObj r && ringsBefore q r
  s.flights.any (fun f => unmoved f && before f.req) || s.waiting.any before ||
    (List.range 16).any fun m => m != r.mb && (unconsumed s m).any fun q => slotOk q && before q

/-- The heads whose banks a request takes at its start. -/
def bankHeads (s : State) (r : Request) : List Nat :=
  match reqOpcode r with
  | 0x30 => (involved s r).1.eraseDups
  | 0x31 => [objInst (reqObj r)]
  | _ => []

/-- A request that takes its effect later takes the staging banks of its heads at its start (R56, R65, R73). -/
def takeBanks (s : State) (r : Request) : State :=
  (bankHeads s r).foldl (fun s h => updHead s h fun x =>
    { x with taken := x.taken ++ [⟨r.mb, r.cnt, x.nextCommit, x.staging⟩], staging := [] }) s

/-- Start a request: checks 3 to 7, then the payload's fetch, the wait for its turn, or its effect (R34, R47). `body` is its
effect. -/
def startWith (body : State → Request → List Byte → State) (s : State) (r : Request) : State :=
  let r := { r with start := s.now }
  match precheck s r with
  | some st => if recoveringA s then writeCompletion s r (cplStatus st) else complete s r (cplStatus st)
  | none =>
    if fetches r then
      let f := flightFor s r r.start .payload
      issueDma (addFlight (takeBanks s r) f) r (budgetOf f)
    else if turnHeld s r then
      addFlight (takeBanks s r) (flightFor s r r.start (.turn (reqPayload r)))
    else body s r (reqPayload r)

/-- Whether the object of a request that waited still stands (step 6). -/
def objectStands (s : State) (r : Request) : Bool :=
  match opRow (reqOpcode r) with | some row => objectOk s r row | none => true

/-- A request in flight has its payload at hand: it takes its effect once no earlier one on its object has still to. -/
def takeEffect (s : State) (r : Request) (pl : List Byte) : State :=
  if turnHeld s r then
    { s with flights := s.flights.map fun f => if f.req = r then { f with waits := .turn pl } else f }
  else withTaken s r fun s =>
    if objectStands s r then runBody s r pl else complete s r (cplStatus stNoObject)

/-- Whether a request must wait: a fence, with an earlier request of its mailbox unfinished, or behind one that waits. -/
def mustWait (s : State) (r : Request) : Bool :=
  s.waiting.any (fun w => w.mb == r.mb) || (reqFence r && s.flights.any fun f => f.req.mb == r.mb)

/-- The payload of a flight that waits for its turn, once that has come. -/
def turnCome (s : State) (f : Flight) : Option (List Byte) :=
  match f.waits with | .turn pl => if turnHeld s f.req then none else some pl | _ => none

/-- Start the first waiting request that can start, or let the first whose turn has come take its effect. -/
def pump : Nat → State → State
  | 0, s => s
  | n + 1, s =>
    let ready (r : Request) : Bool :=
      (s.waiting.find? fun w => w.mb == r.mb) == some r && !(reqFence r && s.flights.any fun f => f.req.mb == r.mb)
    match s.waiting.find? ready with
    | some r => pump n (startWith runBody { s with waiting := s.waiting.erase r } r)
    | none =>
      match s.flights.findSome? fun f => (turnCome s f).map fun pl => (f.req, pl) with
      | some e => pump n (takeEffect s e.1 e.2)
      | none => s

/-- How many requests wait for a fence or for their turn: each may do both. -/
def waiters (s : State) : Nat :=
  2 * s.waiting.length + (s.flights.filter fun f => match f.waits with | .turn _ => true | _ => false).length

/-- Delay lines that no reserved path reads with a delay are freed (R288). -/
def freeDelays (s : State) : State :=
  if s.delayLines.isEmpty then s
  else
    let v := (allCommits s).foldl (fun w k => applyBank w k.values k.removes) s
    let used (s : State) (p : ObjId) : Bool :=
      !(blockDelays s (fun r => (liveRoutes s).contains r || routeLive s r) p).isEmpty
    s.delayLines.foldl (fun s e =>
      let p := e.1 / 16
      if used s p || used v p then s
      else { freeSurface s e.2 with delayLines := mapDel s.delayLines e.1, delayCount := mapDel s.delayCount p }) s

/-- What follows a command at once: objects that nothing holds any more are freed, and fences release. -/
def settle (s : State) : State :=
  let s := freeDelays (settleFrees s)
  let s := settleFrees (pump (waiters s) s)
  pumpDma s.dmaQueue.length s

/-- Whether firmware serves the mailboxes (R30, R45). -/
def serves (s : State) : Bool := s.hif.fwReady && !s.cc.stopped && !s.hif.fwFault

/-- Firmware consumes the request at the head of a mailbox, where its checks 1 and 2 pass and it is one that `sel`
names, and starts it; the boot ROM answers MB00 with BUSY_RETRY while it waits for a push (R30, R34, R47, R378). -/
def serve (s : State) (mb : Nat) (sel : Request → Bool) (body : State → Request → List Byte → State) : State :=
  match headRequest s mb with
  | none => s
  | some r =>
    if !slotOk r || !sel r then s
    else if s.cc.pushWait && mb == 0 then writeCompletion (consume s mb) r (cplStatus stBusy)
    else if !serves s then s
    else
      let s := consume s mb
      if !r.inHandover && mustWait s r then { s with waiting := s.waiting ++ [r] }
      else settle (startWith body s r)

/-- A request with an opcode. -/
def hasOp (op : Nat) (r : Request) : Bool := reqOpcode r == op

/-- A VX_SET of a property of a class. -/
def setsProp (cls pid : Nat) (r : Request) : Bool :=
  reqOpcode r == 0x11 && objCls (reqObj r) == cls && reqPid r == pid

/-- A VX_REPAIR with an action; what an indirect one asks for is known when its payload has come. -/
def repairs (action : Nat) (r : Request) : Bool :=
  reqOpcode r == 0x61 && (reqIndirect r || repairAction (reqPayload r) == action)

/-- Firmware consumes a request that fails check 1 or 2, or whose opcode is reserved (R34). -/
def serveBad (s : State) (mb : Nat) : State :=
  match headRequest s mb with
  | none => s
  | some r =>
    if s.cc.pushWait && mb == 0 then
      if slotOk r && !(opRow (reqOpcode r)).isNone then s
      else writeCompletion (consume s mb) r (cplStatus stBusy)
    else if !serves s then s
    else if !slotOk r then settle (postCompletion (consume s mb) r (cplStatus stBadCheck))
    else if (opRow (reqOpcode r)).isSome then s
    else
      let s := consume s mb
      if !r.inHandover && mustWait s r then { s with waiting := s.waiting ++ [r] } else settle (startWith runBody s r)

/-! ### DMA (R33, R52, R471) -/

/-- The flight that a DMA read serves. -/
def dmaFlight (s : State) (d : DmaRead) : Option Flight := flightOf s d.mb d.cnt

/-- Take a read out of the list. -/
def dropDma (s : State) (tag : Nat) : State := { s with dma := s.dma.filter fun d => decide (d.tag ≠ tag) }

/-- A read failed: a new attempt while the budget lasts, with a new tag. -/
def retryDma (s : State) (d : DmaRead) : State :=
  match dmaFlight s d with
  | none => s
  | some f => if s.now < d.budgetEnd then issueDma s f.req d.budgetEnd else abandonFlight s f

/-- A DMA completion arrives (R471). -/
def dmaArrives (s : State) (tag : Nat) (st : DmaStatus) (data : List Byte) : State :=
  match s.dma.find? fun d => d.tag == tag with
  | none =>
    if s.dmaDead.contains tag then lateDiscard { s with dmaDead := s.dmaDead.erase tag }
    else if s.dmaLate.contains tag then lateDiscard { s with dmaLate := s.dmaLate.erase tag }
    else s
  | some d =>
    let s := dropDma s tag
    if st ≠ .ok then retryDma s d
    else
      match dmaFlight s d with
      | none => lateDiscard s
      | some f =>
        if f.waits ≠ .payload then s
        else
          let bytes := padTo d.len data
          if crc32c bytes ≠ d.crc then withTaken s f.req fun s => complete s f.req (cplStatus stBadCheck)
          else takeEffect s f.req bytes

/-- No completion arrives within the Completion Timeout Value (R471): the tag is free again. -/
def dmaTimesOut (s : State) (tag : Nat) : State :=
  match s.dma.find? fun d => d.tag == tag with
  | none =>
    if s.dmaDead.contains tag then { s with dmaDead := s.dmaDead.erase tag, dmaLate := s.dmaLate ++ [tag] } else s
  | some d => retryDma { dropDma s tag with dmaLate := s.dmaLate ++ [tag] } d

/-- The DMA retry budget runs out: the request is abandoned at once (R52). -/
def dmaBudgetOut (s : State) (mb cnt : Nat) : State :=
  let queued := (s.dmaQueue.find? fun w => w.req.mb == mb && w.req.cnt == cnt).map (·.budgetEnd)
  match ((s.dma.find? fun d => d.mb == mb && d.cnt == cnt).map (·.budgetEnd)).or queued with
  | none => s
  | some budgetEnd =>
    if s.now < budgetEnd then s
    else match flightOf s mb cnt with
      | some f => abandonFlight s f
      | none => s

/-! ### Re-enrolment (R402) -/

/-- REENROLMENT_COMPLETE: the bank stands or falls, and the request completes. With which status it does so where the
check failed is not stated: a free value. A burn waits out the brace state (R433). -/
def reenrolDone (s : State) (seedOk : Bool) : State :=
  if !s.keys.reenrolling || s.hif.brace then s
  else
    let s := endReenrol s seedOk
    match s.flights.find? (fun f => decide (f.waits = .reenrol)), propRow clsSystem pSystemPufReenrol with
    | some f, some row =>
      if seedOk then setDone s f.req row (spanOf row (reqPayload f.req) (reqCount f.req) 44)
      else
        let v := freshValue s
        completeFlight v.2 f (cplStatus (v.1 % 8))
    | _, _ => s

end Sys2Proof.Machine
end

