-- ==== Sys2Proof/Machine/Power.lean ====
section
/-! DEFINITION. Power states, the brace state, temperatures, ageing and error trends (R426 to R436, R447, R448, R467). -/

namespace Sys2Proof.Machine

/-! ### Entry to a power state (R426, R429) -/

/-- Every outstanding request ends, at most as at its deadline; what a fence holds back ends with it. -/
def endRequests (s : State) : State :=
  let s := s.flights.foldl (fun s f => if (flightOf s f.req.mb f.req.cnt).isSome then abandonFlight s f else s) s
  let ws := s.waiting
  ws.foldl (fun s r => postCompletion s r (cplStatus stAbandoned)) { s with waiting := [] }

/-- Cepra records still to be signed are signed before the entry. -/
def endCepra (s : State) : State :=
  (s.rings.map (·.1)).foldl (fun s o => match ringOf s o with
    | some r => if r.cap = .frozen ∧ r.cepra = [] then cepraReady s o else s
    | none => s) s

/-- Whether a port of any kind runs. -/
def portRuns (s : State) (o : ObjId) : Bool :=
  match objCls o with
  | 1 => getProp s o pPortInState != 0
  | 2 => getProp s o pPortOutState != 0
  | _ => getProp s o pAudioPortState != 0

/-- The ports that an entry stops. -/
def runningPorts (s : State) : List ObjId :=
  (((List.range 128).map (objId clsPortIn)) ++ ((List.range 128).map (objId clsPortOut)) ++
    ((List.range 8).map (objId clsAudioPort))).filter (portRuns s)

/-- A port stops. Which cause PORT_OUT_STATE then carries is not stated: a free value. -/
def stopPort (s : State) (o : ObjId) : State :=
  match objCls o with
  | 1 => setPortState (dropOpen s o) o 0
  | 2 => let v := freshValue s; setOutState v.2 o 0 (v.1 % 7)
  | _ => setAudioPortState s o 0

/-- A head stops at the entry instant: `head.run` keeps its value. -/
def stopForEntry (s : State) (h : Nat) : State :=
  match getPropN s (headObj h) pHeadRasterState with
  | 0 => s
  | 1 => setRasterState (freeHold s h) h 0
  | _ => stopHead s h s.now

/-- POWER_STATE. -/
def powerEvent (s : State) (arg : Nat) : State := postEvent s 0x1387 sysObj arg

/-- The entry into mode 1 (S), 2 (DS) or 3 (B). -/
def enterMode (s : State) (mode : Nat) : State :=
  let s := settleFrees (endCepra (endRequests s))
  let ports := runningPorts s
  let s := recharge ((List.range 24).foldl stopForEntry s)
  let s := ports.foldl stopPort s
  let s := powerEvent s mode
  match mode with
  | 1 => setPower s fun p => { p with mode := 1, entry := none, resume := ports }
  | 2 => setPower (resetTo s clDS) fun p => { p with mode := 2 }
  | _ => setPower (resetTo (setPower s fun p => { p with backupMark := true }) clB) fun p => { p with mode := 3 }

/-- POWER_STATE_ENTRY: not in the brace state, in which no entry starts, nor during a handover or recovery. -/
def powerEntry (s : State) : State :=
  match s.power.entry with
  | none => s
  | some e =>
    if s.now < e.2 || s.hif.brace || s.hif.handover || s.cc.recovering.isSome || e.1 == 0 then s
    else enterMode s e.1

/-! ### Waking (R427, R428) -/

/-- The bit of a source in `system.wake_sources`. -/
def wakeBit : WakeSource → Nat
  | .wakeN => 0 | .doorbell => 1 | .rtcAlarm => 2 | .perstRelease => 3

/-- Whether `system.wake_alarm` has come: 0 is none. -/
def alarmDue (s : State) : Bool :=
  let a := getPropN s sysObj pSystemWakeAlarm 0 * 32768 + getPropN s sysObj pSystemWakeAlarm 1 % 32768
  a != 0 && decide (a ≤ rtcNow s)

/-- Whether a source wakes the device from its power state. -/
def wakes (s : State) (w : WakeSource) : Bool :=
  bitOf (getPropN s sysObj pSystemWakeSources) (wakeBit w) &&
  match w with
  | .wakeN => true
  | .doorbell => s.power.mode == 1
  | .rtcAlarm => alarmDue s
  | .perstRelease => s.power.mode == 2

/-- A port that the entry stopped restarts with its running values. -/
def resumePort (s : State) (o : ObjId) : State :=
  match objCls o with
  | 1 =>
    let s := updPortIn s o fun x => { portIn0 with
      engines := x.engines, charge := x.charge, runs := x.runs, drops := x.drops, lastDropEvt := x.lastDropEvt }
    let s := (portIn s o).runs.flatten.foldl (fun s l => if l ≤ 95 then setLane s l lane0 else s) s
    let s := setPortState s o 1
    let s := if 4 ≤ getPropN s o pPortInKind then
        [0, 1].foldl (fun s i => let q := getPropN s o pPortInParent i
          if q = 0 then s else emit s (.netReply q true)) s
      else s
    restartPaths s o s.now
  | 2 =>
    if engineGloved s 6 (outOf s o).engines then s
    else
      let s := updOut s o fun x => { out0 with engines := x.engines }
      let s := setProp (setProp s o pPortOutDpLink 0 0) o pPortOutDpLink 1 255
      restartPaths (startOut s o 0) o s.now
  | _ =>
    let s := setTdm s (objInst o) tdm0
    let s := setProp (setProp (setProp s o pAudioPortRate 0 0) o pAudioPortRateClass 0 0) o pAudioPortBclkPeriod 0 0
    restartPaths (setAudioPortState s o 1) o s.now

/-- Pending commits apply as to a stopped head (R64). -/
def applyPending (s : State) (h : Nat) : State :=
  let due := ((headRt s h).commits.filter fun c =>
    c.staged.isSome && (match c.release with | some t => decide (t ≤ s.now) | none => true)).foldl (fun l c => insertStaged c l) []
  due.foldl (fun s c => match commitOf s h c.id with | some c => applyIdle s h c | none => s) s

/-- Exit from S. -/
def exitStandby (s : State) (bit : Nat) : State :=
  let ports := s.power.resume
  let s := setPower s fun p => { p with mode := 0, resume := [] }
  let s := setProp (setProp s sysObj pSystemPowerState 0 0) sysObj pSystemResetCause 0 6
  let s := (List.range 24).foldl applyPending s
  let s := settleAudioStates (ports.foldl resumePort s)
  let s := (List.range 24).foldl (fun s h => startOrStop s s h) s
  powerEvent s (256 + bit * 65536)

/-- Exit from DS: the boot of R377, on the kept settings. -/
def exitDeep (s : State) (bit : Nat) (seedOk : Bool) (corrected : Nat) : State :=
  let s := setPower s fun p => { p with mode := 0 }
  let s := setProp s sysObj pSystemResetCause 0 7
  powerEvent (runBoot s seedOk corrected false) (256 + bit * 65536)

/-- WAKE. -/
def wake (s : State) (w : WakeSource) (seedOk : Bool) (corrected : Nat) : State :=
  if !wakes s w then s
  else match s.power.mode with
    | 1 => exitStandby s (wakeBit w)
    | 2 => exitDeep s (wakeBit w) seedOk corrected
    | _ => s

/-! ### The brace state (R432 to R434, R46, R75, R76) -/

/-- Commits that are pending when the brace state begins are held. -/
def holdCommits (s : State) : State :=
  { s with heads := s.heads.map fun h => (h.1, { h.2 with
      commits := h.2.commits.map fun c => if c.staged.isSome then { c with held := true } else c }) }

/-- Hinge-class deadlines are suspended with the time that remains: of one whose last suspension still runs, the time that
remained then (R46). -/
def suspendDeadlines (s : State) : State :=
  { s with flights := s.flights.map fun f =>
      if f.cls = .hinge ∧ f.left.isNone then
        { f with left := some (f.deadline - max s.now (f.resumes.getD 0)), resumes := none }
      else f }

/-- BRACE_BEGIN: a rail crosses its warning level at a voltage. -/
def braceBegin (s : State) (rail mv : Nat) : State :=
  if s.power.braceAt.isSome then s
  else
    let s := setHif s fun h => { h with brace := true }
    let s := setPower (bumpProp s sysObj pSystemBraceCount) fun p =>
      { p with braceAt := some s.now, lowMv := mv, lowRail := rail }
    let s := postEvent s 0x1380 sysObj (rail % 16 + mv % 65536 * 65536 + rtcSec s % 2 ^ 32 * 2 ^ 32)
    suspendDeadlines (holdCommits s)

/-- Whether heads of other devices are involved in a flight. -/
def flightRemote (s : State) (f : Flight) : Bool :=
  match f.waits with
  | .group gid => match groupOf s gid with
    | some g => g.members.any fun m => m.via.isSome
    | none => false
  | _ => false

/-- At t_r deadlines go on: a hinge-class one a frame period of its slowest head later, a long one by the time in brace. -/
def resumeDeadlines (s : State) (began : Ticks) : State :=
  { s with flights := s.flights.map fun f =>
      match f.left with
      | some d =>
        let on := s.now + slowest s f.heads (flightRemote s f)
        { f with deadline := on + d, left := none, resumes := some on }
      | none => if f.cls = .long then { f with deadline := f.deadline + (s.now - max began f.req.start) } else f }

/-- One period of a chain's source, for R412. -/
def chainPeriod (s : State) (c : Nat) : Ticks :=
  match chainRate s c with
  | some r => if r.1 = 0 then 0 else secT * r.2 / r.1
  | none => 0

/-- BRACE_END: t_r, with the lowest voltage and the rail that reached it. -/
def braceEnd (s : State) (rail mv : Nat) : State :=
  match s.power.braceAt with
  | none => s
  | some began =>
    let us := min ((s.now - began) / usT) (2 ^ 32 - 1)
    let s := logBrace s rail mv false
    let s := setHif s fun h => { h with brace := false }
    let s := setPower s fun p => { p with braceAt := none }
    let s := postEvent s 0x1381 sysObj (mv % 65536 + rail % 16 * 65536 + us * 2 ^ 32)
    let s := resumeDeadlines s began
    let s := (List.range 24).foldl (fun s h =>
      if (headRt s h).commits.any (fun c => c.held) then
        updHead s h fun x => { x with heldUntil := some (s.now + framePeriod s (headObj h)) }
      else s) s
    (List.range 8).foldl (fun s c =>
      setChainRt s c { chainRt s c with resumeAt := some (s.now + chainPeriod s c) }) s

/-! ### Temperatures (R467) -/

/-- One island's reading: `system.tj`, its peak, and the warning. -/
def readIsland (first : Bool) (s : State) (i : Nat × Int) : State :=
  let v := clampInt (-32768) 32767 i.2
  let peak := getProp s sysObj pSystemTjPeak i.1
  let s := setProp s sysObj pSystemTj i.1 v
  let s := if first || peak < v then setProp s sysObj pSystemTjPeak i.1 v else s
  if getProp s sysObj pSystemTjWarn < v ∧ !s.power.warnIslands.contains i.1 then
    postEvent (setPower s fun p => { p with warnIslands := p.warnIslands ++ [i.1] }) 0x1390 sysObj (i.1 + twos 16 v * 65536)
  else s

/-- The warning ends when every island lies 5 °C below it. Which island the event then names is not stated: a free value. -/
def endWarning (s : State) : State :=
  let limit := getProp s sysObj pSystemTjWarn - 5
  if s.power.warnIslands.isEmpty || (getProps s sysObj pSystemTj 0 40).any (fun v => decide (limit < v)) then s
  else
    let f := freshValue s
    let i := f.1 % 40
    postEvent (setPower f.2 fun p => { p with warnIslands := [] }) 0x1390 sysObj
      (i + twos 16 (getProp s sysObj pSystemTj i) * 65536 + 2 ^ 63)

/-- A trip: every island but CI00 is held in reset until VDD_AO falls, and the next power-up is a P. -/
def thermalTrip (s : State) : State :=
  setPower (resetTo (logBrace s s.power.lowRail s.power.lowMv true) clD) fun p => { p with inReset := true, tripped := true }

/-- THERMAL_READ. In a reset and in DS, where no firmware reports a reading, it can only trip. -/
def thermalRead (s : State) (temps : List Int) : State :=
  let first := !s.power.tjRead
  let ts := temps.take 40
  if s.power.inReset || s.power.mode == 2 then (if ts.any (fun v => decide (125 ≤ v)) then thermalTrip s else s) else
  let s := setPower s fun p => { p with tjRead := true }
  let s := endWarning (((List.range ts.length).zip ts).foldl (readIsland first) s)
  if ts.any (fun v => decide (125 ≤ v)) then thermalTrip s else s

/-! ### Faulty units (R439) -/

/-- A planned copy loses the spare that it had chosen: it starts again to the next free one, or ends (R445). -/
def nextPc (s : State) (v : FsMove) : State :=
  match sparePc s v.old with
  | some q =>
    let s := putMove s { v with spare := some q }
    match workOf s 1 v.old with
    | some w => putWork s { w with spare := some q }
    | none => s
  | none => dropWork (dropMove s v.lpc) 1 v.old

/-- Firmware declares a pseudo-channel faulty (R439): one in service freezes and is replaced under R360, and a spare goes to its
test. Which cause FS_FREEZE then carries is not stated: a free value. -/
def pcFault (s : State) (pc why : Nat) : State :=
  match fsState s pc with
  | 0 => let v := freshValue (faultEvent s 1 pc why); freezePc v.2 pc (v.1 % 2)
  | 1 =>
    let s := putWork (setFsState (faultEvent s 1 pc why) pc 3) ⟨1, pc, none, false, true, none, 0, 0, none⟩
    (s.fsMoves.filter fun v => v.planned && v.spare == some pc).foldl nextPc s
  | _ => s

/-- Firmware declares a unit faulty (R439). -/
def declareFault (s : State) (kind index cause : Nat) : State :=
  match kind with
  | 0 => coreFault s index cause
  | 1 => if index < 128 then pcFault s index cause else s
  | _ => unitFault s kind index cause

/-! ### Ageing and error trends (R447, R448) -/

/-- The serving units of an island that can have spares elsewhere (Table 1.6): kind and index. -/
def islandUnits (i : Nat) : List (Nat × Nat) :=
  let run (kind start n : Nat) : List (Nat × Nat) := (List.range n).map fun k => (kind, start + k)
  match i with
  | 4 => run 1 0 32 | 5 => run 1 32 32 | 6 => run 1 64 32 | 7 => run 1 96 32
  | 28 => run 2 0 9 | 29 => run 2 9 9 | 30 => run 2 18 8 | 31 => run 2 26 8
  | 32 => run 3 0 7 | 33 => run 3 7 6
  | 34 => run 4 0 9 | 35 => run 4 9 9 | 36 => run 4 18 8
  | _ => []

/-- The island that holds a unit of those kinds. -/
def islandOf (u : Nat × Nat) : Nat :=
  ((List.range 40).find? fun i => (islandUnits i).contains u).getD 40

/-- Begin a planned move of a unit to the lowest-numbered free spare outside its island: none where there is none. -/
def ageMove (s : State) (u : Nat × Nat) : Option State :=
  let away (n : Nat) : Bool := islandOf (u.1, n) != islandOf u
  if u.1 = 1 then planPcTo s u.2 none ((List.range 128).find? fun q => away q && sparePcFree s q)
  else if kindRole s u.1 u.2 ≠ 0 ∨ unitBusy s u.1 u.2 then none
  else ((spareChoices u.1 u.2).find? fun n => away n && spareFree s u.1 u.2 n).map (planMoveTo s u.1 u.2 none)

/-- AGEING: an island's slowdown in thousandths. -/
def ageing (s : State) (island slowdown : Nat) : State :=
  let v := min slowdown 65535
  let old := getPropN s sysObj pSystemAgeing island
  let limit := getPropN s sysObj pSystemAgeLimit
  let s := setProp s sysObj pSystemAgeing island v
  if old < limit ∧ limit ≤ v then
    let s := postEvent s 0x1385 sysObj (island + v * 65536)
    if getProp s sysObj pSystemRepairAuto = 1 then setPower s fun p => { p with ageMoves := p.ageMoves ++ islandUnits island }
    else s
  else s

/-- The first unit of a list that can move now, and the list after it. -/
def firstAgeMove (s : State) : List (Nat × Nat) → Option State × List (Nat × Nat)
  | [] => (none, [])
  | u :: us => match ageMove s u with
    | some s' => (some s', us)
    | none => firstAgeMove s us

/-- At a hinge one unit of an ageing island begins to move, outside the brace state; a unit with no spare outside its
island is only reported. -/
def ageHinge (s : State) : State :=
  if s.power.ageMoves.isEmpty || s.hif.brace then s
  else
    let r := firstAgeMove s s.power.ageMoves
    setPower (r.1.getD s) fun p => { p with ageMoves := r.2 }

/-- ERROR_TREND_MIGRATE: a lane core or a pseudo-channel crosses a limit of R448. -/
def trendMove (s : State) (kind index : Nat) : State :=
  if getProp s sysObj pSystemRepairAuto ≠ 1 ∨ s.hif.brace = true then s
  else match kind with
    | 0 => (planLane s index none).getD s
    | 1 => (planPc s index none).getD s
    | _ => s

end Sys2Proof.Machine
end

