-- ==== Sys2Proof/Machine/Finish.lean ====
section
/-! DEFINITION. What every command shares: it brings the timebase to its instant, acts only while the parts that it needs run,
lets what follows at once follow, and leaves the waiting commands and the burnt OTP bits as they are. -/

namespace Sys2Proof.Machine

/-- How a command of this block ends. -/
abbrev Result : Type := Host.Outcome State Fault Refusal

/-- OTP cells are only ever set (R384). -/
def joinOtp (a b : Otp) : Otp where
  revoke := a.revoke ||| b.revoke
  owner := if a.ownerDone then a.owner else a.owner ||| b.owner
  ownerDone := a.ownerDone || b.ownerDone
  rollback := max a.rollback b.rollback
  banks := a.banks ||| b.banks
  bankDone := a.bankDone ||| b.bankDone
  days := max a.days b.days
  bankDay := max a.bankDay b.bankDay

/-- A command's end: the queue is as it was before, OTP keeps what it held, and frozen pseudo-channels hold nothing. -/
def finish (before after : State) : State :=
  let s := dropFrozen after
  { s with
    pending := before.pending
    keys := { s.keys with otp := joinOtp before.keys.otp s.keys.otp } }

/-! ### What runs -/

/-- The device is out of reset and in ACTIVE. -/
def awake (s : State) : Bool := !s.power.inReset && !s.power.tripped && s.power.mode == 0

/-- The host interface and the timebase run: ACTIVE or standby (Table 20.1). -/
def ticking (s : State) : Bool := !s.power.inReset && !s.power.tripped && decide (s.power.mode ≤ 1)

/-- CI00 watches the supplies and the temperatures are read: every state but B, outside a reset (R431, R467). -/
def monitored (s : State) : Bool := !s.power.inReset && !s.power.tripped && s.power.mode != 3

/-- Firmware runs too. -/
def served (s : State) : Bool := awake s && firmwareRuns s

/-- The core supplies are up: every state but B. -/
def powered (s : State) : Bool := s.power.mode != 3

/-- An effect while a condition holds, and what follows it at once. -/
def follow (s : State) (ok : Bool) (f : State → State) : State :=
  if ok then (let s' := f s; if firmwareRuns s' then settle s' else s') else s

/-- A command of the running device at an instant. -/
def act (t : Ticks) (ok : State → Bool) (f : State → State) (s : State) : Result :=
  let now := tickTo t s
  .next (finish s (follow now (ok now) f))

/-- A command whose instant the state gives. -/
def actNow (ok : State → Bool) (f : State → State) (s : State) : Result := .next (finish s (follow s (ok s) f))

/-- A command below firmware: nothing follows it. -/
def actRaw (t : Ticks) (ok : State → Bool) (f : State → State) (s : State) : Result :=
  let now := tickTo t s
  .next (finish s (if ok now then f now else now))

end Sys2Proof.Machine
end

