-- ==== Sys2Proof/Machine/AudioCommands.lean ====
section
/-! DEFINITION. TDM clocks, the audio router, triggers and captures. -/

namespace Sys2Proof.Machine

/-- TDM_FRAME_CLOCK_EDGE (R271). -/
def execTdmFrameClockEdge (t : Ticks) (port : Fin 8) (bclks : Nat) (rx : TdmFrame) (s : State) : Result :=
  act t awake (fun s => frameEdge s port.val bclks rx) s

/-- AUDIO_GLITCH (R276). -/
def execAudioGlitch (t : Ticks) (port : Fin 8) (s : State) : Result := act t awake (fun s => glitchStep s port.val) s

/-- AUDIO_CLOCK_LOST (R276). -/
def execAudioClockLost (t : Ticks) (port : Fin 8) (frameClock : Bool) (s : State) : Result :=
  act t awake (fun s => clockLost s port.val frameClock) s

/-- AUDIO_CLOCK_RETURN (R277). -/
def execAudioClockReturn (t : Ticks) (port : Fin 8) (s : State) : Result := act t awake (fun s => clockReturn s port.val) s

/-- AUDIO_CLOCK_BACK (R277). -/
def execAudioClockBack (t : Ticks) (port : Fin 8) (s : State) : Result := act t awake (fun s => clockBack s port.val) s

/-- MUTED_RATE_END (R278). -/
def execMutedRateEnd (t : Ticks) (port : Fin 8) (s : State) : Result := act t awake (fun s => mutedEnd s port.val) s

/-- ASRC_ACQUIRE_END (R281). -/
def execAsrcAcquireEnd (t : Ticks) (channel : ObjId) (s : State) : Result := act t awake (fun s => acquireEnd s channel) s

/-- AUDIO_SAMPLE_PERIOD (R283). -/
def execAudioSamplePeriod (t : Ticks) (dest : Fin 1024) (s : State) : Result := act t awake (fun s => samplePeriod s dest.val) s

/-- AUDIO_CHANGE_TIMEOUT (R283). -/
def execAudioChangeTimeout (t : Ticks) (dest : Fin 1024) (s : State) : Result :=
  act t awake (fun s => changeTimeout s dest.val) s

/-- ACH_UNDERRUN (R287). -/
def execAchUnderrun (t : Ticks) (channel : ObjId) (s : State) : Result := act t awake (fun s => pathUnderrun s channel) s

/-- ACH_REJOIN (R287). -/
def execAchRejoin (t : Ticks) (channel : ObjId) (s : State) : Result := act t awake (fun s => pathRejoin s channel) s

/-! ### Triggers and captures -/

/-- TRIGGER_PIN_EDGE (R300). -/
def execTriggerPinEdge (t : Ticks) (pin : Fin 8) (rising : Bool) (s : State) : Result :=
  act t awake (fun s => triggerEdge s pin.val rising) s

/-- TRIGGER_FILTER_ACCEPT (R300). -/
def execTriggerFilterAccept (t : Ticks) (trigger : Fin 32) (s : State) : Result :=
  act t awake (fun s => filterAccept s (objId clsTrigger trigger.val)) s

/-- POST_TIMEOUT (R298). -/
def execPostTimeout (t : Ticks) (ring : ObjId) (s : State) : Result := act t awake (fun s => postTimeout s ring) s

/-- CEPRA_READY (R309). -/
def execCepraReady (t : Ticks) (ring : ObjId) (s : State) : Result := act t served (fun s => cepraReady s ring) s

end Sys2Proof.Machine
end

