-- ==== Sys2Proof/Machine/ControlCommands.lean ====
section
/-! DEFINITION. The control complex, boot, the service port, debug and the keyring. -/

namespace Sys2Proof.Machine

/-- LOCKSTEP_FAULT (R367). -/
def execLockstepFault (t : Ticks) (pairB : Bool) (cause : PairCause) (s : State) : Result :=
  act t awake (fun s => lockstep s pairB cause) s

/-- CC_RECOVERY (R367). -/
def execCcRecovery (t : Ticks) (pairB : Bool) (s : State) : Result := act t awake (fun s => recoveryDone s pairB) s

/-- WATCHDOG_EXPIRY (R369). -/
def execWatchdogExpiry (t : Ticks) (pairB : Bool) (s : State) : Result := act t awake (fun s => watchdog s pairB) s

/-- SRAM_SCRUB (R370). -/
def execSramScrub (t : Ticks) (corrected : List Nat) (s : State) : Result := act t awake (fun s => scrub s corrected) s

/-- MASTER_DRAIN_DONE (R373). -/
def execMasterDrainDone (t : Ticks) (master : BusMaster) (s : State) : Result := actRaw t awake (fun s => drainStep s master) s

/-- REMAP_SET (R374). -/
def execRemapSet (t : Ticks) (master : BusMaster) (s : State) : Result := actRaw t awake (fun s => remapStep s master) s

/-- B_HOLD_WRITE (R374). -/
def execBHoldWrite (t : Ticks) (hold : Bool) (s : State) : Result := actRaw t awake (fun s => writeHoldB s hold) s

/-- WDT_EN_SET (R369). -/
def execWdtEnSet (t : Ticks) (s : State) : Result := actRaw t awake startWatchdogs s

/-- BOOT (R377). -/
def execBoot (t : Ticks) (mode : Nat) (slotA slotB : Option ImageBytes) (pufSeedOk : Bool) (corrected : Nat) (s : State) : Result :=
  actRaw t powered (fun s => bootStep s mode slotA slotB pufSeedOk corrected) s

/-- HOST_PUSH (R378). -/
def execHostPush (t : Ticks) (read : DmaStatus) (data : List Byte) (s : State) : Result :=
  actRaw t awake (fun s => hostPush s read data) s

/-- SERVICE_READ (R380). -/
def execServiceRead (t : Ticks) (addr len : Nat) (crcOk : Bool) (s : State) : Result :=
  actRaw t awake (fun s => serviceReadStep s addr len crcOk) s

/-- SERVICE_WRITE (R380). -/
def execServiceWrite (t : Ticks) (addr : Nat) (data : List Byte) (crcOk : Bool) (s : State) : Result :=
  actRaw t awake (fun s => serviceWriteStep s addr data crcOk) s

/-- JTAG_INSTRUCTION (R381). -/
def execJtagInstruction (t : Ticks) (instr : JtagInstr) (s : State) : Result := actRaw t powered (fun s => jtag s instr) s

/-- DEBUG_HALT (R381). -/
def execDebugHalt (t : Ticks) (pairB halt : Bool) (s : State) : Result := actRaw t awake (fun s => debugHalt s pairB halt) s

/-- HANDOVER_END (R449). -/
def execHandoverEnd (t : Ticks) (s : State) : Result := act t served handoverDone s

/-- HANDOVER_TIMEOUT (R450). -/
def execHandoverTimeout (t : Ticks) (s : State) : Result := act t served handoverLate s

/-- PAIR_B_RESTART (R449). -/
def execPairBRestart (t : Ticks) (s : State) : Result := act t served restartPairB s

/-! ### The keyring -/

/-- SLOT_REMASK (R390). -/
def execSlotRemask (t : Ticks) (slot : Fin 32) (mask : Nat) (s : State) : Result :=
  actRaw t awake (fun s => remaskSlot s slot.val mask) s

/-- DRBG_RESEED (R392). -/
def execDrbgReseed (t : Ticks) (s : State) : Result := actRaw t awake reseedDrbg s

/-- HEALTH_TEST (R392). -/
def execHealthTest (t : Ticks) (pass : Bool) (s : State) : Result := act t awake (fun s => healthStep s pass) s

/-- A day's bit is burnt: no burn begins in the brace state, and none while RST_N is held (R401, R433). -/
def dayPasses (s : State) : State := if s.power.inReset || s.hif.brace then s else burnDay s

/-- OPERATING_DAY (R401). -/
def execOperatingDay (t : Ticks) (s : State) : Result := actRaw t powered dayPasses s

/-- REENROLMENT_COMPLETE (R402). -/
def execReenrolmentComplete (t : Ticks) (seedOk : Bool) (s : State) : Result :=
  act t served (fun s => reenrolDone s seedOk) s

end Sys2Proof.Machine
end

