-- ==== Sys2Proof/Machine/EgressCommands.lean ====
section
/-! DEFINITION. Egress ports, their lanes and DisplayPort links. -/

namespace Sys2Proof.Machine

/-- ANC_COPY (R252). -/
def execAncCopy (t : Ticks) (copy : AncCopy) (s : State) : Result :=
  act t awake (fun s => ancCopy s (objId clsPortOut copy.port.val) copy.unchanged) s

/-- The frame whose packets leave now: the one before, until line 0 of the one that follows the hinge (R255). -/
def sentFrame (s : State) (p : ObjId) : SentFrame :=
  let x := outOf s p
  match headIdx (getPropN s p pPortOutHead) with
  | none => ⟨0, x.hinge, [], []⟩
  | some h =>
    let r := headRt s h
    match (if s.now < r.lineZero then r.prevZero else none) with
    | some z => ⟨z, x.lastHinge, r.picture, r.pictureUnder⟩
    | none => ⟨r.lineZero, x.hinge, frameGrids s h, r.underAt⟩

def sendPacket (s : State) (p : ObjId) (line packet : Nat) : State := packetSend s p (sentFrame s p) line packet

/-- ST2110_PACKET_SEND (R255). -/
def execSt2110PacketSend (t : Ticks) (port : Fin 128) (line packet : Nat) (s : State) : Result :=
  act t awake (fun s => sendPacket s (objId clsPortOut port.val) line packet) s

/-- DP_HPD_RISE (R258). -/
def execDpHpdRise (t : Ticks) (pins : Fin 16) (s : State) : Result := act t awake (fun s => dpHpdRise s pins.val) s

/-- DP_HPD_LOW (R248). -/
def execDpHpdLow (t : Ticks) (pins : Fin 16) (s : State) : Result := act t awake (fun s => dpHpdLow s pins.val) s

/-- DP_IRQ_HPD (R258). -/
def execDpIrqHpd (t : Ticks) (pins : Fin 16) (s : State) : Result := act t awake (fun s => dpIrqHpd s pins.val) s

/-- DP_LINK (R258). -/
def execDpLink (t : Ticks) (port : Fin 128) (result : DpResult) (s : State) : Result :=
  act t awake (fun s => dpLinkDone s (objId clsPortOut port.val) result) s

/-- DP_TRAINING_RETRY (R258). -/
def execDpTrainingRetry (t : Ticks) (port : Fin 128) (s : State) : Result :=
  act t awake (fun s => dpRetry s (objId clsPortOut port.val)) s

/-- LANE_MISMATCH (R261). -/
def execLaneMismatch (t : Ticks) (sample : LaneSample) (s : State) : Result :=
  act t awake (fun s => laneSample s sample.lane.val sample.word sample.sent sample.seen) s

/-- LANE_FAULT_DECLARE (R261). -/
def execLaneFaultDeclare (t : Ticks) (lane : Fin 96) (fault : LaneFault) (s : State) : Result :=
  act t awake (fun s => match fault with
    | .pll => laneFault s lane.val 1
    | .readBack w sent seen => laneSample s lane.val w sent seen) s

/-- LANE_SPARED (R263). -/
def execLaneSpared (t : Ticks) (lane : Fin 96) (s : State) : Result := act t awake (fun s => laneSwitch s lane.val false) s

/-- PLANNED_SWITCHOVER_END (R265). -/
def execPlannedSwitchoverEnd (t : Ticks) (lane : Fin 96) (s : State) : Result :=
  act t awake (fun s => laneSwitch s lane.val true) s

end Sys2Proof.Machine
end

