-- ==== Sys2Proof/Machine/HeadCommands.lean ====
section
/-! DEFINITION. Commits, the raster of a head, and the stages of routes. -/

namespace Sys2Proof.Machine

/-- COMMIT_STAGING_COMPLETE (R57). -/
def execCommitStagingComplete (t : Ticks) (head : Fin 24) (commit : Nat) (s : State) : Result :=
  act t served (fun s => stagingDone s head.val commit) s

/-- GROUP_RELEASE_TIME (R73). -/
def execGroupReleaseTime (head : Fin 24) (commit : Nat) (s : State) : Result :=
  actNow awake (fun s => releaseTime s head.val commit) s

/-- Whether a head's raster runs: RUNNING or RETIMING. -/
def rasterRuns (s : State) (h : Nat) : Bool :=
  getProp s (headObj h) pHeadRasterState == 2 || getProp s (headObj h) pHeadRasterState == 3

/-- A hinge and what hangs on it: the chains that it drives (R410), and one move from an ageing island (R447). -/
def hingeAll (s : State) (h : Nat) (bad : List Nat) : State :=
  if rasterRuns s h then ageHinge (chainSource (hingeStep s h bad) (headObj h)) else s

/-- H₀ of a starting head, a hinge like every other. -/
def startAll (s : State) (h : Nat) : State :=
  if getProp s (headObj h) pHeadRasterState = 1 then ageHinge (chainSource (startHinge s h) (headObj h)) else s

/-- HINGE (R62). -/
def execHinge (head : Fin 24) (badDescriptors : List Nat) (s : State) : Result :=
  actNow awake (fun s => hingeAll s head.val badDescriptors) s

/-- HEAD_START_H0 (R225). -/
def execHeadStartH0 (head : Fin 24) (s : State) : Result := actNow awake (fun s => startAll s head.val) s

/-- RETIME_LINE_ZERO (R226). -/
def execRetimeLineZero (head : Fin 24) (s : State) : Result := actNow awake (fun s => lineZeroStep s head.val) s

/-- PREFETCH_START (R231). -/
def execPrefetchStart (head : Fin 24) (s : State) : Result := actNow awake (fun s => prefetchStep s head.val) s

/-- BLANK_START (R240). -/
def execBlankStart (head : Fin 24) (s : State) : Result := actNow awake (fun s => blankStep s head.val) s

/-- LINE_MATCH (R240). -/
def execLineMatch (head : Fin 24) (s : State) : Result := actNow awake (fun s => matchStep s head.val) s

/-- FRAME_DONE (R240). -/
def execFrameDone (head : Fin 24) (s : State) : Result := actNow awake (fun s => frameDoneStep s head.val) s

/-- UNDERRUN (R241). -/
def execUnderrun (head : Fin 24) (line pixel position : Nat) (s : State) : Result :=
  actNow awake (fun s => underrunStep s head.val line pixel position) s

/-! ### Stages of routes -/

/-- SHAPE_JOB_START (R138). -/
def execShapeJobStart (t : Ticks) (route : ObjId) (stage : Fin 4) (s : State) : Result :=
  act t awake (fun s => shapeStart s route stage.val) s

/-- SHAPE_JOB_END (R179). -/
def execShapeJobEnd (t : Ticks) (route : ObjId) (stage : Fin 4) (s : State) : Result :=
  act t awake (fun s => shapeEnd s route stage.val) s

/-- CONVERT_JOB_START (R139). -/
def execConvertJobStart (route : ObjId) (s : State) : Result := actNow awake (fun s => convStart s route) s

/-- PLAYBACK_OFFER (R308). -/
def execPlaybackOffer (route : ObjId) (s : State) : Result := actNow awake (fun s => playOffer s route) s

/-- CONVERT_FOLD (R213). -/
def execConvertFold (t : Ticks) (route : ObjId) (s : State) : Result := act t awake (fun s => foldStart s route) s

/-- CONVERT_FOLD_END (R210). -/
def execConvertFoldEnd (t : Ticks) (route : ObjId) (s : State) : Result := act t awake (fun s => foldEnd s route) s

/-- CONVERT_CUTOFF (R210). -/
def execConvertCutoff (route : ObjId) (s : State) : Result := actNow awake (fun s => convCut s route) s

/-- CONVERT_FINISH_END (R208). -/
def execConvertFinishEnd (t : Ticks) (route : ObjId) (s : State) : Result := act t awake (fun s => convFinish s route) s

/-- TCONV_LATE_INPUT (R211). -/
def execTconvLateInput (t : Ticks) (route surface : ObjId) (s : State) : Result :=
  act t awake (fun s => lateInput s route surface) s

/-- ROUTE_LAST_JOB_END (R140). -/
def execRouteLastJobEnd (t : Ticks) (route : ObjId) (s : State) : Result := act t awake (fun s => lastJobEnd s route) s

end Sys2Proof.Machine
end

