-- ==== Sys2Proof/Machine/HostCommands.lean ====
section
/-! DEFINITION. The host's register writes, event ring signals, DMA, BAR2 and the ends of requests. -/

namespace Sys2Proof.Machine

/-- MB_DOORBELL_WRITE (R28). -/
def execMbDoorbellWrite (t : Ticks) (mb : Fin 16) (value : Word) (s : State) : Result :=
  actRaw t ticking (fun s => doorbell s mb.val value) s

/-- MB_CPL_HEAD_WRITE (R29). -/
def execMbCplHeadWrite (t : Ticks) (mb : Fin 16) (value : Word) (s : State) : Result :=
  actRaw t ticking (fun s => writeCplHead s mb.val value) s

/-- EV_HEAD_WRITE (R29). -/
def execEvHeadWrite (t : Ticks) (ring : Fin 4) (value : Word) (s : State) : Result :=
  actRaw t ticking (fun s => writeEvHead s ring.val value) s

/-- EV_LOST_CLEAR (R49): the value written does not matter. -/
def execEvLostClear (t : Ticks) (ring : Fin 4) (_value : Word) (s : State) : Result :=
  actRaw t ticking (fun s => clearLost s ring.val) s

/-- EV_HOLDOFF_WRITE (R470). -/
def execEvHoldoffWrite (t : Ticks) (ring : Fin 4) (value : Word) (s : State) : Result :=
  actRaw t ticking (fun s => writeHoldoff s ring.val value) s

/-- REGISTER_WRITE, with the host's reads of the same map (R25, R26). -/
def execRegisterWrite (t : Ticks) (offset : Nat) (access : RegAccess) (s : State) : Result :=
  actRaw t ticking (fun s => registerAccess s offset access) s

/-- EVENT_HOLDOFF_END (R470). -/
def execEventHoldoffEnd (t : Ticks) (ring : Fin 4) (s : State) : Result :=
  actRaw t ticking (fun s => holdoffEnd s ring.val) s

/-- MSIX_UNMASK (R27). -/
def execMsixUnmask (t : Ticks) (target : MsixTarget) (s : State) : Result :=
  actRaw t ticking (fun s => unmask s target) s

/-- BAR2_ACCESS (R111). -/
def execBar2Access (t : Ticks) (write : Bool) (addr len : Nat) (data : List Byte) (s : State) : Result :=
  actRaw t awake (fun s => bar2Step s write addr len data) s

/-- DMA_COMPLETION (R471). -/
def execDmaCompletion (t : Ticks) (tag : Nat) (status : DmaStatus) (data : List Byte) (s : State) : Result :=
  act t awake (fun s => dmaArrives s tag status data) s

/-- DMA_COMPLETION_TIMEOUT (R471). -/
def execDmaCompletionTimeout (t : Ticks) (tag : Nat) (s : State) : Result :=
  act t awake (fun s => dmaTimesOut s tag) s

/-- DMA_RETRY_BUDGET_END (R52). -/
def execDmaRetryBudgetEnd (t : Ticks) (mb : Fin 16) (count : Count) (s : State) : Result :=
  act t awake (fun s => dmaBudgetOut s mb.val count.toNat) s

/-- REQUEST_DEADLINE_EXPIRY (R45). -/
def execRequestDeadlineExpiry (t : Ticks) (mb : Fin 16) (count : Count) (s : State) : Result :=
  act t served (fun s => expireRequest s mb.val count.toNat) s

/-- HINGE_DEADLINE_WITHDRAW (R46). -/
def execHingeDeadlineWithdraw (t : Ticks) (mb : Fin 16) (count : Count) (s : State) : Result :=
  act t served (fun s => expireHinge s mb.val count.toNat) s

/-- PROGRESS (R45). -/
def execProgress (t : Ticks) (mb : Fin 16) (count : Count) (thousandths : Nat) (s : State) : Result :=
  act t served (fun s => progressStep s mb.val count.toNat thousandths) s

/-- EXPORT_COMPLETE (R306). -/
def execExportComplete (t : Ticks) (ring : ObjId) (s : State) : Result :=
  act t served (fun s => exportDone s ring) s

end Sys2Proof.Machine
end

