-- ==== Sys2Proof/Machine/IngressCommands.lean ====
section
/-! DEFINITION. What arrives at the ingress ports and their lanes. -/

namespace Sys2Proof.Machine

/-- FRAME_COMPLETE (R13). -/
def execFrameComplete (t : Ticks) (surface : ObjId) (validA validB : Bool) (s : State) : Result :=
  act t awake (fun s => frameComplete s surface validA validB) s

/-- A lane event, and what it means for a Hinge Link that holds the lane (R338). -/
def laneEvent (s : State) (l : Nat) (f : State → State) : State := hlLaneAfter (f s) l

/-- LANE_CDR_LOCK (R86). -/
def execLaneCdrLock (t : Ticks) (lane : Fin 96) (s : State) : Result :=
  act t awake (fun s => laneEvent s lane.val fun s => laneLock s lane.val) s

/-- LANE_CDR_UNLOCK (R86). -/
def execLaneCdrUnlock (t : Ticks) (lane : Fin 96) (s : State) : Result :=
  act t awake (fun s => laneEvent s lane.val fun s => laneUnlock s lane.val) s

/-- ALIGNMENT_MARKER (R85). -/
def execAlignmentMarker (t : Ticks) (lane : Fin 96) (w0 w1 : Word) (gap : MarkerGap) (skew : Nat) (s : State) : Result :=
  act t awake (fun s => laneEvent s lane.val fun s => markerStep s lane.val w0.toNat w1.toNat gap skew) s

/-- MARKER_LOSS (R86). -/
def execMarkerLoss (t : Ticks) (lane : Fin 96) (s : State) : Result :=
  act t awake (fun s => laneEvent s lane.val fun s => markerMissed s lane.val) s

/-- The words of each lane as numbers. -/
def laneNats (w : LaneWords) : List (List Nat) := w.map fun l => l.map (·.toNat)

/-- The words of two stretches of a link, one after the other on each lane. -/
def joinLanes (a b : LaneWords) : LaneWords := (List.range (max a.length b.length)).map fun i => atD a i [] ++ atD b i []

/-- MSL_FRAME_START (R91). -/
def execMslFrameStart (t : Ticks) (port : Fin 128) (link : Nat) (header : LaneWords) (s : State) : Result :=
  act t awake (fun s => mslArrive s 1 (objId clsPortIn port.val) link (laneNats header)) s

/-- MSL_LINE (R89). -/
def execMslLine (t : Ticks) (port : Fin 128) (link : Nat) (header payload : LaneWords) (s : State) : Result :=
  act t awake (fun s => mslArrive s 2 (objId clsPortIn port.val) link (laneNats (joinLanes header payload))) s

/-- MSL_FRAME_END (R91). -/
def execMslFrameEnd (t : Ticks) (port : Fin 128) (link : Nat) (header : LaneWords) (s : State) : Result :=
  act t awake (fun s => mslArrive s 3 (objId clsPortIn port.val) link (laneNats header)) s

/-- SDI_FRAME_START (R93). -/
def execSdiFrameStart (t : Ticks) (port : Fin 128) (frame : SdiFrame) (s : State) : Result :=
  act t awake (fun s => sdiFrame s (objId clsPortIn port.val) frame) s

/-- SDI_TRS_LOSS (R99). -/
def execSdiTrsLoss (t : Ticks) (port : Fin 128) (s : State) : Result :=
  act t awake (fun s => sdiLoss s (objId clsPortIn port.val)) s

/-- MAC_FRAME (R96). -/
def execMacFrame (t : Ticks) (port : Fin 128) (fcsOk : Bool) (badFec : Nat) (kind : MacKind) (s : State) : Result :=
  act t awake (fun s => macStep s (objId clsPortIn port.val) fcsOk badFec kind) s

/-- RTP_PACKET (R97). -/
def execRtpPacket (t : Ticks) (port : Fin 128) (packet : RtpPacket) (s : State) : Result :=
  act t awake (fun s => rtpStep s (objId clsPortIn port.val) packet) s

/-- PATH_TIMEOUT (R98). -/
def execPathTimeout (t : Ticks) (port : Fin 128) (leg : Fin 2) (s : State) : Result :=
  act t awake (fun s => pathTimeoutStep s (objId clsPortIn port.val) leg.val) s

/-- LOSS_TIMEOUT (R99). -/
def execLossTimeout (t : Ticks) (port : Fin 128) (s : State) : Result :=
  act t awake (fun s => lossTimeoutStep s (objId clsPortIn port.val)) s

end Sys2Proof.Machine
end

