-- ==== Sys2Proof/Machine/LinkCommands.lean ====
section
/-! DEFINITION. The Hinge Link: messages that arrive, and its timers. -/

namespace Sys2Proof.Machine

/-- The words of a message as numbers. -/
def wordsOf (message : List Word) : List Nat := message.map (·.toNat)

/-- LINK (R334). -/
def execLink (t : Ticks) (hl : Fin 5) (message : List Word) (s : State) : Result :=
  act t awake (fun s => linkStep s hl.val (wordsOf message)) s

/-- NAK (R337). -/
def execNak (t : Ticks) (hl : Fin 5) (message : List Word) (s : State) : Result :=
  act t awake (fun s => nakStep s hl.val (wordsOf message)) s

/-- TIME_SYNC (R339). -/
def execTimeSync (t : Ticks) (hl : Fin 5) (message : List Word) (s : State) : Result :=
  act t awake (fun s => timeSyncStep s hl.val (wordsOf message)) s

/-- TIME_REQ (R339). -/
def execTimeReq (t : Ticks) (hl : Fin 5) (message : List Word) (s : State) : Result :=
  act t awake (fun s => timeReqStep s hl.val (wordsOf message)) s

/-- TIME_RESP (R339). -/
def execTimeResp (t : Ticks) (hl : Fin 5) (message : List Word) (s : State) : Result :=
  act t awake (fun s => timeRespStep s hl.val (wordsOf message)) s

/-- JOIN (R335). -/
def execJoin (t : Ticks) (hl : Fin 5) (message : List Word) (s : State) : Result :=
  act t awake (fun s => joinStep s hl.val (wordsOf message)) s

/-- JOIN_ACK (R335). -/
def execJoinAck (t : Ticks) (hl : Fin 5) (message : List Word) (s : State) : Result :=
  act t awake (fun s => joinAckStep s hl.val (wordsOf message)) s

/-- TOPOLOGY (R342). -/
def execTopology (t : Ticks) (hl : Fin 5) (message : List Word) (s : State) : Result :=
  act t awake (fun s => topologyStep s hl.val (wordsOf message)) s

/-- GROUP_UP (R341). -/
def execGroupUp (t : Ticks) (hl : Fin 5) (message : List Word) (s : State) : Result :=
  act t awake (fun s => groupUpStep s hl.val (wordsOf message)) s

/-- GROUP_DOWN (R342). -/
def execGroupDown (t : Ticks) (hl : Fin 5) (message : List Word) (s : State) : Result :=
  act t awake (fun s => groupDownStep s hl.val (wordsOf message)) s

/-- GROUP_REPORT (R342). -/
def execGroupReport (t : Ticks) (hl : Fin 5) (message : List Word) (s : State) : Result :=
  act t awake (fun s => groupReportStep s hl.val (wordsOf message)) s

/-- GROUP_WITHDRAW (R74). -/
def execGroupWithdraw (t : Ticks) (hl : Fin 5) (message : List Word) (s : State) : Result :=
  act t awake (fun s => groupWithdrawStep s hl.val (wordsOf message)) s

/-- TIME_SYNC_SEND (R339). -/
def execTimeSyncSend (t : Ticks) (hl : Fin 5) (s : State) : Result := act t awake (fun s => syncSendStep s hl.val) s

/-- HL_RETRANSMIT_TIMER (R337). -/
def execHlRetransmitTimer (t : Ticks) (hl : Fin 5) (s : State) : Result := act t awake (fun s => retransmitStep s hl.val) s

/-- HL_KEEPALIVE (R337). -/
def execHlKeepalive (t : Ticks) (hl : Fin 5) (s : State) : Result := act t awake (fun s => keepaliveStep s hl.val) s

/-- HL_SILENCE (R338). -/
def execHlSilence (t : Ticks) (hl : Fin 5) (s : State) : Result := act t awake (fun s => silenceStep s hl.val) s

/-- HL_BUDGET_EXPIRY (R338). -/
def execHlBudgetExpiry (t : Ticks) (hl : Fin 5) (s : State) : Result := act t awake (fun s => budgetStep s hl.val) s

/-- HL_WAITING_TIMEOUT (R334). -/
def execHlWaitingTimeout (t : Ticks) (s : State) : Result := act t awake waitingStep s

end Sys2Proof.Machine
end

