-- ==== Sys2Proof/Machine/PowerCommands.lean ====
section
/-! DEFINITION. Resets, power states, the brace state, repair, temperatures, and the illumination chains. -/

namespace Sys2Proof.Machine

/-- POWER_ON (R423). -/
def execPowerOn (t : Ticks) (vbatLost : Bool) (bootMode : Nat) (failed : List Nat) (s : State) : Result :=
  actRaw t (fun _ => true) (fun s => powerOn s vbatLost bootMode failed) s

/-- RST_N_ASSERT (R423). -/
def execRstNAssert (t : Ticks) (s : State) : Result := actRaw t powered rstN s

/-- PERST_N_ASSERT (R423). -/
def execPerstNAssert (t : Ticks) (s : State) : Result := actRaw t powered perstN s

/-- DEVICE_RESET_START (R423). -/
def execDeviceResetStart (t : Ticks) (s : State) : Result := actRaw t awake hostReset s

/-- POWER_STATE_ENTRY (R426). -/
def execPowerStateEntry (t : Ticks) (s : State) : Result := act t served powerEntry s

/-- WAKE (R427, R428). -/
def execWake (t : Ticks) (source : WakeSource) (pufSeedOk : Bool) (corrected : Nat) (s : State) : Result :=
  act t powered (fun s => wake s source pufSeedOk corrected) s

/-- BRACE_BEGIN (R432). -/
def execBraceBegin (t : Ticks) (rail : Fin 16) (mv : Nat) (s : State) : Result :=
  act t monitored (fun s => braceBegin s rail.val mv) s

/-- BRACE_END (R434). -/
def execBraceEnd (t : Ticks) (rail : Fin 16) (lowestMv : Nat) (s : State) : Result :=
  act t monitored (fun s => braceEnd s rail.val lowestMv) s

/-- SUPPLY_RESET (R435). -/
def execSupplyReset (t : Ticks) (rail : Fin 16) (lowestMv : Nat) (s : State) : Result :=
  actRaw t powered (fun s => supplyReset s rail.val lowestMv) s

/-- THERMAL_READ (R467). -/
def execThermalRead (t : Ticks) (temps : List Int) (s : State) : Result := act t (fun s => !s.power.tripped && s.power.mode != 3) (fun s => thermalRead s temps) s

/-! ### Repair -/

/-- UNIT_FAULT (R439). -/
def execUnitFault (t : Ticks) (kind index cause : Nat) (s : State) : Result :=
  act t served (fun s => declareFault s kind index cause) s

/-- SPARE_PREPARE (R440). -/
def execSparePrepare (t : Ticks) (kind index : Nat) (s : State) : Result := act t served (fun s => prepareSpare s kind index) s

/-- EGRESS_ENGINE_SWITCH (R441). -/
def execEgressEngineSwitch (t : Ticks) (engine : Fin 64) (s : State) : Result :=
  act t awake (fun s => egressSwitch s engine.val) s

/-- A unit's test ends; a lane that waits for a spare core may take it (R264). -/
def testEnds (s : State) (kind index : Nat) (passed : Bool) : State := wakeLanes (unitTested s kind index passed)

/-- UNIT_TESTED (R442). -/
def execUnitTested (t : Ticks) (kind index : Nat) (passed : Bool) (s : State) : Result :=
  act t served (fun s => testEnds s kind index passed) s

/-- AGEING (R447). -/
def execAgeing (t : Ticks) (island : Fin 40) (slowdown : Nat) (s : State) : Result :=
  act t served (fun s => ageing s island.val slowdown) s

/-- ERROR_TREND_MIGRATE (R448). -/
def execErrorTrendMigrate (t : Ticks) (kind index : Nat) (s : State) : Result :=
  act t served (fun s => trendMove s kind index) s

/-! ### Illumination -/

/-- CHAIN_LATCH (R410). -/
def execChainLatch (t : Ticks) (chain : Fin 8) (s : State) : Result := act t awake (fun s => chainLatchStep s chain.val) s

/-- CHAIN_SHIFT_COMPLETE (R408). -/
def execChainShiftComplete (t : Ticks) (chain : Fin 8) (status : List Word) (s : State) : Result :=
  act t awake (fun s => shiftComplete s chain.val (status.map (·.toNat))) s

/-- DIAG_PULSE (R415). -/
def execDiagPulse (t : Ticks) (chain : Fin 8) (s : State) : Result := act t awake (fun s => diagStep s chain.val) s

/-- STROBE_PULSE (R418). -/
def execStrobePulse (t : Ticks) (strobe : Fin 8) (s : State) : Result := act t awake (fun s => strobeStep s strobe.val) s

end Sys2Proof.Machine
end

