-- ==== Sys2Proof/Machine/RequestCommands.lean ====
section
/-! DEFINITION. The requests that firmware consumes: one command for each opcode and for each property whose write has an effect of its
own (Table 2.11). -/

namespace Sys2Proof.Machine

/-- VX_COMMIT names a HEAD or a GROUP. -/
def onHead (r : Request) : Bool := reqOpcode r == 0x30 && objCls (reqObj r) != clsGroup
def onGroup (r : Request) : Bool := reqOpcode r == 0x30 && objCls (reqObj r) == clsGroup

/-- VX_SET of a cadence's grid. -/
def setsCadence (r : Request) : Bool := setsProp clsCadence pCadenceRate r || setsProp clsCadence pCadenceOffset r

/-- A mailbox is served at an instant. -/
def serveAt (t : Ticks) (mb : Fin 16) (sel : Request → Bool) (body : State → Request → List Byte → State) (s : State) : Result :=
  actRaw t awake (fun s => serve s mb.val sel body) s

/-- VX_NOP (R31). -/
def execVxNop (t : Ticks) (mb : Fin 16) (s : State) : Result := serveAt t mb (hasOp 0x01) doNop s

/-- VX_IDENTIFY (R41). -/
def execVxIdentify (t : Ticks) (mb : Fin 16) (s : State) : Result := serveAt t mb (hasOp 0x02) (fun s r _ => doIdentify s r) s

/-- VX_PIN_LEVEL (R53). -/
def execVxPinLevel (t : Ticks) (mb : Fin 16) (s : State) : Result := serveAt t mb (hasOp 0x03) doPinLevel s

/-- VX_GET (R37). -/
def execVxGet (t : Ticks) (mb : Fin 16) (s : State) : Result := serveAt t mb (hasOp 0x10) doGet s

/-- VX_SET of any property (R37). -/
def execVxSet (t : Ticks) (mb : Fin 16) (s : State) : Result := serveAt t mb (hasOp 0x11) doSet s

/-- VX_DESCRIBE (R38). -/
def execVxDescribe (t : Ticks) (mb : Fin 16) (s : State) : Result := serveAt t mb (hasOp 0x12) (fun s r _ => doDescribe s r) s

/-- VX_ENUMERATE (R42). -/
def execVxEnumerate (t : Ticks) (mb : Fin 16) (s : State) : Result := serveAt t mb (hasOp 0x13) doEnumerate s

/-- VX_CREATE (R35). -/
def execVxCreate (t : Ticks) (mb : Fin 16) (s : State) : Result := serveAt t mb (hasOp 0x20) (fun s r _ => doCreate s r) s

/-- VX_DESTROY (R67). -/
def execVxDestroy (t : Ticks) (mb : Fin 16) (s : State) : Result := serveAt t mb (hasOp 0x21) (fun s r _ => doDestroy s r) s

/-- VX_COMMIT on a HEAD (R63). -/
def execVxCommit (t : Ticks) (mb : Fin 16) (s : State) : Result := serveAt t mb onHead (fun s r _ => doCommit s r) s

/-- VX_COMMIT on a GROUP (R71). -/
def execVxCommitGroup (t : Ticks) (mb : Fin 16) (s : State) : Result := serveAt t mb onGroup doGroupCommit s

/-- VX_DISCARD (R65). -/
def execVxDiscard (t : Ticks) (mb : Fin 16) (s : State) : Result := serveAt t mb (hasOp 0x31) (fun s r _ => doDiscard s r) s

/-- VX_SUBSCRIBE (R40). -/
def execVxSubscribe (t : Ticks) (mb : Fin 16) (s : State) : Result := serveAt t mb (hasOp 0x32) doSubscribe s

/-- VX_ALLOC (R116). -/
def execVxAlloc (t : Ticks) (mb : Fin 16) (s : State) : Result := serveAt t mb (hasOp 0x40) doAlloc s

/-- VX_FREE (R122). -/
def execVxFree (t : Ticks) (mb : Fin 16) (s : State) : Result := serveAt t mb (hasOp 0x41) (fun s r _ => doFree s r) s

/-- VX_LEASE (R121). -/
def execVxLease (t : Ticks) (mb : Fin 16) (s : State) : Result := serveAt t mb (hasOp 0x42) (fun s r _ => doLease s r) s

/-- VX_RELEASE (R121). -/
def execVxRelease (t : Ticks) (mb : Fin 16) (s : State) : Result := serveAt t mb (hasOp 0x43) (fun s r _ => doRelease s r) s

/-- VX_TRIGGER (R303). -/
def execVxTrigger (t : Ticks) (mb : Fin 16) (s : State) : Result := serveAt t mb (hasOp 0x44) doTrigger s

/-- VX_EXPORT (R305). -/
def execVxExport (t : Ticks) (mb : Fin 16) (s : State) : Result := serveAt t mb (hasOp 0x45) doExport s

/-- VX_RESTART (R79). -/
def execVxRestart (t : Ticks) (mb : Fin 16) (s : State) : Result := serveAt t mb (hasOp 0x50) (fun s r _ => doRestart s r) s

/-- VX_RESET (R423). -/
def execVxReset (t : Ticks) (mb : Fin 16) (s : State) : Result := serveAt t mb (hasOp 0x60) (fun s r _ => doReset s r) s

/-- VX_REPAIR with action MIGRATE (R443). -/
def execVxRepairMigrate (t : Ticks) (mb : Fin 16) (s : State) : Result := serveAt t mb (repairs 0) doRepair s

/-- VX_REPAIR with action TEST (R443). -/
def execVxRepairTest (t : Ticks) (mb : Fin 16) (s : State) : Result := serveAt t mb (repairs 1) doRepair s

/-- VX_REPAIR with action RETURN (R443). -/
def execVxRepairReturn (t : Ticks) (mb : Fin 16) (s : State) : Result := serveAt t mb (repairs 2) doRepair s

/-- VX_REPAIR with action RETIRE (R443). -/
def execVxRepairRetire (t : Ticks) (mb : Fin 16) (s : State) : Result := serveAt t mb (repairs 3) doRepair s

/-- VX_FW_UPDATE (R394). -/
def execVxFwUpdate (t : Ticks) (mb : Fin 16) (s : State) : Result := serveAt t mb (hasOp 0x70) doFwUpdate s

/-- VX_ATTEST (R399). -/
def execVxAttest (t : Ticks) (mb : Fin 16) (s : State) : Result := serveAt t mb (hasOp 0x80) doAttest s

/-- VX_SET of `system.mb_policy` (R44). -/
def execSetMbPolicy (t : Ticks) (mb : Fin 16) (s : State) : Result := serveAt t mb (setsProp clsSystem pSystemMbPolicy) doSet s

/-- VX_SET of `route.head` (R141). -/
def execSetRouteHead (t : Ticks) (mb : Fin 16) (s : State) : Result := serveAt t mb (setsProp clsRoute pRouteHead) doSet s

/-- VX_SET of `shaper.taps_v` (R177). -/
def execSetTapsV (t : Ticks) (mb : Fin 16) (s : State) : Result := serveAt t mb (setsProp clsShaper pShaperTapsV) doSet s

/-- VX_SET of `surface.host_frame` (R124). -/
def execSetHostFrame (t : Ticks) (mb : Fin 16) (s : State) : Result := serveAt t mb (setsProp clsSurface pSurfaceHostFrame) doSet s

/-- VX_SET of `ring.capture_mode` (R299). -/
def execSetCaptureMode (t : Ticks) (mb : Fin 16) (s : State) : Result := serveAt t mb (setsProp clsRing pRingCaptureMode) doSet s

/-- VX_SET of `cadence.rate` or `cadence.offset` (R327). -/
def execSetCadence (t : Ticks) (mb : Fin 16) (s : State) : Result := serveAt t mb setsCadence doSet s

/-- VX_SET of `system.tb_set` (R325). -/
def execSetTbSet (t : Ticks) (mb : Fin 16) (s : State) : Result := serveAt t mb (setsProp clsSystem pSystemTbSet) doSet s

/-- VX_SET of `system.rtc_set` (R328). -/
def execSetRtcSet (t : Ticks) (mb : Fin 16) (s : State) : Result := serveAt t mb (setsProp clsSystem pSystemRtcSet) doSet s

/-- VX_SET of `system.power_state` (R426). -/
def execSetPowerState (t : Ticks) (mb : Fin 16) (s : State) : Result := serveAt t mb (setsProp clsSystem pSystemPowerState) doSet s

/-- VX_SET of `system.rollback_floor` (R395). -/
def execSetRollbackFloor (t : Ticks) (mb : Fin 16) (s : State) : Result := serveAt t mb (setsProp clsSystem pSystemRollbackFloor) doSet s

/-- VX_SET of `system.owner_key_hash` (R396). -/
def execSetOwnerKeyHash (t : Ticks) (mb : Fin 16) (s : State) : Result := serveAt t mb (setsProp clsSystem pSystemOwnerKeyHash) doSet s

/-- VX_SET of `system.vendor_revoke` (R397). -/
def execSetVendorRevoke (t : Ticks) (mb : Fin 16) (s : State) : Result := serveAt t mb (setsProp clsSystem pSystemVendorRevoke) doSet s

/-- VX_SET of `keyslot.derive` (R388). -/
def execSetKeyslotDerive (t : Ticks) (mb : Fin 16) (s : State) : Result := serveAt t mb (setsProp clsKeyslot pKeyslotDerive) doSet s

/-- VX_SET of `system.debug_unlock` (R400). -/
def execSetDebugUnlock (t : Ticks) (mb : Fin 16) (s : State) : Result := serveAt t mb (setsProp clsSystem pSystemDebugUnlock) doSet s

/-- VX_SET of `system.puf_reenrol` (R402). -/
def execSetPufReenrol (t : Ticks) (mb : Fin 16) (s : State) : Result := serveAt t mb (setsProp clsSystem pSystemPufReenrol) doSet s

/-- VX_SET of `system.fs_release` (R362). -/
def execSetFsRelease (t : Ticks) (mb : Fin 16) (s : State) : Result := serveAt t mb (setsProp clsSystem pSystemFsRelease) doSet s

/-- VX_SET of `system.tally_rearm` (R417). -/
def execSetTallyRearm (t : Ticks) (mb : Fin 16) (s : State) : Result := serveAt t mb (setsProp clsSystem pSystemTallyRearm) doSet s

/-- RESERVED_OPCODE_REQUEST (R34). -/
def execReservedOpcodeRequest (t : Ticks) (mb : Fin 16) (s : State) : Result :=
  actRaw t awake (fun s => serveBad s mb.val) s

end Sys2Proof.Machine
end

