-- ==== Sys2Proof/Machine/StoreCommands.lean ====
section
/-! DEFINITION. The frame store. -/

namespace Sys2Proof.Machine

/-- FS_COMMAND_SLOT (R352). -/
def execFsCommandSlot (t : Ticks) (pc : Fin 128) (arrivals : List FsRequest) (corrected : Bool) (s : State) : Result :=
  act t awake (fun s => commandSlot s pc.val arrivals corrected) s

/-- FS_REFRESH (R353). -/
def execFsRefresh (t : Ticks) (pc : Fin 128) (s : State) : Result := act t awake (fun s => refreshStep s pc.val) s

/-- FS_TEMP_READ (R353). -/
def execFsTempRead (t : Ticks) (stack : Fin 4) (celsius : Int) (s : State) : Result :=
  act t awake (fun s => tempRead s stack.val celsius) s

/-- FS_PARITY_FAIL (R355). -/
def execFsParityFail (t : Ticks) (pc : Fin 128) (tag : Nat) (s : State) : Result :=
  act t awake (fun s => parityFail s pc.val tag) s

/-- FS_PARITY_BUDGET_END (R355). -/
def execFsParityBudgetEnd (t : Ticks) (pc : Fin 128) (tag : Nat) (s : State) : Result :=
  act t awake (fun s => parityBudgetEnd s pc.val tag) s

/-- FS_UNCORRECTABLE (R356): the data go to the requesting port as they are. -/
def execFsUncorrectable (t : Ticks) (pc : Fin 128) (tag : Nat) (_data : List Byte) (s : State) : Result :=
  act t awake (fun s => uncorrectable s pc.val tag) s

/-- FS_SPARE_IN (R360). -/
def execFsSpareIn (t : Ticks) (pc : Fin 128) (s : State) : Result := act t served (fun s => spareIn s pc.val) s

/-- FS_MIRROR (R360). -/
def execFsMirror (t : Ticks) (pc : Fin 128) (s : State) : Result := act t served (fun s => mirrorStep s pc.val) s

/-- A planned copy ends: not in the brace state, in which its next step waits (R433). -/
def endCopy (s : State) (pc : Nat) : State := if s.hif.brace then s else copyDone s pc

/-- FS_MIGRATE_COPY_DONE (R444). -/
def execFsMigrateCopyDone (t : Ticks) (pc : Fin 128) (s : State) : Result := act t served (fun s => endCopy s pc.val) s

end Sys2Proof.Machine
end

