-- ==== Sys2Proof/Machine/TimeCommands.lean ====
section
/-! DEFINITION. References, the timebase, cadences and the RTC. -/

namespace Sys2Proof.Machine

/-- REF_EVENT (R315). -/
def execRefEvent (t : Ticks) (ref : Fin 17) (rateNum rateDen : Nat) (s : State) : Result :=
  act t ticking (fun s => refEventStep s ref.val rateNum rateDen) s

/-- REF_LOSS (R316). -/
def execRefLoss (t : Ticks) (ref : Fin 17) (s : State) : Result := act t ticking (fun s => refLossStep s ref.val) s

/-- REF_QUALIFIED (R316). -/
def execRefQualified (t : Ticks) (ref : Fin 17) (s : State) : Result := act t ticking (fun s => refQualifiedStep s ref.val) s

/-- REF_FREQ_UPDATE (R315). -/
def execRefFreqUpdate (t : Ticks) (ref : Fin 17) (vsTimebase vsHoldover : Int) (s : State) : Result :=
  act t ticking (fun s => refFreqStep s ref.val vsTimebase vsHoldover) s

/-- SELECTION_EVALUATE (R317). -/
def execSelectionEvaluate (t : Ticks) (s : State) : Result := act t served selectEval s

/-- TB_PULL_DONE (R319). -/
def execTbPullDone (t : Ticks) (s : State) : Result := act t ticking pullDone s

/-- TB_STEP (R320). -/
def execTbStep (t : Ticks) (s : State) : Result := act t served stepTimebase s

/-- DPLL_STAGE_ADVANCE (R321). -/
def execDpllStageAdvance (t : Ticks) (s : State) : Result := act t ticking stageAdvance s

/-- PTP_MESSAGE (R314). -/
def execPtpMessage (t : Ticks) (ref : Fin 17) (domain : Nat) (message : PtpMessage) (s : State) : Result :=
  act t awake (fun s => ptpStep s ref.val domain message) s

/-- CADENCE_PULSE (R326). -/
def execCadencePulse (cadence : Fin 16) (s : State) : Result := actNow ticking (fun s => cadencePulseStep s cadence.val) s

/-- RTC_DISCIPLINE (R328). -/
def execRtcDiscipline (t : Ticks) (rtcTicks : Nat) (driftSteps : Int) (s : State) : Result :=
  act t served (fun s => disciplineRtc s rtcTicks driftSteps) s

/-- RTC_FREE (R328). -/
def execRtcFree (t : Ticks) (s : State) : Result := act t ticking freeRtc s

/-- TIMEBASE_COPY_MISMATCH (R438). -/
def execTimebaseCopyMismatch (t : Ticks) (copy : Fin 2) (s : State) : Result :=
  act t served (fun s => copyMismatch s copy.val) s

end Sys2Proof.Machine
end

