-- ==== Sys2Proof/Machine/Dispatch.lean ====
section
/-! DEFINITION. One arm for every command: a direct call of its meaning. -/

namespace Sys2Proof.Machine

/-- The effect of a command on everything but the queue of waiting commands. -/
def exec (i : Instr) (s : State) : Host.Outcome State Fault Refusal :=
  match i with
  | .mbDoorbellWrite t mb value => Sys2Proof.Machine.execMbDoorbellWrite t mb value s
  | .mbCplHeadWrite t mb value => Sys2Proof.Machine.execMbCplHeadWrite t mb value s
  | .evHeadWrite t ring value => Sys2Proof.Machine.execEvHeadWrite t ring value s
  | .evLostClear t ring value => Sys2Proof.Machine.execEvLostClear t ring value s
  | .evHoldoffWrite t ring value => Sys2Proof.Machine.execEvHoldoffWrite t ring value s
  | .registerWrite t offset access => Sys2Proof.Machine.execRegisterWrite t offset access s
  | .vxNop t mb => Sys2Proof.Machine.execVxNop t mb s
  | .vxIdentify t mb => Sys2Proof.Machine.execVxIdentify t mb s
  | .vxPinLevel t mb => Sys2Proof.Machine.execVxPinLevel t mb s
  | .vxGet t mb => Sys2Proof.Machine.execVxGet t mb s
  | .vxSet t mb => Sys2Proof.Machine.execVxSet t mb s
  | .vxDescribe t mb => Sys2Proof.Machine.execVxDescribe t mb s
  | .vxEnumerate t mb => Sys2Proof.Machine.execVxEnumerate t mb s
  | .vxCreate t mb => Sys2Proof.Machine.execVxCreate t mb s
  | .vxDestroy t mb => Sys2Proof.Machine.execVxDestroy t mb s
  | .vxCommit t mb => Sys2Proof.Machine.execVxCommit t mb s
  | .vxCommitGroup t mb => Sys2Proof.Machine.execVxCommitGroup t mb s
  | .vxDiscard t mb => Sys2Proof.Machine.execVxDiscard t mb s
  | .vxSubscribe t mb => Sys2Proof.Machine.execVxSubscribe t mb s
  | .vxAlloc t mb => Sys2Proof.Machine.execVxAlloc t mb s
  | .vxFree t mb => Sys2Proof.Machine.execVxFree t mb s
  | .vxLease t mb => Sys2Proof.Machine.execVxLease t mb s
  | .vxRelease t mb => Sys2Proof.Machine.execVxRelease t mb s
  | .vxTrigger t mb => Sys2Proof.Machine.execVxTrigger t mb s
  | .vxExport t mb => Sys2Proof.Machine.execVxExport t mb s
  | .vxRestart t mb => Sys2Proof.Machine.execVxRestart t mb s
  | .vxReset t mb => Sys2Proof.Machine.execVxReset t mb s
  | .vxRepairMigrate t mb => Sys2Proof.Machine.execVxRepairMigrate t mb s
  | .vxRepairTest t mb => Sys2Proof.Machine.execVxRepairTest t mb s
  | .vxRepairReturn t mb => Sys2Proof.Machine.execVxRepairReturn t mb s
  | .vxRepairRetire t mb => Sys2Proof.Machine.execVxRepairRetire t mb s
  | .vxFwUpdate t mb => Sys2Proof.Machine.execVxFwUpdate t mb s
  | .vxAttest t mb => Sys2Proof.Machine.execVxAttest t mb s
  | .setMbPolicy t mb => Sys2Proof.Machine.execSetMbPolicy t mb s
  | .setRouteHead t mb => Sys2Proof.Machine.execSetRouteHead t mb s
  | .setTapsV t mb => Sys2Proof.Machine.execSetTapsV t mb s
  | .setHostFrame t mb => Sys2Proof.Machine.execSetHostFrame t mb s
  | .setCaptureMode t mb => Sys2Proof.Machine.execSetCaptureMode t mb s
  | .setCadence t mb => Sys2Proof.Machine.execSetCadence t mb s
  | .setTbSet t mb => Sys2Proof.Machine.execSetTbSet t mb s
  | .setRtcSet t mb => Sys2Proof.Machine.execSetRtcSet t mb s
  | .setPowerState t mb => Sys2Proof.Machine.execSetPowerState t mb s
  | .setRollbackFloor t mb => Sys2Proof.Machine.execSetRollbackFloor t mb s
  | .setOwnerKeyHash t mb => Sys2Proof.Machine.execSetOwnerKeyHash t mb s
  | .setVendorRevoke t mb => Sys2Proof.Machine.execSetVendorRevoke t mb s
  | .setKeyslotDerive t mb => Sys2Proof.Machine.execSetKeyslotDerive t mb s
  | .setDebugUnlock t mb => Sys2Proof.Machine.execSetDebugUnlock t mb s
  | .setPufReenrol t mb => Sys2Proof.Machine.execSetPufReenrol t mb s
  | .setFsRelease t mb => Sys2Proof.Machine.execSetFsRelease t mb s
  | .setTallyRearm t mb => Sys2Proof.Machine.execSetTallyRearm t mb s
  | .requestDeadlineExpiry t mb count => Sys2Proof.Machine.execRequestDeadlineExpiry t mb count s
  | .hingeDeadlineWithdraw t mb count => Sys2Proof.Machine.execHingeDeadlineWithdraw t mb count s
  | .progress t mb count thousandths => Sys2Proof.Machine.execProgress t mb count thousandths s
  | .eventHoldoffEnd t ring => Sys2Proof.Machine.execEventHoldoffEnd t ring s
  | .dmaCompletion t tag status data => Sys2Proof.Machine.execDmaCompletion t tag status data s
  | .dmaCompletionTimeout t tag => Sys2Proof.Machine.execDmaCompletionTimeout t tag s
  | .dmaRetryBudgetEnd t mb count => Sys2Proof.Machine.execDmaRetryBudgetEnd t mb count s
  | .exportComplete t ring => Sys2Proof.Machine.execExportComplete t ring s
  | .commitStagingComplete t head commit => Sys2Proof.Machine.execCommitStagingComplete t head commit s
  | .hinge head badDescriptors => Sys2Proof.Machine.execHinge head badDescriptors s
  | .headStartH0 head => Sys2Proof.Machine.execHeadStartH0 head s
  | .retimeLineZero head => Sys2Proof.Machine.execRetimeLineZero head s
  | .prefetchStart head => Sys2Proof.Machine.execPrefetchStart head s
  | .blankStart head => Sys2Proof.Machine.execBlankStart head s
  | .lineMatch head => Sys2Proof.Machine.execLineMatch head s
  | .frameDone head => Sys2Proof.Machine.execFrameDone head s
  | .underrun head line pixel position => Sys2Proof.Machine.execUnderrun head line pixel position s
  | .frameComplete t surface validA validB => Sys2Proof.Machine.execFrameComplete t surface validA validB s
  | .laneCdrLock t lane => Sys2Proof.Machine.execLaneCdrLock t lane s
  | .laneCdrUnlock t lane => Sys2Proof.Machine.execLaneCdrUnlock t lane s
  | .alignmentMarker t lane w0 w1 spacing skew => Sys2Proof.Machine.execAlignmentMarker t lane w0 w1 spacing skew s
  | .markerLoss t lane => Sys2Proof.Machine.execMarkerLoss t lane s
  | .mslFrameStart t port link header => Sys2Proof.Machine.execMslFrameStart t port link header s
  | .mslLine t port link header payload => Sys2Proof.Machine.execMslLine t port link header payload s
  | .mslFrameEnd t port link header => Sys2Proof.Machine.execMslFrameEnd t port link header s
  | .sdiFrameStart t port frame => Sys2Proof.Machine.execSdiFrameStart t port frame s
  | .sdiTrsLoss t port => Sys2Proof.Machine.execSdiTrsLoss t port s
  | .macFrame t port fcsOk badFec kind => Sys2Proof.Machine.execMacFrame t port fcsOk badFec kind s
  | .rtpPacket t port packet => Sys2Proof.Machine.execRtpPacket t port packet s
  | .pathTimeout t port leg => Sys2Proof.Machine.execPathTimeout t port leg s
  | .lossTimeout t port => Sys2Proof.Machine.execLossTimeout t port s
  | .shapeJobStart t route stage => Sys2Proof.Machine.execShapeJobStart t route stage s
  | .shapeJobEnd t route stage => Sys2Proof.Machine.execShapeJobEnd t route stage s
  | .convertJobStart route => Sys2Proof.Machine.execConvertJobStart route s
  | .playbackOffer route => Sys2Proof.Machine.execPlaybackOffer route s
  | .convertFold t route => Sys2Proof.Machine.execConvertFold t route s
  | .convertFoldEnd t route => Sys2Proof.Machine.execConvertFoldEnd t route s
  | .convertCutoff route => Sys2Proof.Machine.execConvertCutoff route s
  | .convertFinishEnd t route => Sys2Proof.Machine.execConvertFinishEnd t route s
  | .tconvLateInput t route surface => Sys2Proof.Machine.execTconvLateInput t route surface s
  | .routeLastJobEnd t route => Sys2Proof.Machine.execRouteLastJobEnd t route s
  | .bar2Access t write addr len data => Sys2Proof.Machine.execBar2Access t write addr len data s
  | .ancCopy t copy => Sys2Proof.Machine.execAncCopy t copy s
  | .st2110PacketSend t port line packet => Sys2Proof.Machine.execSt2110PacketSend t port line packet s
  | .dpHpdRise t pins => Sys2Proof.Machine.execDpHpdRise t pins s
  | .dpHpdLow t pins => Sys2Proof.Machine.execDpHpdLow t pins s
  | .dpIrqHpd t pins => Sys2Proof.Machine.execDpIrqHpd t pins s
  | .dpLink t port result => Sys2Proof.Machine.execDpLink t port result s
  | .dpTrainingRetry t port => Sys2Proof.Machine.execDpTrainingRetry t port s
  | .laneMismatch t sample => Sys2Proof.Machine.execLaneMismatch t sample s
  | .laneFaultDeclare t lane fault => Sys2Proof.Machine.execLaneFaultDeclare t lane fault s
  | .laneSpared t lane => Sys2Proof.Machine.execLaneSpared t lane s
  | .plannedSwitchoverEnd t lane => Sys2Proof.Machine.execPlannedSwitchoverEnd t lane s
  | .tdmFrameClockEdge t port bclks rx => Sys2Proof.Machine.execTdmFrameClockEdge t port bclks rx s
  | .audioGlitch t port => Sys2Proof.Machine.execAudioGlitch t port s
  | .audioClockLost t port frameClock => Sys2Proof.Machine.execAudioClockLost t port frameClock s
  | .audioClockReturn t port => Sys2Proof.Machine.execAudioClockReturn t port s
  | .audioClockBack t port => Sys2Proof.Machine.execAudioClockBack t port s
  | .mutedRateEnd t port => Sys2Proof.Machine.execMutedRateEnd t port s
  | .asrcAcquireEnd t channel => Sys2Proof.Machine.execAsrcAcquireEnd t channel s
  | .audioSamplePeriod t dest => Sys2Proof.Machine.execAudioSamplePeriod t dest s
  | .audioChangeTimeout t dest => Sys2Proof.Machine.execAudioChangeTimeout t dest s
  | .achUnderrun t channel => Sys2Proof.Machine.execAchUnderrun t channel s
  | .achRejoin t channel => Sys2Proof.Machine.execAchRejoin t channel s
  | .triggerPinEdge t pin rising => Sys2Proof.Machine.execTriggerPinEdge t pin rising s
  | .triggerFilterAccept t trigger => Sys2Proof.Machine.execTriggerFilterAccept t trigger s
  | .postTimeout t ring => Sys2Proof.Machine.execPostTimeout t ring s
  | .cepraReady t ring => Sys2Proof.Machine.execCepraReady t ring s
  | .refEvent t ref rateNum rateDen => Sys2Proof.Machine.execRefEvent t ref rateNum rateDen s
  | .refLoss t ref => Sys2Proof.Machine.execRefLoss t ref s
  | .refQualified t ref => Sys2Proof.Machine.execRefQualified t ref s
  | .refFreqUpdate t ref vsTimebase vsHoldover => Sys2Proof.Machine.execRefFreqUpdate t ref vsTimebase vsHoldover s
  | .selectionEvaluate t => Sys2Proof.Machine.execSelectionEvaluate t s
  | .tbPullDone t => Sys2Proof.Machine.execTbPullDone t s
  | .tbStep t => Sys2Proof.Machine.execTbStep t s
  | .dpllStageAdvance t => Sys2Proof.Machine.execDpllStageAdvance t s
  | .ptpMessage t ref domain message => Sys2Proof.Machine.execPtpMessage t ref domain message s
  | .cadencePulse cadence => Sys2Proof.Machine.execCadencePulse cadence s
  | .rtcDiscipline t rtcTicks driftSteps => Sys2Proof.Machine.execRtcDiscipline t rtcTicks driftSteps s
  | .rtcFree t => Sys2Proof.Machine.execRtcFree t s
  | .timebaseCopyMismatch t copy => Sys2Proof.Machine.execTimebaseCopyMismatch t copy s
  | .link t hl message => Sys2Proof.Machine.execLink t hl message s
  | .nak t hl message => Sys2Proof.Machine.execNak t hl message s
  | .timeSync t hl message => Sys2Proof.Machine.execTimeSync t hl message s
  | .timeReq t hl message => Sys2Proof.Machine.execTimeReq t hl message s
  | .timeResp t hl message => Sys2Proof.Machine.execTimeResp t hl message s
  | .timeSyncSend t hl => Sys2Proof.Machine.execTimeSyncSend t hl s
  | .join t hl message => Sys2Proof.Machine.execJoin t hl message s
  | .joinAck t hl message => Sys2Proof.Machine.execJoinAck t hl message s
  | .topology t hl message => Sys2Proof.Machine.execTopology t hl message s
  | .groupUp t hl message => Sys2Proof.Machine.execGroupUp t hl message s
  | .groupDown t hl message => Sys2Proof.Machine.execGroupDown t hl message s
  | .groupReport t hl message => Sys2Proof.Machine.execGroupReport t hl message s
  | .groupWithdraw t hl message => Sys2Proof.Machine.execGroupWithdraw t hl message s
  | .hlRetransmitTimer t hl => Sys2Proof.Machine.execHlRetransmitTimer t hl s
  | .hlKeepalive t hl => Sys2Proof.Machine.execHlKeepalive t hl s
  | .hlSilence t hl => Sys2Proof.Machine.execHlSilence t hl s
  | .hlBudgetExpiry t hl => Sys2Proof.Machine.execHlBudgetExpiry t hl s
  | .hlWaitingTimeout t => Sys2Proof.Machine.execHlWaitingTimeout t s
  | .fsCommandSlot t pc arrivals corrected => Sys2Proof.Machine.execFsCommandSlot t pc arrivals corrected s
  | .fsRefresh t pc => Sys2Proof.Machine.execFsRefresh t pc s
  | .fsTempRead t stack celsius => Sys2Proof.Machine.execFsTempRead t stack celsius s
  | .fsParityFail t pc tag => Sys2Proof.Machine.execFsParityFail t pc tag s
  | .fsParityBudgetEnd t pc tag => Sys2Proof.Machine.execFsParityBudgetEnd t pc tag s
  | .fsUncorrectable t pc tag data => Sys2Proof.Machine.execFsUncorrectable t pc tag data s
  | .fsSpareIn t pc => Sys2Proof.Machine.execFsSpareIn t pc s
  | .fsMirror t pc => Sys2Proof.Machine.execFsMirror t pc s
  | .fsMigrateCopyDone t pc => Sys2Proof.Machine.execFsMigrateCopyDone t pc s
  | .lockstepFault t pairB cause => Sys2Proof.Machine.execLockstepFault t pairB cause s
  | .ccRecovery t pairB => Sys2Proof.Machine.execCcRecovery t pairB s
  | .watchdogExpiry t pairB => Sys2Proof.Machine.execWatchdogExpiry t pairB s
  | .sramScrub t corrected => Sys2Proof.Machine.execSramScrub t corrected s
  | .masterDrainDone t master => Sys2Proof.Machine.execMasterDrainDone t master s
  | .remapSet t master => Sys2Proof.Machine.execRemapSet t master s
  | .bHoldWrite t hold => Sys2Proof.Machine.execBHoldWrite t hold s
  | .wdtEnSet t => Sys2Proof.Machine.execWdtEnSet t s
  | .boot t mode slotA slotB pufSeedOk corrected => Sys2Proof.Machine.execBoot t mode slotA slotB pufSeedOk corrected s
  | .hostPush t read data => Sys2Proof.Machine.execHostPush t read data s
  | .serviceRead t addr len crcOk => Sys2Proof.Machine.execServiceRead t addr len crcOk s
  | .serviceWrite t addr data crcOk => Sys2Proof.Machine.execServiceWrite t addr data crcOk s
  | .jtagInstruction t instr => Sys2Proof.Machine.execJtagInstruction t instr s
  | .debugHalt t pairB halt => Sys2Proof.Machine.execDebugHalt t pairB halt s
  | .slotRemask t slot mask => Sys2Proof.Machine.execSlotRemask t slot mask s
  | .drbgReseed t => Sys2Proof.Machine.execDrbgReseed t s
  | .healthTest t pass => Sys2Proof.Machine.execHealthTest t pass s
  | .operatingDay t => Sys2Proof.Machine.execOperatingDay t s
  | .chainLatch t chain => Sys2Proof.Machine.execChainLatch t chain s
  | .chainShiftComplete t chain status => Sys2Proof.Machine.execChainShiftComplete t chain status s
  | .diagPulse t chain => Sys2Proof.Machine.execDiagPulse t chain s
  | .strobePulse t strobe => Sys2Proof.Machine.execStrobePulse t strobe s
  | .powerOn t vbatLost bootMode failed => Sys2Proof.Machine.execPowerOn t vbatLost bootMode failed s
  | .rstNAssert t => Sys2Proof.Machine.execRstNAssert t s
  | .perstNAssert t => Sys2Proof.Machine.execPerstNAssert t s
  | .powerStateEntry t => Sys2Proof.Machine.execPowerStateEntry t s
  | .wake t source pufSeedOk corrected => Sys2Proof.Machine.execWake t source pufSeedOk corrected s
  | .braceBegin t rail mv => Sys2Proof.Machine.execBraceBegin t rail mv s
  | .braceEnd t rail lowestMv => Sys2Proof.Machine.execBraceEnd t rail lowestMv s
  | .supplyReset t rail lowestMv => Sys2Proof.Machine.execSupplyReset t rail lowestMv s
  | .unitFault t kind index cause => Sys2Proof.Machine.execUnitFault t kind index cause s
  | .sparePrepare t kind index => Sys2Proof.Machine.execSparePrepare t kind index s
  | .egressEngineSwitch t engine => Sys2Proof.Machine.execEgressEngineSwitch t engine s
  | .unitTested t kind index passed => Sys2Proof.Machine.execUnitTested t kind index passed s
  | .ageing t island slowdown => Sys2Proof.Machine.execAgeing t island slowdown s
  | .errorTrendMigrate t kind index => Sys2Proof.Machine.execErrorTrendMigrate t kind index s
  | .handoverEnd t => Sys2Proof.Machine.execHandoverEnd t s
  | .handoverTimeout t => Sys2Proof.Machine.execHandoverTimeout t s
  | .pairBRestart t => Sys2Proof.Machine.execPairBRestart t s
  | .thermalRead t temps => Sys2Proof.Machine.execThermalRead t temps s
  | .deviceResetStart t => Sys2Proof.Machine.execDeviceResetStart t s
  | .groupReleaseTime head commit => Sys2Proof.Machine.execGroupReleaseTime head commit s
  | .msixUnmask t target => Sys2Proof.Machine.execMsixUnmask t target s
  | .reenrolmentComplete t seedOk => Sys2Proof.Machine.execReenrolmentComplete t seedOk s
  | .reservedOpcodeRequest t mb => Sys2Proof.Machine.execReservedOpcodeRequest t mb s

end Sys2Proof.Machine
end

