-- ==== Sys2Proof/Safety.lean ====
section
/-! DEFINITION. What the claims call a safe run: the invariants of the state, and the conditions under which a command has no
further consequence than its own effect. -/

namespace Sys2Proof.Machine

/-! ### Conditions on the state alone -/

/-- No VX_FREE waits for a last lease (R122), and no request for its turn (R47). -/
def noFrees (s : State) : Bool :=
  s.flights.all fun f => match f.waits with | .free _ | .turn _ => false | _ => true

/-- Nothing waits that an effect could release at once: no pseudo-channel is frozen or being copied, no request waits behind a
fence, for its turn or for a PCIe tag, no delay line is reserved and no VX_FREE is in flight (R47, R51, R122, R288, R359). -/
structure Still (s : State) : Prop where
  moves : s.fsMoves = []
  fences : s.waiting = []
  delays : s.delayLines = []
  frees : noFrees s = true
  reads : s.dmaQueue = []

/-- Firmware runs, and pair A is not being recovered (R367, R377). -/
structure Served (s : State) : Prop where
  awake : awake s = true
  runs : firmwareRuns s = true
  ready : recoveringA s = false

/-- A request stands at the head of a mailbox, is well-formed and passes the checks of Table 2.10, so that firmware starts it
at once (R30, R34, R47). -/
structure Ready (s : State) (mb : Nat) (r : Request) : Prop where
  served : Served s
  still : Still s
  head : headRequest s mb = some r
  slot : slotOk r = true
  push : s.cc.pushWait = false
  serves : serves s = true
  fence : mustWait (consume s mb) r = false
  turn : turnHeld (consume s mb) r = false
  checks : precheck (consume s mb) r = none

/-- The same, with its payload in the slot. -/
structure ReadyDirect (s : State) (mb : Nat) (r : Request) : Prop extends Ready s mb r where
  direct : reqIndirect r = false

/-- The same for a VX_SET of a property: the row of its table, the first element, and the values that it carries. -/
structure ReadySet (s : State) (mb : Nat) (r : Request) (row : PropRow) (start : Nat) (xs : List Int) : Prop
    extends ReadyDirect s mb r where
  opcode : reqOpcode r = 0x11
  found : propRow (objCls (reqObj r)) (reqPid r) = some row
  first : (spanOf row (reqPayload r) (reqCount r) 44).start = start
  values : spanValues row (spanOf row (reqPayload r) (reqCount r) 44) (reqPayload r) = xs

/-- A completion is posted, and its request is no longer in flight. -/
def replied (w : State) (r : Request) (c : Cpl) : State := writeCompletion (endFlight w r) r c

/-- The state in which a request takes its effect: its instant has come, and its slot is consumed. -/
def taken (t : Ticks) (s : State) (mb : Nat) : State := consume (tickTo t s) mb

/-- Firmware runs, pair A is not being recovered, and nothing waits: a command has its own effect and nothing follows it. -/
structure Calm (s : State) : Prop where
  still : Still s
  served : Served s

/-- What the queue, the waiting work and OTP hold: the part of the state that decides whether anything follows a command. -/
structure Spine where
  fences : List Request
  delays : Map ObjId
  flights : List Flight
  moves : List FsMove
  reads : List DmaWait
  queue : List Instr
  otp : Otp
deriving DecidableEq, Repr

/-- The spine of a state. -/
def spine (s : State) : Spine := ⟨s.waiting, s.delayLines, s.flights, s.fsMoves, s.dmaQueue, s.pending, s.keys.otp⟩

/-- A link of a running MSL port is up (R86, R90). -/
structure MslLinkUp (s : State) (p : ObjId) (link : Nat) : Prop where
  kind : getProp s p pPortInKind = 1
  running : getProp s p pPortInState = 2
  inRange : link < getPropN s p pPortInLinks
  up : bitOf (portIn s p).linkUp link = true

/-- An MSL packet header of a type, with its check (R90). -/
structure MslHeader (type : Nat) (hd : List Nat) : Prop where
  sync : bitsOf (atD hd 0 0) 7 0 = 0xD5
  named : bitsOf (atD hd 0 0) 15 8 = type
  words : hd.length = mslHeaderWords type
  zero : type ≠ 2 → bitsOf (atD hd 0 0) 31 16 = 0
  check : crc32c (wordBytes hd.dropLast) = hd.getLastD 0

/-! ### Parts of the state, for what a command leaves as it is -/

/-- What the host's requests work on: mailboxes, waiting requests, stored values, objects, subscriptions, masks and power. -/
structure HostPart where
  mbs : Map Mailbox
  flights : List Flight
  dma : List DmaRead
  stored : Map Int
  objs : List ObjId
  objSubs : Map Subscription
  classSubs : Map Subscription
  msixMask : Nat
  functionMask : Bool
  power : Power
deriving DecidableEq, Repr

/-- Surfaces, heads, routes, ports, lanes and the units that work for them. -/
structure MediaPart where
  surfs : Map Surf
  rings : Map Ring
  ctl : List CtlRegion
  recPages : List RecPage
  heads : Map HeadRt
  layers : Map LayerRt
  routes : Map RouteRt
  charges : Map Nat
  slices : List SliceRes
  ports : Map PortIn
  lanes : Map Lane
  outs : Map PortOut
  dpPins : Map DpPins
  laneTxs : Map LaneTx
  works : List UnitWork
  places : Map Nat
deriving DecidableEq, Repr

/-- Audio paths, their sources and destinations, and the TDM ports. -/
structure AudioPart where
  dests : Map AudioDest
  paths : Map AudioPath
  srcs : Map AudioSrc
  tdms : Map TdmPort
  delayLines : Map ObjId
deriving DecidableEq, Repr

/-- Chains, lamps, tally groups and strobes, and the triggers. -/
structure LightPart where
  chains : Map ChainRt
  lamps : Map LampRt
  tallyOff : List Nat
  strobes : Map StrobeRt
  trigs : Map TrigRt
deriving DecidableEq, Repr

/-- The references and the timebase. -/
structure TimePart where
  refs : Map RefRt
  tb : Timebase
deriving DecidableEq, Repr

/-- The frame store's controllers. -/
structure StorePart where
  pcs : Map PcRt
  snaps : List FsSnap
  fsMoves : List FsMove
  fsStale : List Nat
deriving DecidableEq, Repr

/-- The Hinge Link and its groups. -/
structure LinkPart where
  hls : Map HlLink
  groups : List GroupRun
  hlGrants : Map Nat
  hlJoins : Map Nat
deriving DecidableEq, Repr

/-- The control complex and the keyring. -/
structure CtlPart where
  cc : Ctl
  keys : Keyring
deriving DecidableEq, Repr

def hostPart (s : State) : HostPart :=
  ⟨s.mbs, s.flights, s.dma, s.stored, s.objs, s.objSubs, s.classSubs, s.msixMask, s.functionMask, s.power⟩
def mediaPart (s : State) : MediaPart :=
  ⟨s.surfs, s.rings, s.ctl, s.recPages, s.heads, s.layers, s.routes, s.charges, s.slices, s.ports, s.lanes, s.outs, s.dpPins, s.laneTxs,
    s.works, s.places⟩
def audioPart (s : State) : AudioPart := ⟨s.dests, s.paths, s.srcs, s.tdms, s.delayLines⟩
def lightPart (s : State) : LightPart := ⟨s.chains, s.lamps, s.tallyOff, s.strobes, s.trigs⟩
def timePart (s : State) : TimePart := ⟨s.refs, s.tb⟩
def storePart (s : State) : StorePart := ⟨s.pcs, s.snaps, s.fsMoves, s.fsStale⟩
def linkPart (s : State) : LinkPart := ⟨s.hls, s.groups, s.hlGrants, s.hlJoins⟩
def ctlPart (s : State) : CtlPart := ⟨s.cc, s.keys⟩

/-! ### Invariants -/

/-- The three byte memories are in canonical form. -/
structure MemoriesWf (s : State) : Prop where
  bar0 : Memory.wf s.bar0 = true
  frame : Memory.wf s.frame = true
  sram : Memory.wf s.cc.sram = true
  flash : Memory.wf s.cc.flash = true

/-- While a logical pseudo-channel is frozen and no spare has replaced it, no byte of it holds anything (R359). -/
def FrozenEmpty (s : State) : Prop :=
  ∀ v ∈ s.fsMoves, v.planned = false → v.mapped = false → ∀ a, a / 4096 % 120 = v.lpc → memByte s.frame a = memEmptyByte

/-- An OTP cell that is set stays set (R384): every bit of the first is a bit of the second, and no count falls. -/
structure OtpKept (a b : Otp) : Prop where
  revoke : a.revoke &&& b.revoke = a.revoke
  owner : a.owner &&& b.owner = a.owner
  ownerDone : a.ownerDone = true → b.ownerDone = true ∧ b.owner = a.owner
  rollback : a.rollback ≤ b.rollback
  banks : a.banks &&& b.banks = a.banks
  bankDone : a.bankDone &&& b.bankDone = a.bankDone
  days : a.days ≤ b.days
  bankDay : a.bankDay ≤ b.bankDay

end Sys2Proof.Machine
end

