-- ==== Sys2Proof/Certificates/Slice0/Obligations.lean ====
section
/-! DEFINITION. The statements about this block: what a step is, what every step keeps, and what each command does. -/

open Sys2Proof Sys2Proof.Machine

/-! ### The queue and the invariants -/

/-- A step is the command at the front of the queue, run on the state with the queue's rest; an empty queue idles (the model's
choice, log entry 1). -/
def Obligations.StepRunsTheFrontCommand : Prop :=
  (∀ (c : Instr) (cs : List Instr) (s : State), s.pending = c :: cs → step s = exec c { s with pending := cs }) ∧
  (∀ s : State, s.pending = [] → step s = .next s)

/-- Every command answers a next state, and leaves the queue of waiting commands as it is (log entry 3). -/
def Obligations.EveryCommandAnswersAndKeepsTheQueue : Prop :=
  ∀ (c : Instr) (s : State), ∃ u, exec c s = .next u ∧ u.pending = s.pending

/-- R384: whatever command runs, no OTP cell that is set is ever cleared. -/
def Obligations.OtpCellsStaySet : Prop :=
  ∀ s u : State, step s = .next u → OtpKept s.keys.otp u.keys.otp

/-- R359: after every step, nothing lies in a frozen logical pseudo-channel that no spare has replaced. What rests on a choice of
the model: log entries 6 and 38. -/
def Obligations.FrozenChannelsHoldNothing : Prop :=
  ∀ s u : State, FrozenEmpty s → step s = .next u → FrozenEmpty u

/-- The invariants hold at reset, and the queue is empty then. What rests on a choice of the model: log entry 156. -/
def Obligations.ResetMeetsInvariants : Prop :=
  FrozenEmpty State.reset ∧ MemoriesWf State.reset ∧ Still State.reset ∧ mapSorted State.reset.props = true ∧
  State.reset.pending = []

/-- R349 and the memory's form: every operation on the frame store's bytes keeps the canonical form. What rests on a choice of the
model: log entry 6. -/
def Obligations.MemoryOperationsKeepTheForm : Prop :=
  ∀ m : Mem, Memory.wf m = true →
    (∀ a bs, Memory.wf (memWrite m a bs) = true ∧ memRead (memWrite m a bs) a bs.length = bs ∧
      ∀ x, x < a ∨ a + bs.length ≤ x → memByte (memWrite m a bs) x = memByte m x) ∧
    (∀ a n, Memory.wf (memClear m a n) = true) ∧
    (∀ l, Memory.wf (clearLpc m l) = true ∧ ∀ x, memByte (clearLpc m l) x = if x / 4096 % 120 = l then memEmptyByte else memByte m x)

/-! ### The host's registers -/

/-- R28: the clamp of a doorbell write. At most 32 requests are ever outstanding, and nothing changes but the tail and, where the
write submits requests, the order of doorbell writes that R47 keeps. -/
def Obligations.DoorbellIsClamped : Prop :=
  ∀ (t : Ticks) (mb : Fin 16) (v : Word) (s : State), Still s → ticking s = true →
    let m := mbOf s mb.val
    let new' : Count := BitVec.ofNat 16 v.toNat
    let tail : Count :=
      if 0x8000 < (new' - m.reqTail).toNat then m.reqTail
      else if (new' - m.reqTail).toNat ≤ (m.cplHead + 32 - m.reqTail).toNat then new'
      else m.cplHead + 32
    exec (.mbDoorbellWrite t mb v) s = .next (setMb (tickTo t s) mb.val
      { m with reqTail := tail, bells := if tail = m.reqTail then m.bells else m.bells ++ [(tail, max s.now t)] }) ∧
    ((m.reqTail - m.cplHead).toNat ≤ 32 → (tail - m.cplHead).toNat ≤ 32)

/-- R29: a written count of consumed entries never moves backwards and never passes the tail, for completions and for the entries of
an event ring; nothing but the count changes. -/
def Obligations.ConsumedCountsAreClamped : Prop :=
  ∀ (t : Ticks) (v : Word) (s : State), Still s → ticking s = true →
    let applied (head tail : Count) : Count :=
      let d := BitVec.ofNat 16 v.toNat - head
      if 0x8000 < d.toNat then head else if (tail - head).toNat < d.toNat then tail else BitVec.ofNat 16 v.toNat
    (∀ mb : Fin 16, exec (.mbCplHeadWrite t mb v) s =
      .next (setMb (tickTo t s) mb.val { mbOf s mb.val with cplHead := applied (mbOf s mb.val).cplHead (mbOf s mb.val).cplTail })) ∧
    (∀ r : Fin 4, exec (.evHeadWrite t r v) s =
      .next (setEv (tickTo t s) r.val { evOf s r.val with head := applied (evOf s r.val).head (evOf s r.val).tail }))

/-- R49, R470: a write of EV_LOST clears the count, and one of EV_HOLDOFF sets the holdoff, clamped to 1,000 µs; each changes that
one register, so the interval that governs the next signal stays. The end of a holdoff signals once if an entry waits for it, and
does nothing otherwise. -/
def Obligations.EventRegistersAreWrittenAndHoldoffsEnd : Prop :=
  (∀ (t : Ticks) (r : Fin 4) (v : Word) (s : State), Still s → ticking s = true →
     exec (.evLostClear t r v) s = .next (setEv (tickTo t s) r.val { evOf s r.val with lost := 0 }) ∧
     exec (.evHoldoffWrite t r v) s =
       .next (setEv (tickTo t s) r.val { evOf s r.val with holdoff := min (v.toNat % 1024) 1000 })) ∧
  (∀ (t : Ticks) (r : Fin 4) (s : State), Still s → ticking s = true →
     (∀ l, (evOf s r.val).owed = true → (evOf s r.val).lastSignal = some l → l + (evOf s r.val).window * usT ≤ max s.now t →
       exec (.eventHoldoffEnd t r) s = .next (signalVector (setEv (tickTo t s) r.val
         { evOf s r.val with lastSignal := some (max s.now t), window := (evOf s r.val).holdoff, owed := false }) (16 + r.val))) ∧
     ((evOf s r.val).owed = false → exec (.eventHoldoffEnd t r) s = .next (tickTo t s)))

/-- R25, R26: a host write to a request slot is stored, one to MB_CONTROL keeps bit 0, and one to a read-only register or a
completion slot is ignored. A host read gives HIF_ID, the counts of a mailbox, or what a slot or an entry holds, and changes
nothing; a narrower or wider read of a register, and one of a reserved offset, gives zeros. -/
def Obligations.RegisterWritesAreStored : Prop :=
  ∀ (t : Ticks) (s : State) (bytes : List Byte), Still s → ticking s = true →
    let answer (off : Nat) (bs : List Byte) : Result := .next (emit (tickTo t s) (.bar0Read off bs))
    let read (off len : Nat) : Result := exec (.registerWrite t off (.read len)) s
    (read 0 4 = answer 0 (toLe 4 0x9648A101) ∧ read 4 4 = answer 4 (toLe 4 (hifStatus s.hif))) ∧
    (∀ mb : Fin 16,
      let m := mbOf s mb.val
      let off := 0x10000 + mb.val * 0x1000
      read (off + 4) 4 = answer (off + 4) (toLe 4 m.reqTail.toNat) ∧ read (off + 8) 4 = answer (off + 8) (toLe 4 m.reqHead.toNat) ∧
      read (off + 12) 4 = answer (off + 12) (toLe 4 m.cplTail.toNat) ∧ read (off + 16) 4 = answer (off + 16) (toLe 4 m.cplHead.toNat)) ∧
    (∀ off len, (0x100000 ≤ off ∧ off + len ≤ 0x110000) ∨ (0x200000 ≤ off ∧ off + len ≤ 0x220000) →
      read off len = answer off (memRead s.bar0 off len)) ∧
    (∀ off len, off < 0x100000 → len ≠ 4 → read off len = answer off (List.replicate len 0)) ∧
    (∀ off, 0x220000 ≤ off → off < 0x1000000 → read off 4 = answer off (toLe 4 0)) ∧
    (∀ (mb : Fin 16) (slot : Fin 32), bytes.length = 64 →
      exec (.registerWrite t (0x100000 + mb.val * 0x1000 + slot.val * 64) (.write bytes)) s =
        .next { tickTo t s with bar0 := memWrite s.bar0 (0x100000 + mb.val * 0x1000 + slot.val * 64) bytes }) ∧
    (∀ (mb : Fin 16) (slot : Fin 32),
      exec (.registerWrite t (0x100800 + mb.val * 0x1000 + slot.val * 64) (.write bytes)) s = .next (tickTo t s)) ∧
    (∀ mb : Fin 16, bytes.length = 4 → exec (.registerWrite t (0x10014 + mb.val * 0x1000) (.write bytes)) s =
      .next (setMb (tickTo t s) mb.val { mbOf s mb.val with control := BitVec.ofNat 32 (leNat bytes) &&& 1 })) ∧
    (∀ mb : Fin 16, exec (.registerWrite t (0x10004 + mb.val * 0x1000) (.write bytes)) s = .next (tickTo t s))

/-- R27, R50: unmasking a vector whose message is pending sends it once and clears its pending bit; other pending bits stay. -/
def Obligations.UnmaskSendsPendingMessages : Prop :=
  ∀ (t : Ticks) (v : Fin 64) (s : State), Still s → ticking s = true → s.hif.msixEnabled = true → s.functionMask = false →
    s.power.taken = false → (∀ w : Nat, w < 64 → bitOf s.hif.msixPending w = true → w = v.val ∨ bitOf s.msixMask w = true) →
    bitOf s.msixMask v.val = true → bitOf s.hif.msixPending v.val = true →
    exec (.msixUnmask t (.vector v)) s =
      .next { tickTo t s with
        msixMask := setBit s.msixMask v.val false
        hif := { s.hif with msixPending := setBit s.hif.msixPending v.val false }
        out := (max s.now t, .msix v.val) :: s.out }

/-- R111, R372: BAR2 reads and writes reach the bytes of allocated surfaces; a read elsewhere gives zeros, and a write elsewhere
changes nothing. Each passes the matrix as a transaction of PCIe inbound, whose grant is the last at its port; one that PCIe inbound
issues while its port drains waits instead. At every target port the grant goes to the highest effective QoS among the oldest
transactions of the masters that have their tags and are not drained, and on a tie to the master that follows the last one granted.
What rests on a choice of the model: log entries 6 and 174. -/
def Obligations.Bar2ReachesSurfacesAlone : Prop :=
  ∀ (t : Ticks) (addr : Nat) (s : State), Calm s → s.cc.matrix = [] →
    let w := tickTo t s
    let granted (v : State) : State := setCc v fun c => { c with granted := mapPut c.granted portHost (masterIndex .pci) }
    (.pci ∉ s.cc.draining →
      (∀ len, exec (.bar2Access t false addr len []) s = .next (emit (granted w) (.bar2Read addr
        ((List.range len).map fun i => if bar2Reaches s (addr + i) then memByte s.frame (addr + i) else 0)))) ∧
      (∀ (len : Nat) (data : List Byte), Memory.wf s.frame = true → ∃ m : Mem,
        exec (.bar2Access t true addr len data) s = .next { granted w with frame := m } ∧
        ∀ a, memByte m a =
          if addr ≤ a ∧ a < addr + data.length ∧ bar2Reaches s a = true then atD data (a - addr) 0 else memByte s.frame a)) ∧
    (.pci ∈ s.cc.draining → ∀ len, exec (.bar2Access t false addr len []) s =
      .next (setCc w fun c => { c with matrix := [⟨.pci, portHost, burstsOf addr len, w.now, .bar2Read addr len⟩] })) ∧
    (∀ (v : State) (port : Nat),
      (∀ x, grantAt v port = some x → x ∈ contenders v port ∧ ∀ y ∈ contenders v port, effectiveQos v y ≤ effectiveQos v x ∧
        (effectiveQos v y = effectiveQos v x → turnsAfter v port x.master ≤ turnsAfter v port y.master)) ∧
      (grantAt v port = none → contenders v port = []) ∧
      (∀ x ∈ contenders v port, x ∈ v.cc.matrix ∧ x.port = port ∧ x.master ∉ v.cc.draining ∧ tagged v x = true) ∧
      (∀ x ∈ contenders v port, ∀ y ∈ contenders v port, x.master = y.master → x = y))

/-! ### Events and completions -/

/-- R49: an event goes to event ring 0 until a subscription names another ring or masks it; it enters its ring at the tail, with
LOST set where one was dropped before it, or is dropped and counted where the ring is full; entries already in the ring are never
overwritten. After R40, one that its subscription masks is not written; none is while firmware does not run (log entry 88). -/
def Obligations.EventsEnterTheirRingUnlessMasked : Prop :=
  (∀ (s : State) (code : Nat) (o : ObjId) (arg : Nat), firmwareRuns s = true → recoveringA s = false →
     eventEnabled (subFor s code o) code = true → Memory.wf s.bar0 = true →
     let r := if code = 0x1302 ∨ code = 0x1303 then 0 else (subFor s code o).ring
     let e := evOf s r
     let u := postEvent s code o arg
     ((e.tail - e.head).toNat ≠ 1024 →
       memRead u.bar0 (evEntryAddr r e.tail.toNat) 32 = eventEntry code e.lostFlag o s.now e.tail.toNat arg ∧
       (evOf u r).tail = e.tail + 1 ∧ (evOf u r).lostFlag = false ∧ (evOf u r).lost = e.lost ∧
       (∀ a, a < evEntryAddr r e.tail.toNat ∨ evEntryAddr r e.tail.toNat + 32 ≤ a → memByte u.bar0 a = memByte s.bar0 a)) ∧
     ((e.tail - e.head).toNat = 1024 →
       u = setEv s r { e with lost := min (e.lost + 1) 0xFFFFFFFF, lostFlag := true })) ∧
  (∀ (s : State) (code : Nat) (o : ObjId) (arg : Nat),
     (firmwareRuns s = false → postEvent s code o arg = s) ∧
     (recoveringA s = false → bitOf (subFor s code o).mask (code % 256) = false → ¬(0x1301 ≤ code ∧ code ≤ 0x1304) →
       postEvent s code o arg = s)) ∧
  (∀ (s : State) (code : Nat) (o : ObjId), mapGet s.objSubs (if code / 256 = clsSystem then sysObj else o) = none →
     mapGet s.classSubs (code / 256) = none → (subFor s code o).ring = 0 ∧ eventEnabled (subFor s code o) code = true)

/-- R30, R31: a completion is posted into slot MB_CPL_TAIL mod 32 with the fields of the request, and the tail moves on; the request
is no longer in flight, and no other byte of BAR0 changes. -/
def Obligations.CompletionsEnterTheirSlot : Prop :=
  ∀ (s : State) (r : Request) (c : Cpl), firmwareRuns s = true → recoveringA s = false → toBuffer r = false →
    Memory.wf s.bar0 = true →
    let a := cplSlotAddr r.mb (mbOf s r.mb).cplTail.toNat
    complete s r c = replied s r c ∧
    memRead (replied s r c).bar0 a 64 = cplSlot r c c.payload c.payload.length false ∧
    (cplSlot r c c.payload c.payload.length false).length = 64 ∧
    mbOf (replied s r c) r.mb = { mbOf s r.mb with cplTail := (mbOf s r.mb).cplTail + 1 } ∧
    (∀ x, x < a ∨ a + 64 ≤ x → memByte (replied s r c).bar0 x = memByte s.bar0 x) ∧
    flightOf (replied s r c) r.mb r.cnt = none ∧ (replied s r c).props = s.props ∧ (replied s r c).evs = s.evs

/-- R37: a value set is read back, and no other element of any property changes. -/
def Obligations.PropertiesReadBack : Prop :=
  ∀ (s : State) (o : ObjId) (pid idx : Nat) (v : Int), mapSorted s.props = true → pid < 0x10000 → idx < 0x1000000 →
    getProp (setProp s o pid idx v) o pid idx = v ∧
    (∀ o' pid' idx', pid' < 0x10000 → idx' < 0x1000000 → (o', pid', idx') ≠ (o, pid, idx) →
      getProp (setProp s o pid idx v) o' pid' idx' = getProp s o' pid' idx') ∧
    mapSorted (setProp s o pid idx v).props = true ∧
    (setProp s o pid idx (propDefault o pid idx)).props = mapDel s.props (propKey o pid idx)

/-! ### Requests

`taken t s mb` is the state in which the request takes its effect: its instant has come and its slot is consumed. -/

/-- R31, R36, R37, R38, R41, R42: what VX_NOP, VX_IDENTIFY and VX_ENUMERATE answer; VX_GET of a scalar answers the effective value,
or with STAGED the newest one; VX_DESCRIBE answers type, elements, applies class, survives set, range and default. None of them
changes anything but the mailbox. What rests on a choice of the model: log entries 108 and 109. -/
def Obligations.QueriesAnswerAndPropertiesAreRead : Prop :=
  (∀ (t : Ticks) (mb : Fin 16) (s : State) (r : Request), ReadyDirect (tickTo t s) mb.val r →
     let w := taken t s mb.val
     (reqOpcode r = 0x01 →
       exec (.vxNop t mb) s = .next (complete w r { payload := (reqPayload r).take (reqPayloadLen r) })) ∧
     (reqOpcode r = 0x02 →
       let p := toLe 2 0x9648 ++ toLe 1 0xA1 ++ toLe 1 0x01 ++ toLe 2 (imgRelease s.cc.image) ++ toLe 2 (imgCompat s.cc.image).1 ++
         toLe 2 (imgCompat s.cc.image).2 ++ toLe 2 s.cc.pin ++ toLe 2 s.hif.compat ++ toLe 1 s.cc.source ++
         toLe 1 (getPropN s sysObj pSystemKeyringState) ++ serialBytes ++ List.replicate 20 0
       exec (.vxIdentify t mb) s = .next (complete w r { payload := p })) ∧
     (reqOpcode r = 0x13 → 1 ≤ fieldAt (reqPayload r) 0 1 → fieldAt (reqPayload r) 0 1 ≤ 19 →
       let ids := (objsOf s (fieldAt (reqPayload r) 0 1)).filter fun o => decide (fieldAt (reqPayload r) 4 3 ≤ objInst o)
       exec (.vxEnumerate t mb) s = .next (complete w r
         { count := some (min 10 ids.length),
           payload := toLe 4 (if ids.length ≤ 10 then 0xFFFFFFFF else objInst (atD ids 10 0)) ++
             (ids.take 10).flatMap fun o => toLe 4 o }))) ∧
  (∀ (t : Ticks) (mb : Fin 16) (s : State) (r : Request) (row : PropRow), ReadyDirect (tickTo t s) mb.val r →
     propRow (objCls (reqObj r)) (reqPid r) = some row →
     let w := taken t s mb.val
     let o := reqObj r
     (reqOpcode r = 0x10 → row.arr = false → row.n = 1 → reqCount r = 1 → ∃ c : Cpl,
       exec (.vxGet t mb) s = .next (complete w r c) ∧ c.status = stOk ∧ c.count = some 1 ∧
       c.payload = toLe row.ty.size (row.ty.encode
         (readProp (if reqStaged r && row.applies != .immediate then newestView w o else w) o row.pid 0))) ∧
     (reqOpcode r = 0x12 → row.n < 65536 →
       let p := toLe 2 (row.ty.code + 0x8000 * bit01 row.arr) ++ toLe 2 row.n ++ toLe 1 row.applies.code ++ toLe 1 row.surv ++ toLe 2 0 ++
         toLe 8 (twos 64 (rangeOf w o row).1) ++ toLe 8 (twos 64 (rangeOf w o row).2) ++ toLe 8 (twos 64 (defaultOf w o row))
       exec (.vxDescribe t mb) s = .next (complete w r { payload := p })))

/-- R37, R56: VX_SET of a value stores an AT_RESTART or AT_BOOT value, and stages an AT_HINGE value in its head's staging bank; the
effective value stays, and a read-only property is answered unchanged. -/
def Obligations.WritesAreStoredOrStaged : Prop :=
  ∀ (t : Ticks) (mb : Fin 16) (s : State) (r : Request) (row : PropRow) (i : Nat) (xs : List Int),
    ReadySet (tickTo t s) mb.val r row i xs →
    let w := taken t s mb.val
    let o := reqObj r
    let sp := spanOf row (reqPayload r) (reqCount r) 44
    let es := writeElements (newestView w o) o row i xs
    (row.ro = false → row.applies = .atRestart ∨ row.applies = .atBoot →
      exec (.vxSet t mb) s = .next (setDone (storeFor w o es) r row sp)) ∧
    (∀ h, row.ro = false → row.applies = .atHinge → objCls o ≠ clsAudioCh → hingeTarget w o = .head h →
      exec (.vxSet t mb) s = .next (setDone
        (updHead w h fun x => { x with staging := (es.map fun e => (propKey o e.1 e.2.1, e.2.2)).foldl (fun m e => mapPut m e.1 e.2) x.staging })
        r row sp)) ∧
    (row.ro = true → ∃ c, exec (.vxSet t mb) s = .next (complete w r c) ∧ c.status = stOk)

/-- R35, R40, R67: VX_CREATE takes the next instance of its class, VX_DESTROY of a group removes it at once and one of an object of
a head seals a removal, and VX_SUBSCRIBE sets ring and mask. -/
def Obligations.ObjectsAreCreatedAndDestroyed : Prop :=
  ∀ (t : Ticks) (mb : Fin 16) (s : State) (r : Request), ReadyDirect (tickTo t s) mb.val r →
    let w := taken t s mb.val
    let o := reqObj r
    (reqOpcode r = 0x20 → objCls o = clsRoute ∨ objCls o = clsLayer ∨ objCls o = clsGroup →
      exec (.vxCreate t mb) s = .next (complete (newObj w (objCls o)).2 r { object := some (newObj w (objCls o)).1 }) ∧
      objExists (newObj w (objCls o)).2 (newObj w (objCls o)).1 = true ∧ objCls (newObj w (objCls o)).1 = objCls o) ∧
    (reqOpcode r = 0x20 → objCls o = clsAudioCh → exec (.vxCreate t mb) s = .next (finish s (settle (complete
      (audioRouter (newObj w clsAudioCh).2 w.now [] [] []) r { object := some (newObj w clsAudioCh).1 })))) ∧
    (reqOpcode r = 0x21 → objCls o = clsGroup →
      exec (.vxDestroy t mb) s = .next (complete (dropObject w o) r {}) ∧ objExists (dropObject w o) o = false) ∧
    (∀ h, reqOpcode r = 0x21 → involved w r = ([h], false) →
      let c := sealCommit ⟨w, [], []⟩ h (.removal r.mb r.cnt (reqTag r) r.start) [] [o] none
      exec (.vxDestroy t mb) s = .next (await c.2 r r.start (.commit h c.1))) ∧
    (reqOpcode r = 0x32 → objExists w o = true →
      let ring := min (fieldAt (reqPayload r) 0 1) 3
      let mask := if objCls o = clsSystem then fieldAt (reqPayload r) 4 32 ||| 0x1E else fieldAt (reqPayload r) 4 32
      let scope := if fieldAt (reqPayload r) 1 1 = 1 then 1 else 0
      let v := if fieldAt (reqPayload r) 1 1 = 1 then { w with classSubs := mapPut w.classSubs (objCls o) ⟨ring, mask⟩ }
        else { w with objSubs := mapPut w.objSubs o ⟨ring, mask⟩ }
      exec (.vxSubscribe t mb) s = .next (complete v r
        { payload := toLe 1 ring ++ toLe 1 scope ++ toLe 2 0 ++ toLe 32 mask ++ List.replicate 8 0 }))

/-- R56, R63, R65, R71: VX_COMMIT seals the staging bank of a head once admission passes, VX_COMMIT on a group seals its members'
banks for the release time, and VX_DISCARD empties the staging bank. What rests on a choice of the model: log entry 8. -/
def Obligations.CommitsAreSealed : Prop :=
  ∀ (t : Ticks) (mb : Fin 16) (s : State) (r : Request), ReadyDirect (tickTo t s) mb.val r →
    let w := taken t s mb.val
    let h := objInst (reqObj r)
    (∀ a, reqOpcode r = 0x30 → objCls (reqObj r) = clsHead →
      admitValues w h ((headRt w h).staging.filter fun e => objExists w (keyObj e.1)) [] = .inr a →
      ∃ (u : State) (c : Commit), exec (.vxCommit t mb) s = .next (finish s (settle u)) ∧
        (headRt (sealCommit a h (.request r.mb r.cnt (reqTag r) r.start)
          ((headRt w h).staging.filter fun e => objExists w (keyObj e.1)) [] none).2 h).commits = (headRt a.state h).commits ++ [c] ∧
        u = await (sealCommit a h (.request r.mb r.cnt (reqTag r) r.start)
          ((headRt w h).staging.filter fun e => objExists w (keyObj e.1)) [] none).2 r r.start (.commit h c.id) ∧
        c.values = (headRt w h).staging.filter (fun e => objExists w (keyObj e.1)) ∧ c.staged = none ∧ c.removes = [] ∧
        c.src = .request r.mb r.cnt (reqTag r) r.start) ∧
    (∀ (e : Nat) (v : State), reqOpcode r = 0x30 → objCls (reqObj r) = clsGroup → groupEntries w (reqObj r) = [e] →
      memberDevice e = ownNumber w →
      let T := groupTime w r (reqPayload r)
      let gid := ownNumber w * 65536 + w.groupCount % 65536
      groupBank w gid (memberObject e) = none →
      sealMember { w with groupCount := (w.groupCount + 1) % 65536,
                          groups := w.groups ++ [⟨gid, T, r.start, true, [⟨e, none, none, 0, none⟩], some r, false⟩] }
        gid T r.mb (reqTag r) e = (true, v) →
      -- a device that is not the root forwards its group commits to the root
      let v' := if domainState s = 1 then hlFragments v 0 0x30 (gid :: timeWords T ++ timeWords r.start) 121 [memberWords e] else v
      exec (.vxCommitGroup t mb) s =
        .next (finish s (settle (checkGroup (addFlight (endFlight v' r) (flightFor w r (max r.start T) (.group gid))) gid)))) ∧
    (reqOpcode r = 0x31 → (headRt w h).commits = [] →
      exec (.vxDiscard t mb) s = .next (complete (updHead w h fun x => { x with staging := [] }) r {}))

/-- R116, R121, R122: VX_ALLOC allocates what R117 admits, VX_FREE of a leased surface marks it FREEING and waits, VX_LEASE takes a
host lease and VX_RELEASE gives one back. What rests on a choice of the model: log entry 5. -/
def Obligations.SurfacesAreAllocatedAndLeased : Prop :=
  ∀ (t : Ticks) (mb : Fin 16) (s : State) (r : Request), ReadyDirect (tickTo t s) mb.val r →
    let w := taken t s mb.val
    let o := reqObj r
    let pl := reqPayload r
    let fmt := fmtApply (fieldAt pl 0 2)
    let g := fmtGeometry fmt (fieldAt pl 2 2) (fieldAt pl 4 2)
    let mtc := if fmtLayout fmt = 2 ∧ fieldAt pl 12 1 ≤ 2 then fieldAt pl 12 1 else 0
    (∀ n v, reqOpcode r = 0x40 → objCls o = clsSurface → fmt ≠ 0 →
      allocSurface w fmt g.1 g.2 (fieldAt pl 8 4) mtc .host = some (n, v) →
      ∃ c : Cpl, exec (.vxAlloc t mb) s = .next (finish s (settle (complete v r c))) ∧ c.status = stOk ∧ c.object = some n) ∧
    (∀ n v, reqOpcode r = 0x40 → objCls o = clsRing → fmt ≠ 0 →
      allocRing w fmt g.1 g.2 (fieldAt pl 8 4) mtc (clampNat 2 1048576 (fieldAt pl 16 4)) = some (n, v) →
      ∃ c : Cpl, exec (.vxAlloc t mb) s = .next (finish s (settle (complete v r c))) ∧ c.status = stOk ∧ c.object = some n) ∧
    (∀ f, surfOf w o = some f →
      (reqOpcode r = 0x41 → ringOf w o = none → f.owner = .host → f.freeing = false → f.leases ≠ [] → s.routes = [] →
        exec (.vxFree t mb) s = .next (addFlight (endFlight (setSurf w o { f with freeing := true }) r)
          (flightFor w r r.start (.free o)))) ∧
      (∀ p, reqOpcode r = 0x41 → ringOf w o = none → f.owner = .host → f.freeing = false → f.leases ≠ [] →
        (∃ u, exec (.vxFree t mb) s = .next u ∧ (surfOf u o).map (·.freeing) = some true ∧
          ∀ i < (routeRt s p).stages.length, (stageRt u p i).waiting ≠ some o)) ∧
      (reqOpcode r = 0x42 → surfFreeing w f = false → hostLeases f < 255 →
        exec (.vxLease t mb) s = .next (complete (setSurf w o { f with leases := f.leases ++ [.host] }) r
          { payload := leasePayload (setSurf w o { f with leases := f.leases ++ [.host] }) o })) ∧
      (reqOpcode r = 0x43 →
        exec (.vxRelease t mb) s = .next (complete (setSurf w o { f with leases := f.leases.erase .host }) r
          { payload := leasePayload (setSurf w o { f with leases := f.leases.erase .host }) o })))

/-- R79, R303, R305, R423: VX_TRIGGER serves an ARMED ring, VX_EXPORT of a FROZEN ring reserves its rate and runs, VX_RESTART
restarts its object, and VX_RESET is scheduled 1 ms after its completion. What rests on a choice of the model: log entry 121. -/
def Obligations.ServicesRun : Prop :=
  ∀ (t : Ticks) (mb : Fin 16) (s : State) (r : Request), ReadyDirect (tickTo t s) mb.val r →
    let w := taken t s mb.val
    let o := reqObj r
    let pl := reqPayload r
    (∀ x, reqOpcode r = 0x44 → objCls o = clsRing → ringOf w o = some x → x.cap = .armed →
      let at' := min (trigPayload r.start pl) (w.now + 10 * secT)
      exec (.vxTrigger t mb) s = .next (finish s (settle (complete (serveRing w o 0 1 at').2 r
        { payload := timeBytes at' ++ toLe 2 1 ++ toLe 2 0 }))) ∧
      ∃ y, ringOf (serveRing w o 0 1 at').2 o = some y ∧ y.trigTime = at' ∧ (y.cap = .collecting ∨ y.cap = .frozen)) ∧
    (∀ x, reqOpcode r = 0x45 → ringOf w o = some x → x.cap = .frozen → fsCharge w + (exportReq x pl).rate ≤ fsBudget →
      exec (.vxExport t mb) s = .next (await { endFlight w r with charges := mapPut w.charges (exportKey r.mb r.cnt) (exportReq x pl).rate }
        r r.start (.exportOf o))) ∧
    (∀ v, reqOpcode r = 0x50 → restartObj w o = (none, v) →
      exec (.vxRestart t mb) s = .next (finish s (settle (complete v r {})))) ∧
    (reqOpcode r = 0x60 → exec (.vxReset t mb) s =
      .next (complete (setPower w fun p => { p with resetAt := some (p.resetAt.getD (w.now + msT)) }) r {}))

/-- R53, R399, R443: VX_REPAIR by its action: MIGRATE plans a move and waits for it, TEST gloves a spare and RETURN takes a retired
unit, both waiting for the self-test, and RETIRE retires a spare or gloved unit at once. VX_PIN_LEVEL stores a level that the image
accepts, and VX_ATTEST answers a quote with the next sequence number and keeps it in `keyslot.last_quote`. What rests on a choice of
the model: log entries 110 and 125. -/
def Obligations.UnitsAreRepairedLevelsPinnedAndQuotesSigned : Prop :=
  (∀ (t : Ticks) (mb : Fin 16) (s : State) (r : Request), ReadyDirect (tickTo t s) mb.val r → reqOpcode r = 0x61 →
     let w := taken t s mb.val
     let k := repairKind (reqPayload r)
     let i := repairIndex (reqPayload r)
     i < unitCount k →
     (∀ v, repairAction (reqPayload r) = 0 → s.hif.brace = false →
       (match k with | 0 => planLane w i (some (r.mb, r.cnt)) | 1 => planPc w i (some (r.mb, r.cnt)) | k => planMove w k i (some (r.mb, r.cnt))) = some v →
       exec (.vxRepairMigrate t mb) s = .next (finish s (settle (await v r r.start (.repair k i))))) ∧
     (repairAction (reqPayload r) = 1 → spareOrGloved w k i = true →
       exec (.vxRepairTest t mb) s = .next (requestTest (setKindRole w k i 2) r k i 1)) ∧
     (repairAction (reqPayload r) = 2 → kindRole w k i = 3 → unitTaken w k i = false →
       exec (.vxRepairReturn t mb) s = .next (requestTest w r k i 2)) ∧
     (repairAction (reqPayload r) = 3 → spareOrGloved w k i = true →
       let v := setKindRole (dropWork w k i) k i 3
       exec (.vxRepairRetire t mb) s = .next (complete v r { payload := repairPayload 2 (roleCode v k i) none 0 }))) ∧
  (∀ (t : Ticks) (mb : Fin 16) (s : State) (r : Request), ReadyDirect (tickTo t s) mb.val r →
     let w := taken t s mb.val
     (∀ v, reqOpcode r = 0x03 → fieldAt (reqPayload r) 0 2 = v → 1 ≤ v → (imgCompat s.cc.image).1 ≤ v → v ≤ (imgCompat s.cc.image).2 →
       exec (.vxPinLevel t mb) s = .next (complete (setCc w fun c => { c with pin := v }) r
         { payload := toLe 2 v, pend := v != getPropN s sysObj pSystemCompatLevel })) ∧
     (reqOpcode r = 0x80 → s.keys.reenrolling = false → keyringSigns w = true → objInst (reqObj r) = 1 →
       let q := makeQuote w 1 ((reqPayload r).take (reqPayloadLen r))
       exec (.vxAttest t mb) s = .next (complete
         (setProps (setKeys w fun k => { k with quotes := s.keys.quotes + 1 }) (reqObj r) pKeyslotLastQuote 0
           (q.1.map fun b => (b.toNat : Int))) r { payload := toLe 4 (s.keys.quotes + 1) })))

/-- R33, R34, R471: a request whose payload lies in host memory starts a DMA read of it, under the next tag where that tag is
free, and waits, and its effect comes with the data; a slot that fails its checks is answered BAD_CHECK, and a reserved opcode UNKNOWN, without any other effect. What rests on a
choice of the model: log entry 103. -/
def Obligations.PayloadsAreFetchedAndBadRequestsAnswered : Prop :=
  (∀ (t : Ticks) (mb : Fin 16) (s : State) (r : Request), Ready (tickTo t s) mb.val r → reqIndirect r = true →
     s.dma.all (·.tag != s.nextTag % 512) = true → s.dmaDead.contains (s.nextTag % 512) = false →
     s.dmaLate.contains (s.nextTag % 512) = false →
     let w := taken t s mb.val
     let f := flightFor w r r.start .payload
     let u := issueDma (addFlight w f) r (budgetOf f)
     (reqOpcode r = 0x70 → exec (.vxFwUpdate t mb) s = .next u) ∧ (reqOpcode r = 0x80 → exec (.vxAttest t mb) s = .next u) ∧
     (reqOpcode r = 0x11 → exec (.vxSet t mb) s = .next u) ∧ (reqOpcode r = 0x01 → exec (.vxNop t mb) s = .next u) ∧
     u.dma = s.dma ++ [⟨s.nextTag % 512, r.mb, r.cnt, reqSrcAddr r, reqSrcLen r, reqSrcCrc r, budgetOf f⟩] ∧
     (s.power.taken = false → u.out = (max s.now t, .dmaRead (s.nextTag % 512) (reqSrcAddr r) (reqSrcLen r)) :: s.out)) ∧
  (∀ (t : Ticks) (mb : Fin 16) (s : State) (r : Request), Calm s → headRequest (tickTo t s) mb.val = some r → serves s = true →
     s.cc.pushWait = false →
     (slotOk r = false → exec (.reservedOpcodeRequest t mb) s = .next (writeCompletion (taken t s mb.val) r (cplStatus stBadCheck))) ∧
     (slotOk r = true → opRow (reqOpcode r) = none → s.hif.handover = false → r.inHandover = false →
       mustWait (taken t s mb.val) r = false →
       exec (.reservedOpcodeRequest t mb) s = .next (complete (taken t s mb.val) r (cplStatus stUnknown))))

/-! ### Writes of properties with an effect of their own -/

/-- R44, R325, R328, R426: what a VX_SET of a mailbox policy, the RTC, the timebase and the power state does. What rests on a choice
of the model: log entries 70 and 120. -/
def Obligations.SystemSettingsTakeEffect : Prop :=
  ∀ (t : Ticks) (mb : Fin 16) (s : State) (r : Request) (row : PropRow) (i : Nat) (xs : List Int),
    ReadySet (tickTo t s) mb.val r row i xs → reqObj r = sysObj → mapSorted s.props = true →
    let w := taken t s mb.val
    let sp := spanOf row (reqPayload r) (reqCount r) 44
    let kept (v : State) : Prop := hostPart v = hostPart w ∧ mediaPart v = mediaPart s ∧ audioPart v = audioPart s ∧
      lightPart v = lightPart s ∧ storePart v = storePart s ∧ linkPart v = linkPart s ∧ ctlPart v = ctlPart s ∧ v.frame = s.frame
    (∀ x : Nat, reqPid r = pSystemMbPolicy → xs = [(x : Int)] → bitOf x 7 = true →
      exec (.setMbPolicy t mb) s = .next (setDone (setProp w sysObj pSystemMbPolicy i x) r row sp)) ∧
    (∀ a b : Nat, reqPid r = pSystemRtcSet → i = 0 → xs = [(a : Int), (b : Int)] → getProp s sysObj pSystemRtcState ≠ 2 →
      ∃ v, exec (.setRtcSet t mb) s = .next (setDone v r row sp) ∧ v.tb.rtcTicks = a * 32768 + b % 32768 ∧
        v.tb.rtcAt = max s.now t ∧ getProp v sysObj pSystemRtcState = 1 ∧ kept v) ∧
    (∀ a b : Nat, reqPid r = pSystemTbSet → i = 0 → xs = [(a : Int), (b : Int)] → a < 2 ^ 48 → b < 1000000000 * 65536 →
      getPropN s sysObj pSystemRefSelected = 0 →
      ∃ v, exec (.setTbSet t mb) s = .next (setDone v r row sp) ∧
        v.tb.pull = ((a * secT + b : Nat) : Int) - ((max s.now t : Nat) : Int) ∧ v.tb.pullAt = max s.now t ∧ kept v) ∧
    (∀ m : Nat, reqPid r = pSystemPowerState → xs = [(m : Int)] → 1 ≤ m → m ≤ 3 → getPropN s sysObj pSystemPowerState ≠ m →
      s.flights.any (fun f => decide (f.cls = .long)) = false →
      exec (.setPowerState t mb) s = .next (setDone
        (setPower (setProp w sysObj pSystemPowerState 0 m) fun p => { p with entry := some (m, max s.now t + msT) }) r row sp))

/-- R362, R395 to R397, R400, R402, R417: what a VX_SET of the keyring's, the frame store's and the tallies' settings does. What
rests on a choice of the model: log entries 59 and 82. -/
def Obligations.ProtectedSettingsTakeEffect : Prop :=
  ∀ (t : Ticks) (mb : Fin 16) (s : State) (r : Request) (row : PropRow) (i : Nat) (xs : List Int),
    ReadySet (tickTo t s) mb.val r row i xs → reqObj r = sysObj → mapSorted s.props = true →
    let w := taken t s mb.val
    let sp := spanOf row (reqPayload r) (reqCount r) 44
    let lo := s.keys.otp.rollback
    let kept (u : State) : Prop := mediaPart u = mediaPart s ∧ audioPart u = audioPart s ∧ lightPart u = lightPart s ∧
      timePart u = timePart s ∧ storePart u = storePart s ∧ linkPart u = linkPart s ∧ u.cc = s.cc ∧ u.frame = s.frame
    (∀ x : Nat, reqPid r = pSystemRollbackFloor → xs = [(x : Int)] → ∃ u, exec (.setRollbackFloor t mb) s = .next u ∧
      u.keys.otp = { s.keys.otp with rollback := max lo (min (clampNat lo (max lo (imgRollback s.cc.image)) x) 255) } ∧ kept u) ∧
    (∀ x : Nat, reqPid r = pSystemVendorRevoke → xs = [(x : Int)] → clampNat 0 3 x < s.cc.root → s.cc.image ≠ [] →
      ∃ u, exec (.setVendorRevoke t mb) s = .next u ∧
        u.keys.otp = { s.keys.otp with revoke := setBit s.keys.otp.revoke (clampNat 0 3 x) true } ∧ kept u) ∧
    (reqPid r = pSystemOwnerKeyHash → i = 0 → s.keys.otp.ownerDone = false →
      (padTo 48 (xs.map fun x => BitVec.ofNat 8 x.toNat)).all (· == 0) = false →
      ∃ u, exec (.setOwnerKeyHash t mb) s = .next u ∧ kept u ∧ u.keys.otp.ownerDone = true ∧
        u.keys.otp.owner = s.keys.otp.owner ||| leNat (padTo 48 (xs.map fun x => BitVec.ofNat 8 x.toNat))) ∧
    (∀ b, reqPid r = pSystemPufReenrol → xs = [1] → canReenrol w = true → freeBank s.keys.otp = some b →
      ∃ u, exec (.setPufReenrol t mb) s = .next u ∧ kept u ∧ u.keys.reenrolling = true ∧
        u.keys.otp.banks = setBit s.keys.otp.banks b true ∧ (∃ f ∈ u.flights, f.waits = .reenrol ∧ f.req = r)) ∧
    (reqPid r = pSystemDebugUnlock → xs ≠ [] →
      let key := padTo 97 (List.replicate i 0 ++ xs.map fun x => BitVec.ofNat 8 x.toNat)
      ∃ u, exec (.setDebugUnlock t mb) s = .next u ∧ kept u ∧ u.keys.challenge = (newChallenge w).keys.challenge ∧
        ((debugUnlock w key).1 = true → u.keys.unlocked = true ∧ u.keys.zeroised = true ∧ getProp u sysObj pSystemKeyringState = 3) ∧
        ((debugUnlock w key).1 = false → u.keys.unlocked = s.keys.unlocked ∧ u.keys.slots = s.keys.slots)) ∧
    (∀ pc : Nat, reqPid r = pSystemFsRelease → xs = [(pc : Int)] → pc ≤ 127 → fsState w pc = 2 →
      ∃ v, exec (.setFsRelease t mb) s = .next (setDone v r row sp) ∧ fsState v pc = 3 ∧ (∀ x ∈ v.snaps, x.pc ≠ pc) ∧ v.pcs = s.pcs ∧ v.frame = s.frame ∧ ctlPart v = ctlPart s ∧
        (∃ k, workOf v 1 pc = some k ∧ k.test = true)) ∧
    (∀ g : Nat, reqPid r = pSystemTallyRearm → xs = [(g : Int)] → g ≠ 0 → g ∈ s.tallyOff → mapSorted s.lamps = true →
      ∃ v, exec (.setTallyRearm t mb) s = .next (setDone v r row sp) ∧ g ∉ v.tallyOff ∧ mediaPart v = mediaPart s ∧ ctlPart v = ctlPart s ∧ v.props = s.props ∧
        ∀ l, l < 0x3000 → tallyGroup s l = g → (lampRt v l).cond = 2 ∧ (lampRt v l).forced = false)

/-- R124, R141, R177, R299, R327, R388: what a VX_SET of a route's head, a shaper's taps, a surface's frame, a ring's capture mode,
a cadence's grid and a key slot's label does. What rests on a choice of the model: log entries 115, 118, 119 and 162. -/
def Obligations.ObjectSettingsTakeEffect : Prop :=
  ∀ (t : Ticks) (mb : Fin 16) (s : State) (r : Request) (row : PropRow) (i : Nat) (xs : List Int),
    ReadySet (tickTo t s) mb.val r row i xs → mapSorted s.props = true →
    let w := taken t s mb.val
    let o := reqObj r
    let sp := spanOf row (reqPayload r) (reqCount r) 44
    (∀ h, objCls o = clsRoute → reqPid r = pRouteHead → h < 24 → xs = [(headObj h : Int)] → getProp s o pRouteState = 0 →
      hasPending s o = false →
      let v := stageValues (setProp w o pRouteHead 0 (headObj h)) h (routeRt s o).held
      exec (.setRouteHead t mb) s = .next (setDone (setRouteRt v o { routeRt s o with held := [] }) r row sp)) ∧
    (∀ x : Nat, objCls o = clsShaper → reqPid r = pShaperTapsV → 2 ≤ x → x ≤ 8 → xs = [(x : Int)] → hingeTarget w o = .now' →
      exec (.setTapsV t mb) s = .next (setDone (setProp w o pShaperTapsV 0 (min 8 ((x + 1) / 2 * 2) : Nat)) r row sp)) ∧
    (∀ (n : Nat) (f : Surf), objCls o = clsSurface → reqPid r = pSurfaceHostFrame → xs = [(n : Int)] → n ≤ 2 ^ 64 - 2 →
      surfOf s o = some f → f.ring = 0 → f.owner = .host → (∀ q ∈ s.objs, objCls q ≠ clsRoute) →
      exec (.setHostFrame t mb) s = .next (setDone
        (setSurf { setProp w o pSurfaceHostFrame 0 n with orders := s.orders + 1 } o
          { f with state := .complete, pend := none, order := s.orders + 1, done := s.orders + 1, doneAt := max s.now t,
                   copyA := ⟨hostRecord o n (max s.now t), true⟩, copyB := ⟨hostRecord o n (max s.now t), true⟩ }) r row sp)) ∧
    (∀ v, objCls o = clsRing → reqPid r = pRingCaptureMode → xs = [1] → ringPlayed s o = false → setCapture w o true = some v →
      exec (.setCaptureMode t mb) s = .next (finish s (settle (setDone v r row sp))) ∧ ∀ y, ringOf v o = some y → y.cap = .armed) ∧
    (∀ num den : Nat, objCls o = clsCadence → reqPid r = pCadenceRate → i = 0 → xs = [(num : Int), (den : Int)] →
      1 ≤ den → den ≤ 65535 → den ≤ num → num ≤ 1000 * den → cadenceUsers s o = 0 →
      ∃ v, exec (.setCadence t mb) s = .next (setDone v r row sp) ∧ getPropN v o pCadenceRate 0 = num ∧
        getPropN v o pCadenceRate 1 = den ∧ v.tb.pulses = mapDel s.tb.pulses (objInst o)) ∧
    (objCls o = clsKeyslot → reqPid r = pKeyslotDerive → 8 ≤ objInst o → objInst o < 32 → s.keys.reenrolling = false →
      getPropN s sysObj pSystemKeyringState ≤ 1 → xs ≠ [] →
      let v := setProps w o pKeyslotDerive i xs
      let p := hostPolicy v (objInst o)
      (hostLabel v (objInst o)).any (· != 0) = true →
      let u := setDone (postEvent (deriveHost (setProp v o pKeyslotDerive 32 p) (objInst o)) 0x1101 o (objInst o + p * 256)) r row sp
      exec (.setKeyslotDerive t mb) s = .next u ∧
        (slotOf u (objInst o)).key = .signing (hostInfo (hostLabel v (objInst o)) p) ∧ slotPolicy u (objInst o) = p)

/-! ### Requests that wait -/

/-- R43, R45, R46, R66, R306: at its deadline a request that waits completes with ABANDONED; an export gives its charge back, and a
commit is withdrawn, its values returning to the staging bank beneath those staged since. PROGRESS reports a long operation. An
export whose every frame has been moved writes it to the host and completes with the frames and bytes written, the next index and
the LOST frames among them. What rests on a choice of the model: log entries 36 and 87. -/
def Obligations.WaitingRequestsEnd : Prop :=
  (∀ (t : Ticks) (mb : Fin 16) (cnt : Count) (s : State) (f : Flight), Calm s → flightOf s mb.val cnt.toNat = some f →
     let w := tickTo t s
     (flightDue w f = true → f.waits = .payload →
       let v := withTaken (complete w f.req (cplStatus stAbandoned)) f.req id
       exec (.requestDeadlineExpiry t mb cnt) s = .next v ∧
       ((∀ h < 24, takenOf s h f.req = none) → v = complete w f.req (cplStatus stAbandoned)) ∧
       (∀ h < 24, ∀ x, takenOf s h f.req = some x → (headRt v h).staging = mapOver x.values (headRt s h).staging)) ∧
     (∀ o, flightDue w f = true → f.waits = .exportOf o → exec (.requestDeadlineExpiry t mb cnt) s = .next
       (complete { w with charges := mapDel s.charges (exportKey f.req.mb f.req.cnt) } f.req (cplStatus stAbandoned))) ∧
     (∀ h id c tag st, flightDue w f = true → f.cls = .hinge → f.waits = .commit h id → commitOf s h id = some c →
       c.src = .request mb.val cnt.toNat tag st → c.made = [] →
       let v := withdrawCommit w h c
       exec (.hingeDeadlineWithdraw t mb cnt) s = .next (complete v f.req
         { status := stAbandoned
           payload := commitPayload (getPropN s (headObj h) pHeadHingeCount) (lastHingeTime s (headObj h)) 4 (propCount c.values) }) ∧
       (headRt v h).staging = mapOver c.values (headRt s h).staging ∧ commitOf v h id = none) ∧
     (∀ th, f.cls = .long → exec (.progress t mb cnt th) s = .next (postEvent
       { w with flights := s.flights.map fun g => if g.req = f.req then { g with lastProgress := w.now } else g }
       0x1301 sysObj (min th 1000)))) ∧
  (∀ (t : Ticks) (o : ObjId) (s : State) (f : Flight) (r : Ring), Calm s → exportFlight s o = some f → ringOf s o = some r →
     let w := tickTo t s
     let e := exportReq r (reqPayload f.req)
     let all := exportFit w r e e.len e.count e.first (exportHead r e, 0, 0)
     (exportHead r e).length ≤ e.len → all.1 ≠ [] →
     all.1.length ≤ e.rate * min (w.now - f.req.start) (9 * secT + secT / 2) / secT →
     exec (.exportComplete t o) s = .next (complete
       { emit w (.hostWrite e.addr all.1) with charges := mapDel s.charges (exportKey f.req.mb f.req.cnt) } f.req
       { status := stOk, payload := toLe 4 all.2.1 ++ toLe 8 all.1.length ++ toLe 4 (e.first + all.2.1) ++ toLe 4 all.2.2 }))

/-- R33, R47, R52, R471: payload bytes that match their CRC go to the request's opcode, and others complete it with BAD_CHECK; where
an earlier request on the same object has still to take its effect, the request waits for its turn. A failed read is issued again
with a new tag while the budget lasts, and the request is abandoned when it ends; a late completion is discarded and counted. -/
def Obligations.DmaReadsDeliverPayloads : Prop :=
  ∀ (t : Ticks) (d : DmaRead) (s : State) (f : Flight), Calm s → s.dma.find? (fun x => x.tag == d.tag) = some d →
    flightOf s d.mb d.cnt = some f → f.waits = .payload → (∀ h < 24, takenOf s h f.req = none) →
    let w := tickTo t s
    let v := dropDma w d.tag
    (∀ data, crc32c (padTo d.len data) = d.crc → turnHeld s f.req = false → objectStands s f.req = true →
      exec (.dmaCompletion t d.tag .ok data) s = .next (finish s (settle (runBody v f.req (padTo d.len data)))) ∧
      (reqOpcode f.req = 0x01 → reqIndirect f.req = true →
        exec (.dmaCompletion t d.tag .ok data) s = .next (answer v f.req {} (padTo d.len data)))) ∧
    (∀ data, crc32c (padTo d.len data) = d.crc → turnHeld s f.req = true →
      ∃ g, exec (.dmaCompletion t d.tag .ok data) s = .next (finish s (settle { v with flights := g })) ∧
        ∀ x, x ∈ g ↔ (x ∈ s.flights ∧ x.req ≠ f.req) ∨ ∃ y ∈ s.flights, y.req = f.req ∧ x = { y with waits := .turn (padTo d.len data) }) ∧
    (∀ data, crc32c (padTo d.len data) ≠ d.crc →
      exec (.dmaCompletion t d.tag .ok data) s = .next (complete v f.req (cplStatus stBadCheck))) ∧
    (∀ st data, st ≠ .ok → w.now < d.budgetEnd → (freeTag v).isSome = true →
      exec (.dmaCompletion t d.tag st data) s = .next (issueDma v f.req d.budgetEnd)) ∧
    (w.now < d.budgetEnd → (freeTag { v with dmaLate := s.dmaLate ++ [d.tag] }).isSome = true →
      exec (.dmaCompletionTimeout t d.tag) s = .next (issueDma { v with dmaLate := s.dmaLate ++ [d.tag] } f.req d.budgetEnd)) ∧
    (∀ (mb : Fin 16) (cnt : Count), d.mb = mb.val → d.cnt = cnt.toNat → d.budgetEnd ≤ w.now →
      s.dma.find? (fun x => x.mb == d.mb && x.cnt == d.cnt) = some d →
      exec (.dmaRetryBudgetEnd t mb cnt) s = .next (complete w f.req (cplStatus stAbandoned))) ∧
    (∀ tag st data, s.dma.find? (fun x => x.tag == tag) = none → tag ∈ s.dmaDead →
      exec (.dmaCompletion t tag st data) s = .next (lateDiscard { w with dmaDead := s.dmaDead.erase tag }))

/-! ### Heads -/

/-- R57, R60, R64, R73, R75: staging completes with the next order of its head. A bank of a stopped head applies at once, or at its
release time; one that completes in the brace state is held, and one that missed its hinge is late. What rests on a choice of the
model: log entry 12. -/
def Obligations.StagingCompletes : Prop :=
  ∀ (t : Ticks) (h : Fin 24) (id : Nat) (s : State) (c : Commit), Calm s → commitOf s h.val id = some c →
    let w := tickTo t s
    let n := (headRt s h.val).nextOrder + 1
    let v := updCommit (updHead w h.val fun x => { x with nextOrder := n }) h.val id fun d => { d with staged := some w.now, order := n }
    let c' := { c with staged := some w.now, order := n }
    (c.staged = none → headIdle s h.val = false → s.hif.brace = false → c.missed = none →
      exec (.commitStagingComplete t h id) s = .next v) ∧
    (c.staged = none → headIdle s h.val = false → s.hif.brace = true →
      exec (.commitStagingComplete t h id) s = .next (updCommit v h.val id fun d => { d with held := true })) ∧
    (∀ m, c.staged = none → headIdle s h.val = false → s.hif.brace = false → c.missed = some m → c.release = none →
      exec (.commitStagingComplete t h id) s = .next (raiseLate (updCommit v h.val id fun d => { d with late := some 0 }) h.val c' 0
        (linesBetween s (headObj h.val) m w.now))) ∧
    (c.staged = none → headIdle s h.val = true → c.release = none →
      exec (.commitStagingComplete t h id) s = .next (finish s (settle (applyIdle v h.val c')))) ∧
    (∀ T, c.release = some T → c.staged ≠ none → headIdle s h.val = true →
      exec (.groupReleaseTime h id) s = .next (finish s (settle (applyIdle (tickTo T s) h.val c)))) ∧
    (∀ T, c.release = some T → c.staged = none → exec (.groupReleaseTime h id) s = .next (tickTo T s))

/-- R59, R62, R225: on a head with nothing to compose, a hinge takes its instant from the raster, counts, and leaves the frame to
prefetch; at H₀ a starting head becomes RUNNING. -/
def Obligations.HingesAreCounted : Prop :=
  ∀ (h : Fin 24) (bad : List Nat) (s : State), Calm s → s.objs = [] → s.surfs = [] → s.works = [] → s.power.ageMoves = [] →
    placeGloved s (47 + h.val) = false → (headRt s h.val).commits = [] → (headRt s h.val).holdSurf = 0 →
    headPorts s (headObj h.val) = [] → getProp s (headObj h.val) pHeadRun = 1 → getProp s (headObj h.val) pHeadStillAfter = 0 →
    mapSorted s.props = true →
    let o := headObj h.val
    let x := headRt s h.val
    let after (u : State) : Prop :=
      u.now = max s.now x.nextHinge ∧ getProp u o pHeadHingeCount = (getProp s o pHeadHingeCount + 1) % 18446744073709551616 ∧
      getProp u o pHeadHingeTime 0 = secOf x.nextHinge ∧ getProp u o pHeadHingeTime 1 = nsFracOf x.nextHinge ∧
      (headRt u h.val).lastHinge = some x.nextHinge ∧ (headRt u h.val).prevHinge = x.frameHinge ∧
      (headRt u h.val).prefetched = false ∧ (headRt u h.val).underLines = 0 ∧ (headRt u h.val).commits = []
    (getProp s o pHeadRasterState = 2 → ∃ u, exec (.hinge h bad) s = .next u ∧ after u) ∧
    (getProp s o pHeadRasterState = 1 → ∃ u, exec (.headStartH0 h) s = .next u ∧ after u ∧
      getProp u o pHeadRasterState = 2 ∧ (headRt u h.val).lineZero = x.lineZero)

/-- R226, R231, R240, R241, R242: BLANK_START, LINE_MATCH and FRAME_DONE carry the count of the frame's hinge and the instant of the
raster; an underrun is counted on its head and its layer, and the first of a frame is reported with its line and pixel. Line 0 ends
retiming with RASTER_STATE RUNNING, and prefetch of the next frame starts at H+1L, once: the head requests what the frame needs. Each
event is raised once at its instant, BLANK_START before a LINE_MATCH of the same instant. What rests on a choice of the model: log
entries 21 and 159. -/
def Obligations.DisplayFollowsTheRaster : Prop :=
  (∀ (h : Fin 24) (s : State), Calm s → headShows s h.val = true →
     let o := headObj h.val
     let x := headRt s h.val
     let on (bit : Nat) : Bool := bitOf (getPropN s o pHeadDisplayEvents) bit
     let low (n : Nat) : Nat := n % 2 ^ 32 * 2 ^ 32
     let eb := nextLine s h.val (getPropN s o pHeadRaster 1)
     let m := getPropN s o pHeadMatchLine
     let em := nextLine s h.val m
     let raised (u : State) (bit : Nat) (e : Ticks) : State := updHead u h.val fun y => { y with lines := mapPut y.lines bit e }
     let b := if em.1 = eb.1 then blankStep s h.val else s
     (on 0 = true → mapGet x.lines 0 ≠ some eb.1 →
       exec (.blankStart h) s = .next (postAt (raised s 0 eb.1) eb.1 0x0702 o (low eb.2))) ∧
     (on 0 = false ∨ mapGet x.lines 0 = some eb.1 → exec (.blankStart h) s = .next (tickTo eb.1 s)) ∧
     (on 1 = true → mapGet x.lines 1 ≠ some em.1 →
       exec (.lineMatch h) s = .next (postAt (raised b 1 em.1) em.1 0x0703 o (low em.2 + m))) ∧
     (on 1 = false ∨ mapGet x.lines 1 = some em.1 → exec (.lineMatch h) s = .next (tickTo em.1 b)) ∧
     (x.capturing = false → headPorts s o = [] →
       let e := pixelAt s o x.lineZero (getPropN s o pHeadRaster 1 - 1) (getPropN s o pHeadRaster 0)
       let v := updHead (tickTo e s) h.val fun y => { y with picture := frameGrids s h.val, pictureUnder := y.underAt }
       (on 2 = true → exec (.frameDone h) s =
         .next (postAt v e 0x0704 o (low x.frameHinge + x.underLines % 65536 + bit01 x.fromHold * 65536))) ∧
       (on 2 = false → exec (.frameDone h) s = .next (tickTo e v))) ∧
     (∀ line pixel position l, (headLayers s h.val)[position]? = some l → getProp s l pLayerVisible = 1 → getProp s l pLayerCovered = 0 →
       showsFrame s l = true → x.fromHold = false → line < getPropN s o pHeadRaster 1 → pixel < getPropN s o pHeadRaster 0 →
       rectEmpty (layerRects s h.val l).1 = false → x.underAt = [] → x.underLines = 0 →
       let v := updHead (bumpProp (bumpProp s o pHeadUnderrunCount) l pLayerUnderruns) h.val fun y =>
         { y with underAt := y.underAt ++ [(line, pixel)], underLines := y.underLines + 1, captureUnder := y.captureUnder || y.capturing }
       exec (.underrun h line pixel position) s = .next (postAt v (pixelAt s o x.lineZero line pixel) 0x0705 o
         (low x.frameHinge + line % 2 ^ 14 + pixel % 2 ^ 14 * 2 ^ 14 + position % 16 * 2 ^ 28)))) ∧
  (∀ (h : Fin 24) (s : State), Calm s →
     let o := headObj h.val
     let w := tickTo (headRt s h.val).lineZero s
     let v := setProp w o pHeadRasterState 0 2
     (getProp s o pHeadRasterState = 3 → headPorts s o = [] → mapSorted s.props = true →
       exec (.retimeLineZero h) s = .next (postEvent v 0x0707 o (getPropN s o pHeadHingeCount % 2 ^ 32 * 2 ^ 32 + 2))) ∧
     (getProp s o pHeadRasterState = 2 ∨ getProp s o pHeadRasterState = 3 →
       let a := replayResume (tickTo (afterHinge s h.val) s) h.val
       ((headRt s h.val).prefetched = true → exec (.prefetchStart h) s = .next a) ∧
       ((headRt s h.val).prefetched = false →
         exec (.prefetchStart h) s = .next (fetchFrame (updHead a h.val fun x => { x with prefetched := true }) h.val))))

/-! ### Ingress -/

/-- R84 to R86: the state of a lane outside the Hinge Links. A CDR lock begins the hunt, two valid markers 16,386 words apart lock it
with their fields, as the descrambler gives them from the 58 bits before, a valid marker clears the count of missing ones, the
fourth missing in a row sends the lane back to the hunt while its CDR is locked, and a CDR unlock takes it down with the link of the
port that uses it. -/
def Obligations.LanesFollowTheirMarkers : Prop :=
  ∀ (t : Ticks) (l : Fin 96) (s : State), Calm s → (∀ n, n < 5 → (hlLanesOf s n).contains l.val = false) →
    let w := tickTo t s
    let x := laneOf s l.val
    (x.state = .down → exec (.laneCdrLock t l) s = .next (setLane w l.val { lane0 with cdr := true, state := .hunt })) ∧
    (x.state ≠ .down → exec (.laneCdrLock t l) s = .next (setLane w l.val { x with cdr := true })) ∧
    (laneUser s l.val = none → exec (.laneCdrUnlock t l) s = .next (setLane w l.val lane0)) ∧
    (∀ p i, laneUser s l.val = some (p, i) → getProp s p pPortInKind = 1 → bitOf (portIn s p).linkUp i = true →
      exec (.laneCdrUnlock t l) s = .next (portLoss (setPortIn (setLane w l.val lane0) p { portIn s p with
        linkUp := setBit (portIn s p).linkUp i false, synced := setBit (portIn s p).synced i false }) p 0 l.val)) ∧
    (∀ (w0 w1 : Word) (gap : MarkerGap) (skew : Nat), laneUser s l.val = none →
      let m := markerWords w0.toNat w1.toNat gap
      let z := { x with shift := m.2, words := 0 }
      let y := markerFields z m.1.1 m.1.2 skew
      markerOk (markerSig s l.val) m.1.1 m.1.2 = true →
      (x.state = .hunt → ¬(x.good = true ∧ gap.words = 16386) →
        exec (.alignmentMarker t l w0 w1 gap skew) s = .next (setLane w l.val { y with inverted := false, good := true })) ∧
      (x.state = .hunt → x.good = true → gap.words = 16386 → exec (.alignmentMarker t l w0 w1 gap skew) s =
        .next (setLane w l.val { y with inverted := false, state := .locked, good := false, missed := 0, marks := 0 })) ∧
      (x.state = .locked → x.inverted = false → gap.words = 16386 → exec (.alignmentMarker t l w0 w1 gap skew) s =
        .next (setLane w l.val { y with missed := 0, marks := x.marks + 1 }))) ∧
    (x.state = .locked → x.missed < 3 →
      exec (.markerLoss t l) s = .next (setLane w l.val { x with missed := x.missed + 1, marks := x.marks + 1 })) ∧
    (x.state = .locked → 3 ≤ x.missed → laneUser s l.val = none → exec (.markerLoss t l) s = .next (setLane w l.val (downLane x))) ∧
    (downLane x).state = (if x.cdr then .hunt else .down)

/-- R87, R89, R90, R91: on a link that is up, the receiver takes the link words that the lanes carry. A valid FRAME_START with a new
counter opens a frame with that number, whose capture starts with link 0; a LINE of the open frame is written and noted; a FRAME_END
notes its link, and closes the frame once every link and line is in; a header that fails its checks is counted, and the receiver
hunts again. What rests on a choice of the model: log entries 53 and 150. -/
def Obligations.MslPacketsMakeFrames : Prop :=
  ∀ (t : Ticks) (port : Fin 128) (link : Nat) (header payload : LaneWords) (hd pay : List Nat) (s : State), Calm s → s.works = [] →
    let p := objId clsPortIn port.val
    let counter := atD hd 1 0 + atD hd 2 0 * 2 ^ 32
    MslLinkUp s p link →
    let w := tickTo t s
    let brings (lanes : LaneWords) := linkWords w (atD (portIn s p).runs link []) (laneNats lanes)
    let sync (b : Bool) (u : State) : State := updPortIn u p fun x => { x with synced := setBit x.synced link b }
    (MslHeader 1 hd → (brings header).1 = hd → (portIn s p).opened = none → (portIn s p).lastCounter ≠ some counter →
      ∃ u f, exec (.mslFrameStart t port link header) s = .next u ∧ (portIn u p).opened = some f ∧ f.number = counter ∧
        f.starts = 2 ^ link ∧ f.ends = 0 ∧ f.lines = [] ∧ (portIn u p).lastCounter = some counter ∧
        f.tfs = if link = 0 then some (stampOf w.now) else none) ∧
    (∀ f o g, MslHeader 2 hd → (brings (joinLanes header payload)).1 = hd ++ pay → pay.length = bitsOf (atD hd 0 0) 31 16 →
      (portIn s p).opened = some f → f.surface = some o → surfOf s o = some g → surfFits s p g = true →
      bitsOf (atD hd 0 0) 31 16 = ceilDiv (f.width * 12) 32 → bitsOf (atD hd 2 0) 15 0 < f.height →
      bitsOf (atD hd 2 0) 15 0 % max (getPropN s p pPortInLinks) 1 = link → atD hd 1 0 = f.number % 2 ^ 32 → mslWhole s p f = false →
      let line := bitsOf (atD hd 2 0) 15 0
      lineWritten s p f.turn line = true →
      let m := (surfPlanes g).foldl (fun m pl => writeLine m g pl line (mslSamples f.width pay)) s.frame
      exec (.mslLine t port link header payload) s = .next (updPortIn
        { sync true (brings (joinLanes header payload)).2 with frame := m } p fun x =>
          { x with opened := some { f with lines := if f.lines.contains line then f.lines else f.lines ++ [line] } })) ∧
    (∀ f, MslHeader 3 hd → (brings header).1 = hd → (portIn s p).opened = some f → atD hd 1 0 = f.number % 2 ^ 32 →
      bitOf (atD f.header 6 0) 12 = false →
      let f' := { f with ends := f.ends ||| 2 ^ link }
      let u := updPortIn (sync true (brings header).2) p fun x => { x with opened := some f' }
      (mslWhole s p f' = false ∨ f.lines.length < f.height → exec (.mslFrameEnd t port link header) s = .next u) ∧
      (mslWhole s p f' = true → f.height ≤ f.lines.length →
        exec (.mslFrameEnd t port link header) s = .next (closeWritten u p f' 0))) ∧
    ((brings (joinLanes header payload)).1 = hd → bitsOf (atD hd 0 0) 7 0 = 0xD5 → bitsOf (atD hd 0 0) 15 8 = 2 → hd.length = 4 →
      crc32c (wordBytes hd.dropLast) ≠ hd.getLastD 0 →
      exec (.mslLine t port link header payload) s =
        .next (bumpProp (sync false (brings (joinLanes header payload)).2) p pPortInHdrErrors))

/-- R92, R93, R96, R98, R99: what SDI, Ethernet and ST 2110 ports count of what arrives, and how each declares the loss of its signal.
What rests on a choice of the model: log entries 46 and 50. -/
def Obligations.OtherPortsReceive : Prop :=
  ∀ (t : Ticks) (port : Fin 128) (s : State), Calm s →
    let p := objId clsPortIn port.val
    let w := tickTo t s
    let x := portIn s p
    let lost (cause : Nat) : State :=
      setPortState (updPortIn (postEvent w 0x0101 p (cause + 255 * 256)) p fun x =>
        { x with lost := true, skipFrom := none, timestamp := none, buffer := [], nextSeq := none }) p 1
    getProp s p pPortInState ≠ 0 →
    (∀ g : SdiFrame, getProp s p pPortInKind = 2 → exec (.sdiFrameStart t port g) s = .next (finish s (settle (sdiFrame w p g)))) ∧
    (∀ g : SdiFrame, getProp s p pPortInKind = 2 → sdiAccepts s p g = true → g.payloadId = true → g.scan = 2 → g.anc = [] →
      g.bits = 10 → exec (.sdiFrameStart t port g) s = .next (setPortState (setProps (updPortIn
        (bumpProp (bumpProp w p pPortInStdCheckErrors 0 g.crcErrors) p pPortInStdCheckErrors 1 0) p fun y => { y with lost := false })
        p pPortInMeasured 0 [(g.width : Int), g.height, measuredFormat s p g.format, 2]) p 4)) ∧
    (∀ g : SdiFrame, getProp s p pPortInKind = 2 → sdiAccepts s p g = false → exec (.sdiFrameStart t port g) s = .next w) ∧
    (getProp s p pPortInKind = 2 → x.lost = false → x.opened = none → exec (.sdiTrsLoss t port) s = .next (lost 4)) ∧
    (∀ (ok : Bool) (bad : Nat) (k : MacKind), getProp s p pPortInKind = 3 →
      let v := bumpProp (if ok then w else bumpProp w p pPortInStdCheckErrors 0) p pPortInStdCheckErrors 2 bad
      exec (.macFrame t port ok bad k) s = .next (match k with
        | .arpQuery => emit v (.netReply p false) | .igmpQuery => emit v (.netReply p true) | _ => v)) ∧
    (∀ (k : RtpPacket) (f : OpenFrame), getProp s p pPortInKind = 4 → getProp s p pPortInState = 2 → legUsed s p k.leg = true →
      legUsed s p 1 = false → getProp s p pPortInPathState k.leg = 1 → x.buffer = [] → x.nextSeq = some (k.seq % 65536) →
      x.timestamp = some k.timestamp → x.opened = some f → k.marker = false → k.samples ≠ [] → mapGet f.rows k.offset = none →
      k.anc = [] → k.checkFailed = false →
      let vals := k.samples.map (mapSample k.bits)
      exec (.rtpPacket t port k) s = .next (setPortIn (bumpProp w p pPortInStdCheckErrors 1 0) p { x with
        legSeen := x.legSeen.set k.leg (some w.now), nextSeq := some ((k.seq + 1) % 65536)
        opened := some { f with rows := mapPut f.rows k.offset vals, got := f.got + vals.length } })) ∧
    (∀ (leg : Fin 2) (seen : Ticks), atD x.legSeen leg.val none = some seen → seen + 10 * msT ≤ w.now →
      getProp s p pPortInPathState leg.val = 1 →
      exec (.pathTimeout t port leg) s = .next (postEvent (setProp w p pPortInPathState leg.val 0) 0x0106 p leg.val)) ∧
    (∀ last, getProp s p pPortInState = 2 → getProp s p pPortInKind = 1 ∨ getProp s p pPortInKind = 2 → x.lost = false →
      x.opened = none → x.starts.head? = some last → last + getPropN s p pPortInLossTimeout * usT ≤ w.now →
      exec (.lossTimeout t port) s = .next (lost 3))

/-- R13, R14, R114: when copy B of its record is accepted and a copy of it is good, a frame is complete: it takes the next order, and
both copies hold its record; its port counts it. With both copies bad it is not complete, and its surface holds no frame. -/
def Obligations.FramesBecomeComplete : Prop :=
  ∀ (t : Ticks) (o : ObjId) (a b : Bool) (s : State) (f : Surf) (rc : FrameRec), Calm s → s.objs = [] → surfOf s o = some f →
    f.pend = some rc → f.state = .writing → ringOf s f.ring = none →
    let w := tickTo t s
    (a = false → b = false → objCls rc.source ≠ clsPortIn → exec (.frameComplete t o a b) s = .next (setSurf w o { f with
      state := if surfLost f then .lost else .empty, wasLost := false, pend := none, copyA := ⟨rc, false⟩, copyB := ⟨rc, false⟩ })) ∧
    let v := setSurf { w with orders := s.orders + 1 } o { f with
      state := .complete, pend := none, done := s.orders + 1, doneAt := w.now, copyA := ⟨rc, a⟩, copyB := ⟨rc, b⟩ }
    (a = true ∨ b = true → objCls rc.source ≠ clsPortIn → exec (.frameComplete t o a b) s = .next v) ∧
    (∀ m, a = true ∨ b = true → objCls rc.source = clsPortIn → (portIn s rc.source).closing = [(o, none, m)] → bitOf rc.flags 0 = true →
      exec (.frameComplete t o a b) s =
        .next (wrapProp (setPortIn v rc.source { portIn s rc.source with closing := [] }) rc.source pPortInFrames))

/-! ### Stages of routes -/

/-- R138, R140, R179, R308: a source-paced stage takes its waiting frame with a lease and a surface of its ring, and the job's end
writes what the pixel pipeline makes of the input and leaves the stage free. The frame that a playing route has selected is offered
to its first stage at H+1L, once; a stopping route enters IDLE when its last job ends, giving up its shared slices. -/
def Obligations.RoutesOfferShapeAndStop : Prop :=
  (∀ (t : Ticks) (r : ObjId) (i : Fin 4) (s : State), Calm s → i.val < (routeRt s r).stages.length →
     let w := tickTo t s
     let x := stageRt s r i.val
     (∀ g o f rc out v, (routeStages s r)[i.val]? = some g → g.kind = 1 → getProp s r pRouteState = 1 → x.waiting = some o →
       stageBusy x = false → surfOf s o = some f → f.ring ≠ 0 → leaseable s f = true → surfFrame f = some rc →
       writerClaim w g.ring = some (out, v) →
       ∃ u j, exec (.shapeJobStart t r i) s = .next u ∧ (stageRt u r i.val).job = some j ∧ (stageRt u r i.val).waiting = none ∧
         j.input = o ∧ j.output = out ∧ j.rcd = rc ∧ j.start = w.now ∧ j.unit = atD g.units 0 0 ∧
         ∃ f', surfOf u o = some f' ∧ Holder.job r i.val ∈ f'.leases) ∧
     (∀ j fi fo, x.job = some j → j.lost = false → j.input ≠ j.output → surfOf s j.input = some fi → surfOf s j.output = some fo →
       ∃ u, exec (.shapeJobEnd t r i) s = .next u ∧ (stageRt u r i.val).job = none ∧
         surfOf u j.input = some { fi with leases := fi.leases.erase (.job r i.val) } ∧
         surfOf u j.output = some { fo with pend := some { shapeRecord r j with surface := j.output, position := fo.position } } ∧
         u.frame = writeSurf s.frame fo (shapeFrame (paramsOf j.unit j.params) j.taps j.rcd.frame
           x.toneLs fi.format fi.width fi.height fo.format fo.width fo.height (readSurf s.frame fi)).planes)) ∧
  (∀ (t : Ticks) (r : ObjId) (s : State), Calm s →
     let x := routeRt s r
     (∀ h o, getProp s r pRoutePlay = 1 → getProp s r pRouteState = 1 → routeStages s r ≠ [] →
       headIdx (getPropN s r pRouteHead) = some h → x.selected = some o → x.offered ≠ some o →
       exec (.playbackOffer r) s = .next
         (offerFrame (setRouteRt (tickTo (afterHinge s h) s) r { x with offered := some o }) r 0 o)) ∧
     (getProp s r pRouteState = 2 → routeBusy s r = false → x.removed = false → (∀ o ∈ x.units.flatten, o ≠ r) →
       mapSorted s.props = true →
       ∃ u, exec (.routeLastJobEnd t r) s = .next u ∧ getProp u r pRouteState = 0 ∧ (∀ z ∈ u.slices, z.owner = r → resWaits s z = true) ∧
         (routeRt u r).ringsHeld = []))

/-- R139, R208, R210, R211, R215: a CONVERT job starts at H+1L of the hinge that it serves, its folds run one at a time in the order
in which they were decided, its cut-off ends the decisions, and the finishing pass writes the frame and releases every input. What
rests on a choice of the model: log entries 146 and 147. -/
def Obligations.ConvertJobsRun : Prop :=
  ∀ (t : Ticks) (r : ObjId) (i : Nat) (g : StageCfg) (s : State), Calm s → convStage s r = some (i, g) →
    i < (routeRt s r).stages.length →
    let w := tickTo t s
    let x := stageRt s r i
    let h := getPropN s r pRouteHead
    (∀ tk out, (headRt s (objInst h)).lastHinge = some tk → picOf s g.ring = some out → getProp s r pRouteState = 1 →
      getProp s h pHeadRasterState ≠ 0 → x.conv = none → x.job = none →
      ∃ u j, exec (.convertJobStart r) s = .next u ∧ (stageRt u r i).conv = some j ∧ j.tk = tk ∧ j.tNext = tk + framePeriod s h ∧
        j.hinge = headCount s h ∧ j.cut = false ∧ u.now = max s.now (afterHinge s (objInst h))) ∧
    (∀ j, x.conv = some j → j.ended = false → j.foldingNow = none → j.cut = false → j.queue ≠ [] →
      exec (.convertFold t r) s = .next (putJob w r i { j with foldingNow := some 0 })) ∧
    (∀ j k q qs, x.conv = some j → j.foldingNow = some k → j.queue = q :: qs →
      ∃ u j', exec (.convertFoldEnd t r) s = .next u ∧ (stageRt u r i).conv = some j' ∧ j'.folded = j.folded ++ [q] ∧
        j'.accSum = j.accSum + q.2.2 ∧ j'.foldingNow = none ∧ j'.queue = if j.cut then [] else qs) ∧
    (∀ j, x.conv = some j → j.cut = false → j.ended = false → j.mode ≠ 3 → j.mode ≠ 4 →
      ∃ u j', exec (.convertCutoff r) s = .next u ∧ (stageRt u r i).conv = some j' ∧ j'.cut = true ∧ j'.decided = true ∧
        j'.queue = j.queue.take 1 ∧ u.now = max s.now j.tCut.toNat) ∧
    (∀ j, x.conv = some j → j.ended = false → j.finishing = true →
      ∃ u j', exec (.convertFinishEnd t r) s = .next u ∧ (stageRt u r i).conv = some j' ∧ j'.ended = true ∧ j'.inputs = [] ∧
        (∀ o f m, j.mode = 0 → j.lost = false → j.output = some o → surfOf s o = some f →
          mixFrames s j f.format f.width f.height = some m → m.2.2.1 = false →
          ∃ f', surfOf u o = some f' ∧
            f'.pend = some { convRecord s r j (latestFrame m.2.2.2) with surface := o, position := f.position })) ∧
    (∀ j o f rc, x.past = [] → x.conv = some j → surfOf s o = some f → surfFrame f = some rc → j.ring = f.ring → j.cut = true →
      j.tCut < (f.doneAt : Int) → lateUse j rc f.done = true →
      exec (.tconvLateInput t r o) s = .next (countLate w r i (atD g.units 0 0) j.hinge 1))

/-! ### Egress -/

/-- R251, R252, R254 to R256: ANC_COPY takes the packets of the newest complete frame once, and those that do not fit, and a copy that
fails, are counted; packet k of a line leaves with the timestamp of its frame's hinge, evenly spaced in the line after, the marker on
the last; each leg that is up sends it with the same sequence number. Every line of an SDI stream begins with its timing reference,
and its CRC covers the words that go before it. What rests on a choice of the model: log entries 29, 30 and 177. -/
def Obligations.PortsSendTheirFrames : Prop :=
  (∀ (t : Ticks) (port : Fin 128) (s : State), Calm s →
    let p := objId clsPortOut port.val
    let w := tickTo t s
    let x := outOf s p
    getProp s p pPortOutState = 2 →
    (∀ r o f rc, getProp s p pPortOutKind = 1 ∨ getProp s p pPortOutKind = 4 → x.ancRing ≠ 0 → ringOf s x.ancRing = some r →
      ringNewest s r = some (o, f, rc) →
      let bytes := memRead s.frame f.base (min f.size 65544)
      let fit := ancFit (lineRaster s p)
        (ancRecords (min (fieldAt bytes 4 4 % 2 ^ 31) 8192) ((bytes.drop 8).take (min (fieldAt bytes 0 4) 65536))) []
      exec (.ancCopy t ⟨port, false⟩) s = .next (bumpProp (setOut w p { x with anc := [] }) p pPortOutAncSkipped) ∧
      (x.lastAnc = some rc.frame → exec (.ancCopy t ⟨port, true⟩) s = .next (setOut w p { x with anc := [] })) ∧
      (x.lastAnc ≠ some rc.frame → exec (.ancCopy t ⟨port, true⟩) s =
        .next (bumpProp (setOut w p { x with anc := fit.1, lastAnc := some rc.frame }) p pPortOutAncSkipped 0 fit.2))) ∧
    (∀ line packet, x.silentTo ≤ w.now → getProp s p pPortOutKind = 2 →
      let f := sentFrame w p
      let v := (portRaster s p).1.2.1
      let n := linePackets s p
      let sampling := getPropN s p pPortOutSampling
      let m := samplingOf sampling
      (packet < n → line < v → exec (.st2110PacketSend t port line packet) s =
        .next (sendLegs (tickTo (packetAt w p f.zero n line packet) w) p (rtpTime f.hinge) (decide (line + 1 = v ∧ packet + 1 = n)) fun seq =>
          videoPayload seq line m.2.2 n packet (pixelGroup sampling)
            (lineSamples m.1 m.2.1 (portPlanes w p f.grids (portGaps w p f.zero f.under)) line))) ∧
      (n ≤ packet ∨ v ≤ line → exec (.st2110PacketSend t port line packet) s = .next w)) ∧
    (∀ line k as, x.silentTo ≤ w.now → getProp s p pPortOutKind = 4 →
      let runs := ancGroups (getPropN s p pPortOutPacketSize - 20) (frameAnc w p) 0 []
      runs[k]? = some as → exec (.st2110PacketSend t port line k) s =
        .next (sendLegs w p (rtpTime x.hinge) (decide (k + 1 = runs.length)) fun seq => ancFlowPayload seq as)) ∧
    (∀ ts marker payload, getPropN s p pPortOutParent 1 = 0 →
      let e := getPropN s p pPortOutParent 0
      (e = 0 ∨ getProp s e pPortInState = 0 → sendLegs w p ts marker payload = setOut w p { x with seq := (x.seq + 1) % 2 ^ 32 }) ∧
      (e ≠ 0 → getProp s e pPortInState ≠ 0 → sendLegs w p ts marker payload =
        setOut (emit w (.packet p 0 (netHeader w p 0) (x.seq % 65536) ts marker (payload x.seq))) p
          { x with seq := (x.seq + 1) % 2 ^ 32 }))) ∧
  (∀ (g : SdiPicture) (line j crc : Nat),
    let r := streamLine g line j crc
    r.1.take 4 = trsWords (g.psf && decide (564 ≤ line)) (activeOn g.psf g.vAct g.vTot line).isNone true ∧
    (r.1.drop 4).take 2 = lineNumberWords line ∧ (r.1.drop 6).take 2 = crcWords (crc18 crc (r.1.take 6)))

/-- R248, R257, R258: the DisplayPort link on a pin set trains when hot-plug detect rises, on IRQ_HPD, and again 100 ms after it could
not be trained; it comes up on the first configuration that carries the stream, is reported either way, and goes when hot-plug detect
has been low for 2 ms. -/
def Obligations.DisplayPortLinksTrain : Prop :=
  ∀ (t : Ticks) (port : Fin 128) (pins : Fin 16) (s : State), Calm s →
    let p := objId clsPortOut port.val
    let w := tickTo t s
    let x := outOf s p
    let y := dpPinsOf s pins.val
    pinPorts s pins.val = [p] →
    (let v := setDpPins w pins.val { y with hpd := true }
     ((dpChoose v p).isSome = true → exec (.dpHpdRise t pins) s = .next (dpTrain v p 5)) ∧
     (dpChoose v p = none → exec (.dpHpdRise t pins) s = .next (evalOut v p 5))) ∧
    (let v := setDpPins w pins.val dpPins0
     exec (.dpHpdLow t pins) s = .next (setOutState (setProp (setProp v p pPortOutDpLink 0 0) p pPortOutDpLink 1 255) p 5 5)) ∧
    (y.hpd = true → (dpChoose s p).isSome = true → exec (.dpIrqHpd t pins) s = .next (dpTrain w p 5)) ∧
    (y.hpd = false → exec (.dpIrqHpd t pins) s = .next w) ∧
    (∀ r : DpResult, getProp s p pPortOutState = 4 →
      let v := setDpPins w pins.val { y with sink := some (r.lanes, r.rate), sinkReplay := r.panelReplay, resync := r.resync }
      (dpChoose v p = none → exec (.dpLink t port r) s = .next (setOutState v p 3 4)) ∧
      (∀ c, dpChoose v p = some c → r.success = false → exec (.dpLink t port r) s =
        .next (postEvent (setOut v p { x with failedAt := some w.now }) 0x0202 p (c.1 + c.2 * 16))) ∧
      (∀ c, dpChoose v p = some c → r.success = true → r.panelReplay = false → exec (.dpLink t port r) s = .next (evalOut
        (postEvent (setProp (setProp v p pPortOutDpLink 0 c.1) p pPortOutDpLink 1 c.2) 0x0202 p (c.1 + c.2 * 16 + 256)) p x.why))) ∧
    (∀ e, x.failedAt = some e → e + 100 * msT ≤ w.now → getProp s p pPortOutState = 4 → (dpChoose s p).isSome = true →
      exec (.dpTrainingRetry t port) s = .next (dpTrain w p x.why)) ∧
    (∀ e, x.failedAt = some e → w.now < e + 100 * msT → exec (.dpTrainingRetry t port) s = .next w)

/-- R260 to R265: a read-back sample of a lane that sends is compared, its mismatches are counted on the lane's core and reported at
most once per millisecond, and the one with which a window reaches the threshold declares the lane faulty; a faulty lane takes a
spare core, or is reported when there is none; the switchover changes the lane's core, gloves the old one and reports both. What
rests on a choice of the model: log entries 44 and 180. -/
def Obligations.LanesAreSpared : Prop :=
  ∀ (t : Ticks) (l : Fin 96) (word : Nat) (sent : Word) (seen : List Bool) (s : State), Calm s →
    let w := tickTo t s
    let c := coreOf s l.val
    let x := laneTxOf s l.val
    let n := sampleMisses s l.val word sent seen
    let v := bumpProp w sysObj pSystemRbMismatches c n
    let before := if x.window = word / 256 then x.hits else 0
    let limit := getPropN s sysObj pSystemRbThreshold
    let y := { x with window := word / 256, hits := before + n, since := x.since + n }
    let sample : LaneSample := ⟨l, word, sent, seen⟩
    (laneSends s l.val = false ∨ n = 0 → exec (.laneMismatch t sample) s = .next w) ∧
    (laneSends s l.val = true → n ≠ 0 → ¬(before < limit ∧ limit ≤ before + n) →
      ((∀ e, x.lastEvt = some e → e + msT ≤ w.now) → exec (.laneMismatch t sample) s = .next (postEvent
        (setLaneTx v l.val { y with since := 0, lastEvt := some w.now }) 0x1310 sysObj (l.val + c * 256 + y.since % 2 ^ 32 * 65536))) ∧
      (∀ e, x.lastEvt = some e → w.now < e + msT → exec (.laneMismatch t sample) s = .next (setLaneTx v l.val y))) ∧
    (laneSends s l.val = true → before < limit → limit ≤ before + n →
      exec (.laneMismatch t sample) s = .next (laneFault (setLaneTx v l.val y) l.val 0) ∧
      exec (.laneFaultDeclare t l (.readBack word sent seen)) s = .next (laneFault (setLaneTx v l.val y) l.val 0)) ∧
    (let f := faultEvent w 0 c 5
     let z := { x with faulty := true, cause := 1, waits := false, declared := some w.now }
     x.sparing = none → (∀ k, k / 24 = l.val / 24 → k ≠ l.val → (laneTxOf s k).declared ≠ some w.now) →
     (∀ q, getProp s sysObj pSystemSpareAuto = 1 → freeCore s l.val = some q →
       exec (.laneFaultDeclare t l .pll) s = .next (setLaneTx f l.val { z with sparing := some (q, 1) })) ∧
     (getProp s sysObj pSystemSpareAuto ≠ 1 → exec (.laneFaultDeclare t l .pll) s =
       .next (postEvent (setLaneTx f l.val z) 0x1312 sysObj (l.val + c * 256 + 65536)))) ∧
    (∀ q cause, x.sparing = some (q, cause) → exec (.laneFaultDeclare t l .pll) s =
      .next (setLaneTx (faultEvent w 0 c 5) l.val { x with faulty := true, cause := 1, sparing := some (q, 1) })) ∧
    (∀ q cause, x.sparing = some (q, cause) → workOf s 0 c = none →
      let moved := setLaneTx (setProp (setProp (setProp w sysObj pSystemLaneCore l.val q) sysObj pSystemCoreState q 0)
        sysObj pSystemCoreState c 2) l.val { x with sparing := none, waits := false, faulty := false, declared := none }
      let arg := l.val + c * 256 + q * 65536 + cause * 2 ^ 24
      (cause ≠ 2 → portsOnLane s l.val = [] → exec (.laneSpared t l) s =
        .next (putWork (postEvent moved 0x1311 sysObj arg) ⟨0, c, some q, false, true, none, 0, 0, none⟩)) ∧
      (cause = 2 → exec (.plannedSwitchoverEnd t l) s =
        .next (putWork (postEvent moved 0x1311 sysObj arg) ⟨0, c, some q, true, true, none, 0, 0, none⟩)) ∧
      (cause ≠ 2 → exec (.plannedSwitchoverEnd t l) s = .next w))

/-! ### Audio -/

/-- R271, R274 to R278: a TDM port stamps the frame-clock edges of its pin and sends a frame with each, keeps its frame position where
one falls elsewhere, counts glitches, mutes and reports when a clock is lost, measures when it returns, and after 64 frames restarts
the paths that touch it. What rests on a choice of the
model: log entries 62 and 64. -/
def Obligations.TdmPortsFollowTheirClocks : Prop :=
  ∀ (t : Ticks) (n : Fin 8) (s : State), Calm s →
    let o := audioPortObj n.val
    let w := tickTo t s
    let x := tdmOf s n.val
    let st := getProp s o pAudioPortState
    let fsync := getPropN s o pAudioPortFsync
    (∀ bclks rx, rx.falling ≠ bitOf fsync 0 ∨ rx.clock ≠ getPropN s o pAudioPortGroup →
      exec (.tdmFrameClockEdge t n bclks rx) s = .next w) ∧
    (∀ bclks rx, st = 1 ∨ st = 2 → rx.falling = bitOf fsync 0 → rx.clock = getPropN s o pAudioPortGroup →
      ∃ u, exec (.tdmFrameClockEdge t n bclks rx) s = .next u ∧
      (tdmOf u n.val).edges.head? = some (w.now / nsT * nsT) ∧ (st = 1 → (tdmOf u n.val).frames = x.frames + 1) ∧
      (tdmOf u n.val).data = (if bitOf fsync 2 then rx.onFall else rx.onRise) ∧
      (x.edges = [] ∨ x.len = bclks → (tdmOf u n.val).since = 0 ∧ ∃ bits, (s.power.taken = false → u.out.head? = some (w.now, .tdmFrame n.val (!bitOf fsync 2) bits)) ∧
        bits.length = max (bit01 (bitOf fsync 1) + getPropN s o pAudioPortSlots * getPropN s o pAudioPortSlotBits) (tdmOf u n.val).len) ∧
      (x.edges ≠ [] → x.len ≠ 0 → x.len ≠ bclks → x.gaps.head? ≠ some bclks →
        (tdmOf u n.val).len = x.len ∧ (tdmOf u n.val).since = (x.since + bclks) % x.len)) ∧
    (st ≠ 0 → (∀ e, x.glitchAt = some e → e + msT ≤ w.now) → exec (.audioGlitch t n) s = .next (postEvent
      (setTdm (bumpProp w o pAudioPortGlitches) n.val { x with glitches := 0, glitchAt := some w.now }) 0x0A04 o ((x.glitches + 1) % 2 ^ 32))) ∧
    (∀ e, st ≠ 0 → x.glitchAt = some e → w.now < e + msT → exec (.audioGlitch t n) s =
      .next (setTdm (bumpProp w o pAudioPortGlitches) n.val { x with glitches := x.glitches + 1 })) ∧
    (∀ fc, st ≠ 0 → st ≠ 3 → fc = false ∨ frameClockGone w x = true → exec (.audioClockLost t n fc) s = .next (setTdm
      (markSources (postEvent (setProp w o pAudioPortState 0 3) 0x0A02 o (bit01 fc)) o fun y => { y with lost := true }) n.val
      { x with wasLost := true, muting := false, edges := [], gaps := [], frames := 0, len := 0, since := 0 })) ∧
    (st ≠ 3 → frameClockGone w x = false → exec (.audioClockLost t n true) s = .next w) ∧
    (st = 3 → exec (.audioClockReturn t n) s = .next (setTdm
      (markSources (setProp w o pAudioPortState 0 1) o fun _ => ⟨0, false⟩) n.val
      { x with edges := [], gaps := [], frames := 0, len := 0, since := 0 })) ∧
    (st = 1 → 65 ≤ x.frames → x.wasLost = true → exec (.audioClockBack t n) s = .next (restartPaths (postEvent
      (setTdm (setProp w o pAudioPortState 0 2) n.val { x with wasLost := false }) 0x0A03 o (getPropN s o pAudioPortRate % 2 ^ 48)) o w.now)) ∧
    (st = 1 → x.frames < 65 → exec (.audioClockBack t n) s = .next w) ∧
    (st = 4 → 65 ≤ x.frames → exec (.mutedRateEnd t n) s = .next (restartPaths (setProp w o pAudioPortState 0 2) o w.now))

/-- R281, R283, R287: an ASRC channel that has acquired starts its change; a destination plays the oldest sample of its path, and
zero where nothing plays; a change that is not made in time is made with fades; an underrun ends with a fading tail and is counted,
and a refilled path starts again. What rests on a choice of the model: log entries 24 and 65. -/
def Obligations.AudioPathsChangeAtTheirInstants : Prop :=
  ∀ (t : Ticks) (c : ObjId) (d : Fin 1024) (s : State), Calm s → (∀ q ∈ objsOf s clsAudioCh, getProp s q pAudioChState ≠ 6) →
    (∀ e ∈ s.ports, (portIn s (objId clsPortIn e.1)).held = []) →
    let w := tickTo t s
    let p := pathOf s c
    let y := destOf s d.val
    (∀ r, getProp s c pAudioChState = 7 → c ∈ s.objs → getPropN s c pAudioChAsrcRatio = r →
      exec (.asrcAcquireEnd t c) s = .next (beginChange (postEvent (setProp w c pAudioChState 0 1) 0x0B03 c
        (1 + r / 2 ^ 24 % 2 ^ 40 * 2 ^ 24)) (audioDestOf s c) (some c) w.now none)) ∧
    (∀ v v' rest, y.change = none → y.playing = some c → p.under = false → p.fifo = v :: v' :: rest → asrcUsed s c = false →
      ∃ u, exec (.audioSamplePeriod t d) s = .next u ∧ (destOf u d.val).value = v ∧ (destOf u d.val).prev = y.value ∧
        (destOf u d.val).playing = some c ∧ (pathOf u c).fifo = v' :: rest) ∧
    (y.change = none → y.playing = none → y.tail = none →
      ∃ u, exec (.audioSamplePeriod t d) s = .next u ∧ (destOf u d.val).value = 0 ∧ (destOf u d.val).prev = y.value) ∧
    (∀ g, y.change = some g →
      let limit := g.tc + getPropN s sysObj pSystemAudioZcTimeout * msT / max (destPeriod s d.val) 1 * max (destPeriod s d.val) 1
      (w.now < limit → exec (.audioChangeTimeout t d) s = .next w) ∧
      (limit ≤ w.now → ∃ u g', exec (.audioChangeTimeout t d) s = .next u ∧ (destOf u d.val).change = some g' ∧ g'.begun = true ∧
        (g.stopped = false → y.playing ≠ none → g.fadeOut = none → g'.fadeOut = some 0) ∧
        (g.incoming ≠ none → g.fadeIn = none → g'.fadeIn = some 0))) ∧
    (c ∈ s.objs → audioDestOf s c = d.val → y.playing = some c → p.under = false → p.fifo = [] → 4 ≤ p.starved →
      (srcOf s (audioSrcOf s c)).lost = false →
      exec (.achUnderrun t c) s = .next (postEvent (bumpProp (setProp (setPath (setDest w d.val
        { y with tail := if zeroCrossing (some y.prev) y.value then none else some (y.value, 0) }) c { p with under := true })
        c pAudioChState 0 4) c pAudioChUnderruns) 0x0B01 c (d.val % 65536 + audioSrcOf s c % 65536 * 65536))) ∧
    (c ∈ s.objs → audioDestOf s c = d.val → p.under = true → pathNominal s c ≤ p.fifo.length →
      exec (.achRejoin t c) s = .next (postEvent (beginChange (setDest (setProp (setPath w c { p with under := false, starved := 0 })
        c pAudioChState 0 1) d.val { y with playing := if y.playing = some c then none else y.playing }) d.val (some c) w.now none)
        0x0B02 c (d.val % 65536 + audioSrcOf s c % 65536 * 65536)))

/-! ### Triggers and captures -/

/-- R298, R300, R301, R309: a selected edge on a pin starts its triggers' filters, and an opposite one forgets them; an accepted
edge fires its trigger, or is ignored and counted while it is disabled; a collection that times out freezes; the Cepra record of a
frozen capture is built once, with its table. What rests on a choice of the model: log entry 37. -/
def Obligations.TriggersFireAndCapturesFreeze : Prop :=
  ∀ (t : Ticks) (s : State), Calm s →
    let w := tickTo t s
    (∀ (pin : Fin 8) (rising : Bool), (∀ o ∈ s.objs, objCls o ≠ clsTrigger) →
      (∀ n, n < 32 → getProp s (objId clsTrigger n) pTriggerPin = (pin.val : Int) → (trigOf s n).edge = none) →
      ∃ m, exec (.triggerPinEdge t pin rising) s = .next { w with trigs := m } ∧ ∀ n, n < 32 →
        let o := objId clsTrigger n
        mapGetD m n trig0 = if getProp s o pTriggerPin = (pin.val : Int) then
          { trigOf s n with edge := if edgeSelected s o rising then some (stampOf w.now, rising) else none } else trigOf s n) ∧
    (∀ (n : Fin 32) (te : Ticks) (b : Bool),
      let o := objId clsTrigger n.val
      let x := trigOf s n.val
      let at' := trigTimeOf w o te
      x.edge = some (te, b) → te + getPropN s o pTriggerFilter * nsT ≤ w.now →
      (∀ k, k < 32 → k ≠ n.val → acceptAt s k ≠ acceptAt s n.val) →
      (getProp s o pTriggerEnable ≠ 0 → x.lastFired = none → s.rings = [] → exec (.triggerFilterAccept t n) s = .next (postEvent
        (bumpProp (setTimeProp (setTrig w n.val { x with edge := none, lastFired := some te }) o pTriggerLast at') o pTriggerCount)
        0x1001 o (nsOf at' % 2 ^ 32 * 2 ^ 32))) ∧
      (getProp s o pTriggerEnable = 0 →
        exec (.triggerFilterAccept t n) s = .next (trigIgnored (setTrig w n.val { x with edge := none }) o))) ∧
    (∀ o r T, ringOf s o = some r → r.cap = .collecting → r.collectEnd = some T → T ≤ w.now →
      ∃ u y, exec (.postTimeout t o) s = .next u ∧ ringOf u o = some y ∧ y.cap = .frozen ∧ y.timedOut = true ∧ y.frozenAt = w.now ∧
        y.pre = r.pre ∧ y.post = r.post) ∧
    (∀ o r, ringOf s o = some r → r.cap = .frozen → r.cepra = [] →
      ∃ u y, exec (.cepraReady t o) s = .next u ∧ ringOf u o = some y ∧ y.cap = .frozen ∧ y.table = frameTable s r ∧
        y.cepra.take 8 = toLe 4 0x52504543 ++ toLe 2 1 ++ toLe 2 512)

/-! ### References, timebase, cadence and RTC -/

/-- R314 to R317: an event of a reference gives its detected rate and its phase error, a loss makes it ABSENT, qualification makes
it QUALIFIED, a frequency within its limit is published, a PTP master is followed, and selection takes the one QUALIFIED reference,
or none where none is. What rests on a choice of the model: log entries 66 and 67. -/
def Obligations.ReferencesAreMeasuredAndSelected : Prop :=
  ∀ (t : Ticks) (n : Fin 17) (s : State), Calm s → mapSorted s.props = true →
    let o := refObj n.val
    let w := tickTo t s
    let x := refRt s n.val
    let kind := getPropN s o pRefKind
    (∀ num den, 1 ≤ kind → kind ≤ 5 → getProp s o pRefEnable ≠ 0 →
      ∃ u, exec (.refEvent t n num den) s = .next u ∧ getProps u o pRefDetected 0 2 = [(num : Int), (den : Int)] ∧
        (refRt u n.val).lastEvent = some w.now ∧
        getProp u o pRefPhaseError = match alignPeriod kind num den with
          | some (a, b) => alignError a b w.now (getProp s o pRefDelay * (nsT : Nat))
          | none => 0) ∧
    (2 ≤ refState s n.val → ∃ u, exec (.refLoss t n) s = .next u ∧ refState u n.val = 1 ∧
      getProps u o pRefDetected 0 2 = [0, 0] ∧ refRt u n.val = ref0) ∧
    (∀ T, x.since = some T → refState s n.val = 2 →
      (T + getPropN s o pRefQualTime * secT ≤ w.now → exec (.refQualified t n) s = .next (refChange w n.val 3 4)) ∧
      (w.now < T + getPropN s o pRefQualTime * secT → exec (.refQualified t n) s = .next w)) ∧
    (∀ a b : Int, 2 ≤ refState s n.val → a.natAbs < 2147483648 → b.natAbs ≤ getPropN s o pRefLimitPpm * 1000 → b.natAbs < 2147483648 →
      exec (.refFreqUpdate t n a b) s = .next (setProps w o pRefFreqOffset 0 [a, b])) ∧
    (qualified s = [] → exec (.selectionEvaluate t) s = .next (switchTo w 0)) ∧
    (∀ m, qualified s = [m] → exec (.selectionEvaluate t) s = .next (switchTo w (refObj m))) ∧
    (∀ domain, kind = 6 → getProp s o pRefEnable ≠ 0 → getPropN s o pRefPtpDomain = domain → ptpHears s o = true →
      (∀ prio gm utc, x.ptp.master = none → exec (.ptpMessage t n domain (.announce prio gm utc)) s =
        .next (setProp (setRefRt w n.val { x with ptp := { x.ptp with master := some (prio, gm) } }) sysObj pSystemUtcOffset 0
          (clampInt (-1000) 1000 utc))) ∧
      (∀ origin, x.ptp.master ≠ none → exec (.ptpMessage t n domain (.sync origin true)) s =
        .next (setRefRt w n.val { x with ptp := { x.ptp with pending := some w.now } })) ∧
      (∀ origin t2, x.ptp.pending = some t2 → x.ptp.path = none → exec (.ptpMessage t n domain (.followUp origin)) s =
        .next (setRefRt (delayReq w o) n.val { x with ptp := { x.ptp with t1 := origin, t2 := t2, t3 := w.now, pending := none } })))

/-- R319 to R321, R326, R328, R438: the end of a pull, a step where `system.tb_step_allow` permits it, the advance of the DPLL's
stage, the next pulse of a cadence, the discipline of the RTC and its end, and a gloved copy of the timebase. What rests on a choice
of the model: log entries 14 and 69. -/
def Obligations.TimebaseFollowsItsReference : Prop :=
  ∀ (t : Ticks) (s : State), Calm s → mapSorted s.props = true →
    let w := tickTo t s
    let d := tbRemaining w
    let allow := getProp s sysObj pSystemTbStepAllow
    let far := decide (getPropN s sysObj pSystemTbStepThreshold * nsT < d.natAbs)
    (s.tb.pull ≠ 0 → d = 0 → exec (.tbPullDone t) s = .next (settleTb (setPull w 0))) ∧
    (far = true → allow = 2 ∨ (allow = 1 ∧ headsBusy s = false) →
      ∃ u, exec (.tbStep t) s = .next u ∧ (u.now : Int) = max 0 ((w.now : Int) + d) ∧ u.tb.pull = 0 ∧ u.tb.pullAt = u.now ∧
        u.tb.retiming = some u.now) ∧
    (far = false ∨ allow = 0 ∨ (allow = 1 ∧ headsBusy s = true) → exec (.tbStep t) s = .next w) ∧
    (∀ T, s.tb.dwell = some T → getProp s sysObj pSystemRefSelected ≠ 0 → lastStage s = false →
      T + (stageLimit (getPropN s sysObj pSystemDpllStage)).2 ≤ w.now →
      ∃ u, exec (.dpllStageAdvance t) s = .next u ∧
        getProp u sysObj pSystemDpllStage = (getPropN s sysObj pSystemDpllStage + 1 : Nat)) ∧
    (∀ n : Fin 16,
      let c := objId clsCadence n.val
      let T := match mapGet s.tb.pulses n.val with
        | some l => firstPulse s c (max s.now (l + 1))
        | none => firstPulse s c s.now
      exec (.cadencePulse n) s =
        .next (chainSource { tickTo T s with tb := { s.tb with pulses := mapPut s.tb.pulses n.val T } } c)) ∧
    (∀ (ticks : Nat) (drift : Int), getProp s sysObj pSystemTbState = 3 → rtcSource s = true → (∀ l, s.tb.lastDisc = some l → l + 64 * secT ≤ w.now) →
      let want := w.now * 32768 / secT
      let e : Int := (want : Int) - (ticks : Int)
      let v := { w with tb := { s.tb with lastDisc := some w.now } }
      (32768 ≤ e.natAbs * 1000 → exec (.rtcDiscipline t ticks drift) s = .next (rtcState (putRtc v want) 2 e)) ∧
      (e.natAbs * 1000 < 32768 → exec (.rtcDiscipline t ticks drift) s = .next (rtcState (setProp (putRtc v ticks) sysObj
        pSystemRtcTrim 0 (clampInt (-512) 511 (getProp s sysObj pSystemRtcTrim + drift))) 2 0))) ∧
    (∀ l, s.tb.lastDisc = some l → getProp s sysObj pSystemRtcState = 2 →
      (l + 86400 * secT ≤ w.now → exec (.rtcFree t) s = .next (postEvent (setProp w sysObj pSystemRtcState 0 1) 0x1322 sysObj 1)) ∧
      (w.now < l + 86400 * secT → exec (.rtcFree t) s = .next w)) ∧
    (∀ copy, s.tb.gloved = none →
      exec (.timebaseCopyMismatch t copy) s = .next { w with tb := { s.tb with gloved := some copy.val } })

/-! ### The Hinge Link

`hlTake` checks a message; where it answers `.inr (p, v)`, the message has payload `p` and `v` has noted it. -/

/-- R336, R337: a message with a bad length, check or type is counted and asks for the number expected once; a valid one that is not
sequenced is taken; a sequenced one is taken in its turn, and one from the future asks for the number expected. -/
def Obligations.HingeLinkMessagesAreChecked : Prop :=
  ∀ (t : Ticks) (hl : Fin 5) (m : List Word) (s : State), Calm s →
    let w := tickTo t s
    let n := hl.val
    let ws := wordsOf m
    let len := bitsOf (atD ws 0 0) 31 16
    let whole := decide (len ≤ 252 ∧ ws.length = len + 3 ∧ atD ws (len + 2) 0 = crc32c (wordBytes (ws.take (len + 2))) ∧
      bitsOf (atD ws 0 0) 15 8 ∈ [0x01, 0x02, 0x10, 0x11, 0x12, 0x20, 0x21, 0x22, 0x30, 0x31, 0x32, 0x33])
    let seen := setHl w n { hlOf s n with lastValid := w.now }
    let v := if hlState s n = 3 then hlAck seen n (bitsOf (atD ws 1 0) 31 16) else seen
    2 ≤ hlState s n → bitsOf (atD ws 0 0) 7 0 = 0xA7 →
    (whole = false → exec (.link t hl m) s = .next (hlFail w n) ∧ exec (.join t hl m) s = .next (hlFail w n) ∧
      exec (.groupUp t hl m) s = .next (hlFail w n)) ∧
    (∀ typ, whole = true → bitsOf (atD ws 0 0) 15 8 = typ →
      hlTake w n typ false ws = .inr ((ws.drop 2).take len, v) ∧
      (hlState s n = 3 → hlState v n = 3 →
        let h := hlOf v n
        let ahead := (bitsOf (atD ws 1 0) 15 0 + 65536 - h.rxSeq) % 65536
        (ahead = 0 → hlTake w n typ true ws =
          .inr ((ws.drop 2).take len, setHl v n { h with rxSeq := (h.rxSeq + 1) % 65536, nakFor := none })) ∧
        (0 < ahead → ahead < 32768 → hlTake w n typ true ws = .inl (hlSend (setHl v n { h with nakFor := some h.rxSeq }) n 0x02 [h.rxSeq])) ∧
        (32768 ≤ ahead → hlTake w n typ true ws = .inl v)))

/-- R334, R337 to R340: LINK messages bring a link up with its sequence numbers at zero, or find both ends facing the same way; NAK
and the timer send every unacknowledged message again; a keepalive says LINK; silence and a spent budget take the link down. A
parent sends its time, the child notes it and asks for the path delay, the parent answers with its arrival, and the child takes half
of what remains. What rests on a choice of the model: log entries 71 and 72. -/
def Obligations.HingeLinksComeUpGoDownAndCarryTime : Prop :=
  (∀ (t : Ticks) (hl : Fin 5) (m : List Word) (s : State), Calm s →
     let w := tickTo t s
     let n := hl.val
     (∀ p v, hlTake w n 0x01 false (wordsOf m) = .inr (p, v) → hlState v n = 2 →
       let h := { hlOf v n with
         peerFace := some (atD p 0 0 % 2), peerState := bitsOf (atD p 0 0) 18 16, peerDepth := bitsOf (atD p 0 0) 26 24
         asked := (hlOf v n).asked && (decide (n = 0) && decide (bitsOf (atD p 0 0) 18 16 ≤ 1)) }
       (atD p 0 0 % 2 = bit01 (n != 0) → exec (.link t hl m) s = .next (setHlState (setHl v n h) n 4 0)) ∧
       (atD p 0 0 % 2 ≠ bit01 (n != 0) → n ≠ 0 → exec (.link t hl m) s = .next (sendLink (setHlState (setHl (setHl v n h) n
         { h with txSeq := 0, rxSeq := 0, window := [], stalled := [], nakFor := none, parts := [], delay := none, t1 := none, asked := false }) n 3 4) n))) ∧
     (∀ p v, hlTake w n 0x02 false (wordsOf m) = .inr (p, v) → hlState v n = 3 →
       exec (.nak t hl m) s = .next (hlResend (hlAck v n (atD p 0 0 % 65536)) n)) ∧
     (∀ x xs, (hlOf s n).window = x :: xs → hlState s n = 3 →
       (x.sentAt + 4 * usT ≤ w.now → exec (.hlRetransmitTimer t hl) s = .next (hlResend w n)) ∧
       (w.now < x.sentAt + 4 * usT → exec (.hlRetransmitTimer t hl) s = .next w)) ∧
     (hlState s n = 2 ∨ hlState s n = 3 → exec (.hlKeepalive t hl) s = .next (sendLink w n)) ∧
     (2 ≤ hlState s n → (hlOf s n).lastValid + 10 * usT ≤ w.now → exec (.hlSilence t hl) s = .next (finish s (settle (hlDown w n 1)))) ∧
     ((hlOf s n).window.any (fun x => match x.firstRetry with | some r => decide (r + x.budget ≤ w.now) | none => false) = true →
       exec (.hlBudgetExpiry t hl) s = .next (finish s (settle (hlDown w n 2)))) ∧
     (n ≠ 0 → 2 ≤ hlState s n → mapSorted s.props = true → getPropN (hlDown w n 1) sysObj pSystemHlState n = 1) ∧
     (∀ T, domainState s = 2 → (hlOf s 0).waitSince = some T →
       (T + secT ≤ w.now → exec (.hlWaitingTimeout t) s = .next (raiseDomain (setHl w 0 { hlOf s 0 with waitSince := none }) 4)) ∧
       (w.now < T + secT → exec (.hlWaitingTimeout t) s = .next w))) ∧
  (∀ (t : Ticks) (hl : Fin 5) (m : List Word) (s : State), Calm s →
     let w := tickTo t s
     let n := hl.val
     (n ≠ 0 → hlState s n = 3 → actsAsRoot s = true →
       exec (.timeSyncSend t hl) s = .next (hlSend w n 0x10 (timeWords (stampOf w.now) ++
         [bit01 (getProp s sysObj pSystemTbState == 3 && rtcSource s) + getPropN s sysObj pSystemTbState * 2 +
           twos 16 (getProp s sysObj pSystemUtcOffset) * 65536]))) ∧
     (∀ p v, n = 0 → hlTake w 0 0x10 false (wordsOf m) = .inr (p, v) → hlState v 0 = 3 → (hlOf v 0).delay = none →
       let h := hlOf v 0
       let x := atD p 4 0
       exec (.timeSync t hl m) s = .next (hlSend (setHl v 0 { h with
         reqNo := (h.reqNo + 1) % 2 ^ 32, t1 := some (timeOfWords p), t2 := stampOf v.now, t3 := stampOf v.now
         traceable := bitOf x 0, rootState := bitsOf x 3 1, rootUtc := signedOf 16 (bitsOf x 31 16) }) 0 0x11 [(h.reqNo + 1) % 2 ^ 32])) ∧
     (∀ p v, n ≠ 0 → hlTake w n 0x11 false (wordsOf m) = .inr (p, v) → hlState v n = 3 →
       exec (.timeReq t hl m) s = .next (hlSend v n 0x12 (atD p 0 0 :: timeWords (stampOf v.now)))) ∧
     (∀ p v t1, n = 0 → hlTake w 0 0x12 false (wordsOf m) = .inr (p, v) → hlState v 0 = 3 → (hlOf v 0).t1 = some t1 →
       atD p 0 0 = (hlOf v 0).reqNo →
       let h := hlOf v 0
       let d : Int := (((h.t2 : Int) - (t1 : Int)) + ((timeOfWords (p.drop 1) : Int) - (h.t3 : Int))) / 2
       exec (.timeResp t hl m) s = .next (setHl v 0 { h with delay := some d.toNat })))

/-- R335, R342: a JOIN travels up to the root, which grants a free number and refuses a taken one or too deep a place; the answer
makes the device a member or leaves it outside, or is passed on; and a whole TOPOLOGY becomes the map. What rests on a choice of the
model: log entries 73 and 78. -/
def Obligations.DevicesJoinTheDomain : Prop :=
  ∀ (t : Ticks) (hl : Fin 5) (m : List Word) (s : State), Calm s →
    let w := tickTo t s
    let n := hl.val
    (∀ p v, n ≠ 0 → hlTake w n 0x20 true (wordsOf m) = .inr (p, v) →
      let u := { v with hlJoins := mapPut v.hlJoins (atD p 0 0 + atD p 1 0 * 2 ^ 32) n }
      (domainState v = 0 → exec (.join t hl m) s = .next (rootJoin u n p)) ∧
      (domainState v = 1 → bitOf (atD p 2 0) 31 = true →
        exec (.join t hl m) s = .next (hlSendSeq u 0 0x20 [atD p 0 0, atD p 1 0, atD p 2 0]))) ∧
    (∀ serial want depth, want ≤ 511 →
      (numberTaken s serial want = true → grant s serial want depth = .inr 1) ∧
      (numberTaken s serial want = false → 6 < depth → grant s serial want depth = .inr 2) ∧
      (numberTaken s serial want = false → depth ≤ 6 → grant s serial want depth = .inl want)) ∧
    (∀ p v, n = 0 → hlTake w 0 0x21 true (wordsOf m) = .inr (p, v) →
      (atD p 0 0 + atD p 1 0 * 2 ^ 32 = Config.serial → domainState v = 2 → atD p 2 0 % 256 = 0 →
        exec (.joinAck t hl m) s = .next (raiseDomain (setProp
          (setDomain v (atD p 3 0 % 512) (atD p 4 0 % 8) (getPropN v sysObj pSystemHlDomain 2) 1) sysObj pSystemHlRoot 0
          (atD p 5 0 + atD p 6 0 * 2 ^ 32 : Nat)) 0)) ∧
      (atD p 0 0 + atD p 1 0 * 2 ^ 32 = Config.serial → domainState v = 2 → atD p 2 0 % 256 ≠ 0 →
        exec (.joinAck t hl m) s =
          .next (raiseDomain (setHlState (setDomain v (ownNumber v) 0 1 4) 0 4 3) (bitsOf (atD p 2 0) 15 8))) ∧
      (∀ k, atD p 0 0 + atD p 1 0 * 2 ^ 32 ≠ Config.serial → mapGet v.hlJoins (atD p 0 0 + atD p 1 0 * 2 ^ 32) = some k →
        exec (.joinAck t hl m) s = .next (hlSendSeq
          { v with hlJoins := mapDel v.hlJoins (atD p 0 0 + atD p 1 0 * 2 ^ 32) } k 0x21 p))) ∧
    (∀ p v x, n = 0 → hlTake w 0 0x22 true (wordsOf m) = .inr (p, v) → domainState v = 1 → downLinks v = [] →
      (collect v 0 0x22 0 [] (atD p 0 0) (p.drop 1) = (none, x) → exec (.topology t hl m) s = .next x) ∧
      (∀ es, collect v 0 0x22 0 [] (atD p 0 0) (p.drop 1) = (some es, x) →
        let cleared := (List.range 512).foldl (fun s d => setProp s sysObj pSystemHlMap d 0) x
        let mapped := es.foldl (fun s e => setProp s sysObj pSystemHlMap (bitsOf e 31 23) ((e % 65536 : Nat) : Int)) cleared
        exec (.topology t hl m) s = .next (raiseDomain (setProp mapped sysObj pSystemHlDomain 2 (mapCount mapped)) 6)))

/-- R74, R341, R342, R343: group commits travel to the root, which releases them with the last fragment, and from it to the members,
which seal their banks; a report goes to the originator, which notes it and completes once every member has reported; a withdrawal
goes up to the root and down again. What rests on a choice of the model: log entry 18. -/
def Obligations.GroupsTravelTheHingeLink : Prop :=
  ∀ (t : Ticks) (hl : Fin 5) (m : List Word) (s : State), Calm s →
    let w := tickTo t s
    let n := hl.val
    (∀ p v, n ≠ 0 → hlTake w n 0x30 true (wordsOf m) = .inr (p, v) →
      (domainState v = 1 → exec (.groupUp t hl m) s = .next (hlSendSeq v 0 0x30 p)) ∧
      (∀ x, actsAsRoot v = true → collect v n 0x30 (atD p 0 0) [] (atD p 9 0) (p.drop 10) = (none, x) →
        exec (.groupUp t hl m) s = .next x) ∧
      (∀ body x, actsAsRoot v = true → collect v n 0x30 (atD p 0 0) [] (atD p 9 0) (p.drop 10) = (some body, x) →
        exec (.groupUp t hl m) s = .next (finish s (settle
          (releaseGroup x (atD p 0 0) (timeOfWords (p.drop 1)) (membersOf body).eraseDups))))) ∧
    (∀ p v x, n = 0 → hlTake w 0 0x31 true (wordsOf m) = .inr (p, v) → domainState v ≠ 2 → downLinks v = [] →
      (collect v 0 0x31 (atD p 0 0) [] (atD p 9 0) (p.drop 10) = (none, x) → exec (.groupDown t hl m) s = .next x) ∧
      (∀ body, collect v 0 0x31 (atD p 0 0) [] (atD p 9 0) (p.drop 10) = (some body, x) → groupOf x (atD p 0 0) = none →
        x.hif.handover = false →
        let g : GroupRun := ⟨atD p 0 0, timeOfWords (p.drop 1), timeOfWords (p.drop 5), false, (membersOf body).eraseDups.map (runMember x), none, originOutside x (atD p 0 0)⟩
        exec (.groupDown t hl m) s = .next (finish s (settle (sealGroup
          (sendReports { x with groups := x.groups ++ [g] } g.gid (g.members.filter fun e => e.outcome.isSome)) g 15 0xFFFF))))) ∧
    (∀ p v, hlTake w n 0x32 true (wordsOf m) = .inr (p, v) → domainState v ≠ 2 →
      (atD p 0 0 / 65536 ≠ ownNumber v → groupOf v (atD p 0 0) = none →
        exec (.groupReport t hl m) s = .next (hlSendSeq v (linkToOrigin v (atD p 0 0)) 0x32 p)) ∧
      (atD p 0 0 / 65536 = ownNumber v → p.length = 6 → 4 ≤ atD p 4 0 % 256 →
        exec (.groupReport t hl m) s = .next (finish s (settle (checkGroup (recordOutcome v (atD p 0 0)
          (atD p 2 0 + atD p 3 0 * 2 ^ 32) (atD p 4 0 % 256) (atD p 5 0) none) (atD p 0 0)))))) ∧
    (∀ p v, hlTake w n 0x33 true (wordsOf m) = .inr (p, v) →
      (n ≠ 0 → domainState v = 1 → exec (.groupWithdraw t hl m) s = .next (hlSendSeq v 0 0x33 [atD p 0 0])) ∧
      (n = 0 ∨ actsAsRoot v = true → exec (.groupWithdraw t hl m) s = .next (finish s (settle (withdrawDown v (atD p 0 0))))))

/-! ### The frame store -/

/-- R350 to R355, R359: the scheduler's operation is issued, its row opens, and a write lands; a request that arrives at an empty
pseudo-channel is queued and issued; a frozen one issues nothing. Refresh closes every row and, once in 2 ms, tracks timing; a
stack's temperature is read; a failed attempt is kept for a retry; an operation whose budget has ended is dropped. What rests on a
choice of the model: log entries 79 and 80. -/
def Obligations.FrameStoreServesItsPorts : Prop :=
  ∀ (t : Ticks) (pc : Fin 128) (s : State), Calm s →
    let w := tickTo t s
    let x := pcRt s pc.val
    (fsFrozen s pc.val = true → ∀ rs c, exec (.fsCommandSlot t pc rs c) s = .next w) ∧
    (∀ (o : FsOp) (c : Bool), fsFrozen s pc.val = false → x.stalled = [] → chooseOp w x = some o →
      let v := issueOp w pc.val o
      exec (.fsCommandSlot t pc [] c) s = .next (if c && !o.req.write then bumpProp v sysObj pSystemFsEccCorrected pc.val else v) ∧
      v.frame = (if o.req.write then memWrite s.frame o.req.addr (o.req.data.take (64 - o.req.addr % 64)) else s.frame) ∧
      (∀ q ∈ (pcRt v pc.val).reads ++ (pcRt v pc.val).writes, q ∈ x.reads ++ x.writes ∧ q.order ≠ o.order) ∧
      mapGet (pcRt v pc.val).rows (bankKey (fsDecode s o.req.addr)) = some (fsDecode s o.req.addr).row) ∧
    (∀ r : FsRequest, fsFrozen s pc.val = false → x.reads = [] → x.writes = [] → x.stalled = [] → x.failing = [] →
      (fsDecode s r.addr).pc = pc.val → lpcDead s (fsDecode s r.addr).lpc = false → r.addr < 144955146240 → portStalled s pc.val r.port none = false →
      let o : FsOp := ⟨withDeadline w r, x.count, w.now, 0⟩
      exec (.fsCommandSlot t pc [r] false) s =
        .next (issueOp (setPcRt w pc.val (enqueue { x with count := x.count + 1 } o)) pc.val o)) ∧
    (∃ u, exec (.fsRefresh t pc) s = .next u ∧ (pcRt u pc.val).rows = [] ∧ (pcRt u pc.val).refreshed = some w.now ∧
      (pcRt u pc.val).reads = x.reads ∧ (pcRt u pc.val).writes = x.writes ∧ (pcRt u pc.val).failing = x.failing ∧
      (fsState s pc.val ≤ 1 → (∀ T, x.trained = some T → T + 2 * msT ≤ w.now) → (pcRt u pc.val).trained = some w.now) ∧
      (∀ T, x.trained = some T → w.now < T + 2 * msT → (pcRt u pc.val).trained = some T)) ∧
    (∀ (stack : Fin 4) (c : Int), -32768 ≤ c → c ≤ 32767 →
      let v := setProp w sysObj pSystemFsTemp stack.val c
      let hot := getPropN s sysObj pSystemFsHot
      (bitOf hot stack.val = false → 85 < c → exec (.fsTempRead t stack c) s = .next (postEvent
        (setProp v sysObj pSystemFsHot 0 (setBit hot stack.val true : Nat)) 0x1344 sysObj (stack.val + 256 + twos 16 c * 65536))) ∧
      (bitOf hot stack.val = true → c ≤ 83 → exec (.fsTempRead t stack c) s = .next (postEvent
        (setProp v sysObj pSystemFsHot 0 (setBit hot stack.val false : Nat)) 0x1344 sysObj (stack.val + twos 16 c * 65536))) ∧
      (bitOf hot stack.val = false → c ≤ 85 → exec (.fsTempRead t stack c) s = .next v) ∧
      (bitOf hot stack.val = true → 83 < c → exec (.fsTempRead t stack c) s = .next v)) ∧
    (∀ tag, x.dead.contains tag = true →
      exec (.fsParityFail t pc tag) s = .next (lateDiscard (setPcRt w pc.val { x with dead := x.dead.erase tag }))) ∧
    (∀ tag o, x.dead.contains tag = false → opByTag x tag = some o → x.fails < 3 →
      ∃ u, exec (.fsParityFail t pc tag) s = .next u ∧ (pcRt u pc.val).fails = x.fails + 1 ∧
        (pcRt u pc.val).failing = (x.failing.filter fun q => decide (q.order ≠ o.order)) ++
          [{ o with tries := o.tries + 1, arrived := if o.tries = 0 then w.now else o.arrived }] ∧
        u.props = (bumpProp s sysObj pSystemFsParityRetries pc.val).props ∧ u.frame = s.frame) ∧
    (∀ tag o, x.failing.find? (fun q => q.req.tag == tag) = some o →
      (w.now < o.arrived + (o.req.deadline - o.req.issue) / 4 → exec (.fsParityBudgetEnd t pc tag) s = .next w) ∧
      (o.arrived + (o.req.deadline - o.req.issue) / 4 ≤ w.now →
        let v := setPcRt w pc.val { removeOp x o with dead := x.dead ++ [tag] }
        exec (.fsParityBudgetEnd t pc tag) s =
          .next (if o.req.control && o.req.write then addStale v (o.req.addr / 4096 % 120) else v)))

/-- R355, R356, R359, R360, R363, R444: the fourth failure in a row, or an uncorrectable error, freezes a pseudo-channel with a
snapshot of its queues, and its bytes read zero; a spare then takes its map entry and its surfaces are LOST; the mirror of its
control copies ends the replacement; a planned copy changes the map with nothing lost. What rests on a choice of the model: log
entries 6, 38, 43 and 84. -/
def Obligations.FailingChannelsAreFrozenAndReplaced : Prop :=
  ∀ (t : Ticks) (pc : Fin 128) (s : State), Served s → s.waiting = [] → s.delayLines = [] → noFrees s = true →
    s.dmaQueue = [] → mapSorted s.props = true →
    let w := tickTo t s
    let x := pcRt s pc.val
    let frozen (u : State) (l cause : Nat) : Prop :=
      fsState u pc.val = 2 ∧ (pcRt u pc.val).reads = [] ∧ (pcRt u pc.val).writes = [] ∧ (pcRt u pc.val).stalled = [] ∧
      (pcRt u pc.val).failing = [] ∧ l ∈ u.fsStale ∧
      (∃ v ∈ u.fsMoves, v.lpc = l ∧ v.old = pc.val ∧ v.cause = cause ∧ v.planned = false ∧ v.mapped = false) ∧
      (s.snaps.length < 8 → ∃ z, u.snaps = s.snaps ++ [z] ∧ z.pc = pc.val ∧ z.cause = cause) ∧
      (8 ≤ s.snaps.length → u.snaps = s.snaps) ∧
      (∀ a, memByte u.frame a = if a / 4096 % 120 = l then memEmptyByte else memByte s.frame a)
    (∀ l tag, s.fsMoves = [] → fsState s pc.val = 0 → lpcOf s pc.val = some l →
      (∀ d, ∃ u, exec (.fsUncorrectable t pc tag d) s = .next u ∧ frozen u l 1) ∧
      (∀ o, x.dead.contains tag = false → opByTag x tag = some o → 3 ≤ x.fails → ∃ u, exec (.fsParityFail t pc tag) s = .next u ∧ frozen u l 0)) ∧
    (∀ v q, s.fsMoves = [v] → v.old = pc.val → v.lpc < 120 → q < 128 → v.spare = some q →
      (v.planned = false → v.mapped = false → v.marked = false → fsState s q = 1 →
        ∃ u, exec (.fsSpareIn t pc) s = .next u ∧ getPropN u sysObj pSystemFsPcMap v.lpc = q ∧ fsState u q = 0 ∧
          u.fsMoves = [{ v with marked := true, mapped := true }] ∧
          (∀ a, memByte u.frame a = if a / 4096 % 120 = v.lpc then memEmptyByte else memByte s.frame a) ∧
          (∀ o f, surfOf s o = some f → surfInPc s f pc.val = true → ∃ f', surfOf u o = some f' ∧ f'.state = .lost)) ∧
      (v.planned = false → v.mapped = true → exec (.fsMirror t pc) s = .next (postEvent
        { w with fsMoves := [], fsStale := s.fsStale.filter fun l => decide (l ≠ v.lpc) } 0x1342 sysObj
        (v.lpc * 256 + ((s.ctl.filter fun r => r.lpc == v.lpc).map fun r => r.pages * 4).sum % 2 ^ 32 * 2 ^ 32))) ∧
      (v.planned = true → v.mapped = false → q ≠ pc.val → s.hif.brace = false →
        ∃ u, exec (.fsMigrateCopyDone t pc) s = .next u ∧ getPropN u sysObj pSystemFsPcMap v.lpc = q ∧ fsState u q = 0 ∧
          fsState u pc.val = 3 ∧ u.fsMoves = [] ∧ u.frame = s.frame ∧ u.surfs = s.surfs ∧
          (pcRt u q).reads = x.reads ∧ (pcRt u q).writes = x.writes ∧ (pcRt u pc.val).reads = [] ∧ (pcRt u pc.val).writes = [] ∧
          ∃ k, workOf u 1 pc.val = some k ∧ k.test = true))

/-! ### The control complex -/

/-- R366 to R369, R381, R449, R450. LOCKSTEP_FAULT of a pair in service isolates it and starts its recovery, and a second pair's
fault, or the fourth in an hour, stops both; WATCHDOG_EXPIRY is such a fault, or a reset of the device while the boot ROM runs;
CC_RECOVERY ends with the pair in service, the image in SRAM checked and reloaded where it differs, and what waited for pair A written; DEBUG_HALT halts or resumes a pair while debug is
unlocked, and does nothing else; HANDOVER_END puts the new image in force; HANDOVER_TIMEOUT fails a late handover and recovers
pair A, and does nothing before its time; PAIR_B_RESTART ends the wait for pair B. Each answers a next state, named in its clause,
in every state that meets the clause's conditions. What rests on a choice of the model: log entries 89, 90, 91 and 92. -/
def Obligations.PairsAreRecoveredAndHandedOver : Prop :=
  ∀ (t : Ticks) (s : State), awake s = true → Still s →
    let w := tickTo t s
    let recent := w.now :: s.cc.faults.filter fun f => decide (w.now < f + 3600 * secT)
    let inService (b : Bool) : Prop :=
      if b then s.cc.bFault = false ∧ s.cc.bHold = false ∧ s.cc.haltedB = false else s.cc.aFault = false ∧ s.cc.haltedA = false
    (∀ b cause, firmwareRuns s = true → inService b → s.power.handover = none →
      exec (.lockstepFault t b cause) s = .next (lockstep w b cause)) ∧
    (∀ b, firmwareRuns s = true → inService b → s.power.handover = none → s.cc.wdtEn = true →
      exec (.watchdogExpiry t b) s = .next (lockstep w b .watchdog)) ∧
    (∀ b cause, firmwareRuns s = true → inService b → s.power.handover = none →
      let u := lockstep w b cause
      u.cc.faults = recent ∧
      (s.cc.recovering = none → recent.length < 4 → u.cc.recovering = some (b, cause) ∧ u.cc.stopped = false ∧
        pairMaster b ∈ u.cc.draining ∧ (if b then u.cc.bFault else u.cc.aFault) = true ∧ (b = false → u.hif.handover = true)) ∧
      (s.cc.recovering.isSome = true ∨ 4 ≤ recent.length → u.cc.stopped = true ∧ u.hif.fwFault = true)) ∧
    (s.cc.stage ≠ 4 → s.cc.stopped = false → s.cc.booted = true →
      ∃ u, exec (.watchdogExpiry t false) s = .next u ∧ u.power.inReset = true ∧ u.power.cause = 4) ∧
    (∀ b cause, firmwareRuns s = true → s.cc.recovering = some (b, cause) → s.flights = [] → s.groups = [] →
      let u := recoveryDone w b
      exec (.ccRecovery t b) s = .next u ∧ u.cc.recovering = none ∧ u.cc.recoveries = min (s.cc.recoveries + 1) 255 ∧
        u.cc.sram = (restoreImage w).cc.sram ∧ u.cc.draining = s.cc.draining.erase (pairMaster b) ∧ (if b then u.cc.bFault else u.cc.aFault) = false ∧
        (b = false → u.hif.handover = false ∧ u.heldEvents = [] ∧ u.heldCpls = [])) ∧
    (∀ b halt, s.keys.unlocked = false → exec (.debugHalt t b halt) s = .next w) ∧
    (∀ halt, s.keys.unlocked = true → exec (.debugHalt t true halt) s = .next (setCc w fun c => { c with haltedB := halt })) ∧
    (s.keys.unlocked = true → exec (.debugHalt t false true) s =
      .next (setHif (setCc w fun c => { c with haltedA := true }) fun h => { h with fwReady := false })) ∧
    (s.keys.unlocked = true → s.cc.haltedA = true → firmwareRuns s = true →
      exec (.debugHalt t false false) s = .next (fwReadyNow (setCc w fun c => { c with haltedA := false }))) ∧
    (s.keys.unlocked = true → s.cc.haltedA = false →
      exec (.debugHalt t false false) s = .next (setCc w fun c => { c with haltedA := false })) ∧
    (∀ h, s.power.handover = some h → Served s → s.groups = [] → s.cc.recovering = none →
      ∃ u, exec (.handoverEnd t) s = .next u ∧ u.power.handover = none ∧ u.power.bRestart = true ∧
        u.cc.source = h.slot + 1 ∧ u.hif.handover = false) ∧
    (∀ h, s.power.handover = some h → Served s → s.groups = [] → h.begun + 45 * msT ≤ w.now →
      ∃ u c, exec (.handoverTimeout t) s = .next u ∧ u.power.handover = none ∧
        u.cc.recovering = some (false, c) ∧ u.cc.aFault = true ∧ u.hif.handover = true) ∧
    (∀ h, s.power.handover = some h → Served s → w.now < h.begun + 45 * msT → exec (.handoverTimeout t) s = .next w) ∧
    (Served s → exec (.pairBRestart t) s = .next (setPower w fun p => { p with bRestart := false }))

/-- R370, R372 to R374, R380, R381: scrubbing counts corrected words by row; a drained master's port is released; REMAP is set by a
pair with a path to CC_CONTROL, and another master's write is a decode error; the service port reads flash and the registers, and
SRAM only while debug is unlocked; what an access reaches passes the target port's arbitration. JTAG gives the IDCODE and takes the
balls, which then carry no output. What rests on a choice of the model: log entries 93 and 174. -/
def Obligations.ControlRegistersAndServicePort : Prop :=
  ∀ (t : Ticks) (s : State), Calm s → s.cc.matrix = [] →
    let w := tickTo t s
    let passed (m : BusMaster) (port : Nat) : State := setCc w fun c => { c with granted := mapPut c.granted port (masterIndex m) }
    let reply (v : State) (status len : Nat) (data : List Byte) : State :=
      emit v (.service (toLe 1 status ++ toLe 2 len ++ data ++ toLe 4 (crc32c (toLe 1 status ++ toLe 2 len ++ data))))
    let wrong (m : BusMaster) : State := bumpProp w sysObj pSystemCcDecodeErrors (masterIndex m)
    (∀ rows, ∃ u, exec (.sramScrub t rows) s = .next u ∧ u.props = (bumpProp s sysObj pSystemCcEcc 0 rows.length).props ∧
      ∀ r, mapGetD u.cc.eccRows r 0 = mapGetD s.cc.eccRows r 0 + rows.count r) ∧
    (∀ m, exec (.masterDrainDone t m) s = .next (setCc w fun c => { c with draining := c.draining.erase m })) ∧
    (s.cc.booted = true → s.cc.aFault = false → .pairA ∉ s.cc.draining →
      exec (.remapSet t .pairA) s = .next (setCc (passed .pairA portRegs) fun c => { c with remap := true })) ∧
    (.pairA ∈ s.cc.draining → exec (.remapSet t .pairA) s =
      .next (setCc w fun c => { c with matrix := [⟨.pairA, portRegs, 1, w.now, .remap⟩] })) ∧
    (exec (.remapSet t .dma) s = .next (wrong .dma) ∧
      (.service ∉ s.cc.draining → exec (.remapSet t .service) s = .next (passed .service portRegs))) ∧
    (∀ h, exec (.bHoldWrite t h) s = .next (setCc w fun c => { c with bHold := h })) ∧
    exec (.wdtEnSet t) s = .next (setCc w fun c => { c with wdtEn := true }) ∧
    (∀ a len, 4 ≤ len → len ≤ 256 → .service ∉ s.cc.draining →
      exec (.serviceRead t a len false) s = .next (reply w 1 len []) ∧
      (a + len ≤ 0x10000000 → exec (.serviceRead t (0x20000000 + a) len true) s =
        .next (reply (passed .service portFlash) 0 len (memRead s.cc.flash a len))) ∧
      (a + len ≤ 0x800000 → exec (.serviceRead t (0x10000000 + a) len true) s =
        .next (if s.keys.unlocked then reply (passed .service portSram) 0 len (memRead s.cc.sram a len)
          else reply (wrong .service) 3 len (List.replicate len 0)))) ∧
    (.service ∉ s.cc.draining → exec (.serviceRead t 0x32000000 12 true) s =
      .next (reply (passed .service portRegs) 0 12 (toLe 4 (ccControl s) ++ toLe 4 (ccStatus s) ++ toLe 4 (ccQos s)))) ∧
    (∀ (a : Nat) (data : List Byte), 4 ≤ data.length → data.length ≤ 256 → .service ∉ s.cc.draining →
      exec (.serviceWrite t a data false) s = .next (reply w 1 data.length []) ∧
      (a + data.length ≤ 0x10000000 → exec (.serviceWrite t (0x20000000 + a) data true) s = .next
        (if s.keys.unlocked
         then reply (setCc (passed .service portFlash) fun c => { c with flash := memWrite c.flash a data }) 0 data.length []
         else reply w 4 data.length [])) ∧
      (a + data.length ≤ 0x800000 → exec (.serviceWrite t (0x10000000 + a) data true) s = .next
        (if s.keys.unlocked
         then reply (setCc (passed .service portSram) fun c => { c with sram := memWrite c.sram a data }) 0 data.length []
         else reply w 4 data.length []))) ∧
    exec (.jtagInstruction t .idcode) s = .next (emit (setPower w fun p => { p with taken := false }) (.idcode 0x19648A5F)) ∧
    exec (.jtagInstruction t .extest) s = .next (setPower w fun p => { p with taken := true }) ∧
    (∀ o, s.power.taken = true → emit s o = s)

/-- R375 to R379, R393: after reset the boot ROM waits for a push in boot mode 1, and stands FAILED with code 0x01 on a blank flash
in boot mode 0 and with the second slot's code where both images fail; a verified image starts both pairs, from flash or by a host
push; a push that fails is answered with its code. No closed state has a verified image, since the vendor roots are the device's
own. What rests on a choice of the model: log entries 41 and 42. -/
def Obligations.DevicesBoot : Prop :=
  ∀ (t : Ticks) (ok : Bool) (k : Nat) (s : State), s.power.tripped = false → s.power.mode = 0 →
    let a := preferredSlot s.cc.flash
    let check (slot : Nat) : Nat ⊕ Nat := verifyImage s (imageAt s.cc.flash slot).1 (imageAt s.cc.flash slot).2
    let started (u : State) (source : Nat) : Prop :=
      u.cc.stage = 4 ∧ u.cc.source = source ∧ u.cc.remap = true ∧ u.cc.bHold = false ∧ u.cc.wdtEn = true ∧ u.hif.fwReady = true
    (∀ i j, s.cc.booted = false → ∃ u, exec (.boot t 1 i j ok k) s = .next u ∧ u.cc.stage = 1 ∧ u.cc.pushWait = true ∧
      u.cc.booted = true ∧ u.cc.bHold = true ∧ u.power.inReset = false) ∧
    (s.cc.booted = false → ∃ u, exec (.boot t 0 none none ok k) s = .next u ∧ u.cc.booted = true ∧ u.power.inReset = false ∧
      (flashBlank s.cc.flash = true → u.cc.stage = 15 ∧ u.cc.fail = 1 ∧ u.cc.pushWait = false) ∧
      (flashBlank s.cc.flash = false →
        (∀ c d, check a = .inl c → check (1 - a) = .inl d → u.cc.stage = 15 ∧ u.cc.fail = d ∧ u.cc.pushWait = false) ∧
        (∀ r, check a = .inr r → started u (a + 1)) ∧
        (∀ c r, check a = .inl c → check (1 - a) = .inr r → started u (2 - a)))) ∧
    (∀ r data, awake s = true → s.cc.pushWait = true → headRequest (tickTo t s) 0 = some r → reqOpcode r = 0x70 → reqIndirect r = true →
      reqObj r = sysObj →
      let bytes := padTo (reqSrcLen r) data
      let header := padTo 1024 bytes
      let verdict := verifyImage s header ((bytes.drop 1024).take (imgBodyLen header))
      ∃ u, exec (.hostPush t .ok data) s = .next u ∧ (mbOf u 0).reqHead = (mbOf s 0).reqHead + 1 ∧
        (mbOf u 0).cplTail = (mbOf s 0).cplTail + 1 ∧
        (crc32c bytes ≠ reqSrcCrc r → u.cc.fail = 5 ∧ u.cc.stage = 15) ∧
        (∀ c, crc32c bytes = reqSrcCrc r → verdict = .inl c → u.cc.fail = c ∧ u.cc.stage = 15) ∧
        (∀ n, crc32c bytes = reqSrcCrc r → verdict = .inr n → started u 3))

/-- R390, R392, R401, R402: a slot's mask is replaced when it is due; the DRBG reseeds from the entropy source; a failed health test
makes the keyring DEGRADED, and 1,024 that pass end that; an operating day is burnt, but not in the brace state; a re-enrolment that
succeeds burns its bank's completion bit, and one that fails burns none. What rests on a choice of the model: log entries 133 and
134. -/
def Obligations.KeyringKeepsItself : Prop :=
  ∀ (t : Ticks) (s : State), Calm s → mapSorted s.props = true →
    let w := tickTo t s
    (∀ (slot : Fin 32) (mask : Nat),
      let x := slotOf s slot.val
      (x.due ≤ w.now → exec (.slotRemask t slot mask) s = .next (setKeys w fun k =>
        { k with slots := mapPut k.slots slot.val { x with mask := mask, due := x.due + 10 * msT } })) ∧
      (w.now < x.due → exec (.slotRemask t slot mask) s = .next w)) ∧
    (s.keys.degraded = false →
      exec (.drbgReseed t) s = .next (setKeys { w with free := s.free + 1 } fun k => { k with drbg := Config.freeValue s.free })) ∧
    (s.keys.degraded = true → exec (.drbgReseed t) s = .next w) ∧
    (getPropN s sysObj pSystemKeyringState ≤ 1 →
      (∃ u, exec (.healthTest t false) s = .next u ∧ u.keys = { s.keys with passes := 0, degraded := true } ∧
        getPropN u sysObj pSystemKeyringState = 1) ∧
      (s.keys.degraded = true → 1023 ≤ s.keys.passes → ∃ u, exec (.healthTest t true) s = .next u ∧
        u.keys = { s.keys with passes := 1024, degraded := false } ∧ getPropN u sysObj pSystemKeyringState = 0)) ∧
    (s.keys.degraded = false ∨ s.keys.passes < 1023 →
      exec (.healthTest t true) s = .next (setKeys w fun k => { k with passes := min (s.keys.passes + 1) 1024 })) ∧
    (s.hif.brace = false → ∃ u, exec (.operatingDay t) s = .next u ∧
      u.keys = { s.keys with otp := { s.keys.otp with days := max s.keys.otp.days (min (s.keys.otp.days + 1) 9132) } } ∧
      getProp u sysObj pSystemPufDays = (u.keys.otp.days : Int)) ∧
    (s.hif.brace = true → exec (.operatingDay t) s = .next w) ∧
    (∀ f, s.keys.reenrolling = true → s.hif.brace = false → s.flights.find? (fun g => decide (g.waits = .reenrol)) = some f →
      (∃ u, exec (.reenrolmentComplete t true) s = .next u ∧ u.keys.reenrolling = false ∧
        u.keys.otp = { s.keys.otp with
          bankDone := setBit s.keys.otp.bankDone (((List.range 6).filter fun b => bitOf s.keys.otp.banks b).foldl max 0) true,
          bankDay := max s.keys.otp.bankDay s.keys.otp.days }) ∧
      (∃ u, exec (.reenrolmentComplete t false) s = .next u ∧ u.keys = { s.keys with reenrolling := false }))

/-! ### Illumination -/

/-- R407, R408, R410, R415, R418: on the hinge or pulse that is due, a chain latches the programs shifted in and begins the next
shift 100 ns later, and where a brace state withholds the latch only the shift begins; a shift's end counts the drivers after a restart, and otherwise takes the status that passes its check; a
diagnostic pulse is given once in a latch period, in a predicted gap; a strobe fires at its instant. What rests on a choice of the
model: log entries 60, 61 and 169. -/
def Obligations.ChainsLatchAndStrobesFire : Prop :=
  ∀ (t : Ticks) (n : Fin 8) (s : State), Calm s → mapSorted s.props = true →
    let w := tickTo t s
    let c := n.val
    let o := chainObj c
    let x := chainRt s c
    (latchDue w c = false → exec (.chainLatch t n) s = .next w) ∧
    (latchDue w c = true → latchHeld w c = false → ∃ u, exec (.chainLatch t n) s = .next u ∧
      (chainRt u c).latched = x.shifted ∧ (chainRt u c).ended = x.latched ∧ (chainRt u c).periods = x.periods + 1 ∧
      (chainRt u c).sample = (x.sample + 37) % 128 ∧ (chainRt u c).srcCount = 0 ∧ (chainRt u c).lastLatch = some w.now ∧
      (chainRt u c).pulsed = false ∧ (chainRt u c).shiftFrom = some (w.now + 100 * nsT) ∧ (chainRt u c).shifted = chainPrograms u c ∧
      (s.power.taken = false →
        u.out = (w.now, .chainShift c (shiftWords (chainPrograms u c))) :: (w.now, .chainLatch c) :: s.out)) ∧
    (latchDue w c = true → latchHeld w c = true → exec (.chainLatch t n) s = .next (emit
      (setChainRt w c { x with srcCount := 0, shifted := chainPrograms w c, shiftFrom := some (w.now + 100 * nsT) })
      (.chainShift c (shiftWords (chainPrograms w c))))) ∧
    (∀ ws : List Word,
      (x.shiftFrom = none → exec (.chainShiftComplete t n ws) s = .next w) ∧
      (∀ T, x.shiftFrom = some T → x.counting = true →
        let found := min 64 (ws.length / 25)
        let v := setChainRt (setProp w o pChainFound 0 found) c { x with counting := false, shiftFrom := none }
        (found = getPropN s o pChainDrivers → exec (.chainShiftComplete t n ws) s = .next (setProp v o pChainState 0 1)) ∧
        (found ≠ getPropN s o pChainDrivers →
          exec (.chainShiftComplete t n ws) s = .next (postEvent (setProp v o pChainState 0 2) 0x0E01 o (2 + found * 256)))) ∧
      (∀ T, x.shiftFrom = some T → x.counting = false → getPropN s o pChainDrivers = 1 → ws.length = 25 →
        (statusOk (ws.map (·.toNat)) = false → exec (.chainShiftComplete t n ws) s =
          .next (bumpProp (setChainRt w c { x with shiftFrom := none }) o pChainCrcErrors 0)) ∧
        (statusOk (ws.map (·.toNat)) = true → ∃ u, exec (.chainShiftComplete t n ws) s = .next u ∧
          getProp u o pChainTemps 0 = (bitsOf (atD ws 0 0).toNat 15 8 : Nat) - 64 ∧
          ((chainRt u c).tsd.contains 0 = bitOf (atD ws 0 0).toNat 22) ∧
          (bitOf (atD ws 0 0).toNat 23 = true →
            getProp u o pChainCrcErrors 1 = getProp (bumpProp s o pChainCrcErrors 1) o pChainCrcErrors 1)))) ∧
    (x.pulsed = true → exec (.diagPulse t n) s = .next w) ∧
    (∀ l, x.pulsed = false → s.hif.brace = false → getProp s o pChainState = 1 → diagLamps s c ≠ [] → x.lastLatch = some l →
      exposureRuns s c = true →
      x.gaps.any (fun g => decide (l ≤ g ∧ g ≤ w.now)) = true →
      ∃ u, exec (.diagPulse t n) s = .next u ∧ (chainRt u c).pulsed = true ∧
        (chainRt u c).gaps = x.gaps.filter (fun g => decide (w.now < g)) ∧ (s.power.taken = false → u.out = (w.now, .diagLatch c) :: s.out) ∧
        ∀ i ∈ diagLamps s c, (lampRt u i).lastPulse = some x.periods) ∧
    (∀ e rest, (strobeRt s c).plan = e :: rest →
      (e.1 ≤ w.now → exec (.strobePulse t n) s = .next (emit
        (setStrobeRt w c { strobeRt s c with plan := rest, lastEnd := some e.2 })
        (.strobe c e.1 e.2 (bitOf (getPropN s sysObj pSystemStrobePolarity) c)))) ∧
      (w.now < e.1 → exec (.strobePulse t n) s = .next w))

/-! ### Resets, power states and the brace state -/

/-- R423 to R430, R432 to R435: every source of a reset begins it with its cause, and only the settings of fixed objects that
survive the class are kept; an entry to a power state stops the device at its instant; a wake source ends standby, or boots from
deep standby; the brace state begins and ends, holding commits and deadlines meanwhile. What rests on a choice of the model: log
entries 6, 94, 95, 96, 120 and 121. -/
def Obligations.PowerComesAndGoes : Prop :=
  ∀ (t : Ticks) (s : State), mapSorted s.props = true →
    let w := tickTo t s
    let reset (u : State) (cause : Nat) : Prop :=
      u.power.inReset = true ∧ u.power.cause = cause ∧ getProp u sysObj pSystemResetCause = cause ∧ u.flights = [] ∧ u.objs = [] ∧
      u.surfs = [] ∧ u.frame = [] ∧ u.cc.stage = State.reset.cc.stage ∧ u.hif = State.reset.hif ∧ u.keys.otp = s.keys.otp ∧
      u.cc.flash = s.cc.flash
    let survives (u : State) : Prop := ∀ o pid idx, o ≠ sysObj → pid < 0x10000 → idx < 0x1000000 →
      getProp u o pid idx = if entrySurvives clD (propKey o pid idx) then getProp s o pid idx else propDefault o pid idx
    (s.power.inReset = false → s.power.tripped = false → s.power.braceAt = none → s.works = [] → s.stored = [] →
      (s.power.mode ≠ 3 → ∃ u, exec (.rstNAssert t) s = .next u ∧ reset u 1 ∧ survives u) ∧
      (s.power.mode < 2 → ∃ u, exec (.perstNAssert t) s = .next u ∧ reset u 2 ∧ survives u) ∧
      (∀ T, s.power.mode = 0 → s.power.resetAt = some T → T ≤ w.now →
        ∃ u, exec (.deviceResetStart t) s = .next u ∧ reset u 3 ∧ survives u) ∧
      (∀ (rail : Fin 16) (mv : Nat), s.power.mode ≠ 3 → ∃ u, exec (.supplyReset t rail mv) s = .next u ∧ reset u 5)) ∧
    (∀ lost mode failed, ∃ u, exec (.powerOn t lost mode failed) s = .next u ∧
      u.power.inReset = true ∧ u.power.cause = (if s.power.backupMark then 8 else 0) ∧ u.power.backupMark = false ∧
      u.cc.mode = mode % 4 ∧ u.flights = [] ∧ u.objs = [] ∧ u.frame = [] ∧ u.keys.otp = s.keys.otp) ∧
    (∀ m T, Calm s → s.power.entry = some (m, T) → s.hif.handover = false → s.cc.recovering = none →
      (w.now < T ∨ s.hif.brace = true → exec (.powerStateEntry t) s = .next w) ∧
      (T ≤ w.now → s.hif.brace = false → m = 1 →
        exec (.powerStateEntry t) s = .next (finish s (settle (enterMode w 1))) ∧
        (enterMode w 1).power.mode = 1 ∧ (enterMode w 1).power.entry = none) ∧
      (T ≤ w.now → s.hif.brace = false → m = 2 ∨ m = 3 → ∃ u, exec (.powerStateEntry t) s = .next u ∧ u.power.mode = m ∧
        u.flights = [] ∧ u.cc.stage = State.reset.cc.stage ∧ (m = 3 → u.power.backupMark = true ∧ u.frame = []))) ∧
    (∀ src ok k, Still s → s.power.mode ≠ 3 → wakes w src = false → exec (.wake t src ok k) s = .next w) ∧
    (∀ src ok k, wakes w src = true →
      (s.power.mode = 1 → Still s → s.power.resume = [] → s.heads = [] → s.objs = [] → (∀ h, h < 24 → getProp s (headObj h) pHeadRun = 0) →
        (∀ h, h < 24 → getProp s (headObj h) pHeadRasterState = 0) →
        ∃ u, exec (.wake t src ok k) s = .next u ∧ u.power.mode = 0 ∧ getProp u sysObj pSystemPowerState = 0 ∧
          getProp u sysObj pSystemResetCause = 6) ∧
      (s.power.mode = 2 → s.cc.mode = 1 → ∃ u, exec (.wake t src ok k) s = .next u ∧ u.power.mode = 0 ∧ u.cc.booted = true ∧
        u.cc.stage = 1 ∧ u.cc.pushWait = true)) ∧
    (∀ (rail : Fin 16) (mv : Nat), Calm s →
      (s.power.braceAt = none → ∃ u, exec (.braceBegin t rail mv) s = .next u ∧ u.hif.brace = true ∧ u.power.braceAt = some w.now ∧
        u.power.lowMv = mv ∧ u.power.lowRail = rail.val ∧ u.props = (bumpProp s sysObj pSystemBraceCount).props ∧
        u.flights = (s.flights.map fun f => if f.cls = .hinge ∧ f.left.isNone then
          { f with left := some (f.deadline - max w.now (f.resumes.getD 0)), resumes := none } else f) ∧
        u.heads = s.heads.map fun h => (h.1, { h.2 with
          commits := h.2.commits.map fun c => if c.staged.isSome then { c with held := true } else c })) ∧
      (∀ began, s.power.braceAt = some began → exec (.braceBegin t rail mv) s = .next w ∧
        ∃ u, exec (.braceEnd t rail mv) s = .next u ∧ u.hif.brace = false ∧ u.power.braceAt = none ∧
          (∀ c, c < 8 → (chainRt u c).resumeAt = some (w.now + chainPeriod s c)) ∧
          (∀ h, h < 24 → (headRt s h).commits.any (fun c => c.held) = true →
            (headRt u h).heldUntil = some (w.now + framePeriod s (headObj h)))))

/-! ### Units -/

/-- R439 to R442, R446 to R448, R467: a faulty unit is gloved and reported (a pseudo-channel freezes), and a spare unit goes to its test; firmware prepares a
spare, which takes an idle unit's work at once; an egress engine moves in hardware; a test that passes frees the unit, and one that
fails retires it; ageing and error trends plan moves; temperatures are read, and a trip holds the device. What rests on a choice of
the model: log entries 26, 40 and 132. -/
def Obligations.FaultyUnitsAreReplaced : Prop :=
  ∀ (t : Ticks) (s : State), Calm s → mapSorted s.props = true →
    let w := tickTo t s
    (∀ kind index cause, 2 ≤ kind → index < unitCount kind → s.works = [] →
      let q := unitIdx kind index
      let v := setRole (postEvent w 0x1382 sysObj (kind + index * 256 + cause % 256 * 65536)) q 2 (unitHolds s q)
      (kindRole s kind index = 1 →
        exec (.unitFault t kind index cause) s = .next (putWork v ⟨kind, index, none, false, true, none, 0, 0, none⟩)) ∧
      (kindRole s kind index = 0 → exec (.unitFault t kind index cause) s =
        .next (finish s (settle (putWork (gloveEffects v kind q) ⟨kind, index, none, false, false, none, 0, 0, some w.now⟩)))) ∧
      (2 ≤ kindRole s kind index → exec (.unitFault t kind index cause) s = .next w)) ∧
    (∀ index cause, index < 128 →
      (fsState s index = 0 → lpcOf s index ≠ none → ∃ u, exec (.unitFault t 1 index cause) s = .next u ∧ fsState u index = 2) ∧
      (fsState s index = 1 → s.fsMoves = [] → exec (.unitFault t 1 index cause) s =
        .next (putWork (setFsState (faultEvent w 1 index cause) index 3) ⟨1, index, none, false, true, none, 0, 0, none⟩))) ∧
    (∀ kind index k, workOf s kind index = some k → k.spare = none → k.test = false → 2 ≤ kind → kind < 6 →
      firstFaults s kind index = [] →
      (freeSpare s kind index = none → exec (.sparePrepare t kind index) s =
        .next (dropWork (postEvent w 0x1386 sysObj (kind + index * 256)) kind index)) ∧
      (∀ n, freeSpare s kind index = some n →
        let v := putWork (setRole w (unitIdx kind n) 0 true) { k with spare := some n }
        (idleUnit v kind index = false → exec (.sparePrepare t kind index) s = .next v) ∧
        (idleUnit v kind index = true → exec (.sparePrepare t kind index) s = .next (moveUnit v { k with spare := some n } n 0)))) ∧
    (∀ place : Fin 64, s.places = [] → s.works = [] → unitRole s (unitIdx 6 place.val) = 0 →
      (portsOfEngine s 6 (unitIdx 6 place.val) = []) →
      let v := unitFault w 6 place.val 3
      (∀ n, freeSpare v 6 place.val = some n → exec (.egressEngineSwitch t place) s =
        .next (moveUnit v ⟨6, place.val, some n, false, false, none, 0, 0, some w.now⟩ n 0)) ∧
      (freeSpare v 6 place.val = none → exec (.egressEngineSwitch t place) s =
        .next (dropWork (postEvent v 0x1386 sysObj (6 + place.val * 256)) 6 place.val))) ∧
    (∀ kind index k passed, 2 ≤ kind → index < unitCount kind → kindRole s kind index = 2 → workOf s kind index = some k → k.test = true →
      k.req = none → ∃ u, exec (.unitTested t kind index passed) s = .next u ∧
        kindRole u kind index = (if passed then 1 else 3) ∧ workOf u kind index = none ∧ u.flights = s.flights ∧ u.frame = s.frame) ∧
    (∀ (island : Fin 40) (slow : Nat),
      let v := setProp w sysObj pSystemAgeing island.val (min slow 65535 : Nat)
      let old := getPropN s sysObj pSystemAgeing island.val
      let limit := getPropN s sysObj pSystemAgeLimit
      (old < limit → limit ≤ min slow 65535 → getProp s sysObj pSystemRepairAuto = 1 → exec (.ageing t island slow) s =
        .next (setPower (postEvent v 0x1385 sysObj (island.val + min slow 65535 * 65536)) fun p =>
          { p with ageMoves := s.power.ageMoves ++ islandUnits island.val })) ∧
      (limit ≤ old ∨ min slow 65535 < limit → exec (.ageing t island slow) s = .next v)) ∧
    (∀ pc l q, getProp s sysObj pSystemRepairAuto = 1 → s.hif.brace = false → fsState s pc = 0 → lpcOf s pc = some l →
      sparePc s pc = some q → unitBusy s 1 pc = false → exec (.errorTrendMigrate t 1 pc) s = .next (putWork
        { w with fsMoves := [⟨l, pc, some q, false, true, false, 0, false⟩] } ⟨1, pc, some q, true, false, none, 0, 0, none⟩)) ∧
    (∀ core v, getProp s sysObj pSystemRepairAuto = 1 → s.hif.brace = false → planLane w core none = some v →
      exec (.errorTrendMigrate t 0 core) s = .next v) ∧
    (∀ temps : List Int,
      (temps.all (fun v => decide (v < 125)) = true → ∃ u, exec (.thermalRead t temps) s = .next u ∧ u.power.tripped = false ∧
        ∀ i, i < 40 → i < temps.length → getProp u sysObj pSystemTj i = clampInt (-32768) 32767 (atD temps i 0)) ∧
      ((temps.take 40).any (fun v => decide (125 ≤ v)) = true → ∃ u, exec (.thermalRead t temps) s = .next u ∧
        u.power.tripped = true ∧ u.power.inReset = true ∧ u.flights = []))

/-! ### Tiles, and what commands leave unchanged -/

/-- R126, R128 to R130: every tile of 256 native words that is coded without loss decodes to the same words, from the bytes that its
entry makes a reader fetch, whatever follows them in the slot. -/
def Obligations.TilesDecodeToTheirWords : Prop :=
  ∀ (tile : List Nat) (rest : List Byte), tile.length = 256 → (∀ v ∈ tile, v < 4096) →
    mtcDecode (mtcLossless tile).entry ((mtcLossless tile).bytes ++ rest) = tile ∧
    (mtcLossless tile).bytes.length = mtcFetch (mtcLossless tile).entry ∧ (mtcLossless tile).bytes.length ≤ 384

/-- What commands leave as it is, beside what their own statements say: for each kind of command, the parts of the state that no
command of that kind touches, and the bytes of the frame store where it stores none. -/
def Obligations.CommandsLeaveTheRestUnchanged : Prop :=
  ∀ (t : Ticks) (s u : State) (c : Instr), Calm s → exec c s = .next u →
    let plane := audioPart u = audioPart s ∧ lightPart u = lightPart s ∧ linkPart u = linkPart s
    ((∃ pc, c = .fsRefresh t pc) ∨ (∃ n v, c = .fsTempRead t n v) ∨ (∃ pc g, c = .fsParityBudgetEnd t pc g) →
      plane ∧ hostPart u = hostPart s ∧ mediaPart u = mediaPart s ∧ timePart u = timePart s ∧ ctlPart u = ctlPart s ∧
      u.frame = s.frame) ∧
    (∀ pc g, c = .fsParityFail t pc g ∨ (∃ d, c = .fsUncorrectable t pc g d) →
      plane ∧ hostPart u = hostPart s ∧ mediaPart u = mediaPart s ∧ timePart u = timePart s ∧ ctlPart u = ctlPart s ∧
      ∀ a, lpcOf s pc.val ≠ some (a / 4096 % 120) → memByte u.frame a = memByte s.frame a) ∧
    ((∃ n p q, c = .refEvent t n p q) ∨ (∃ n, c = .refLoss t n) ∨ c = .dpllStageAdvance t →
      plane ∧ hostPart u = hostPart s ∧ mediaPart u = mediaPart s ∧ storePart u = storePart s ∧ ctlPart u = ctlPart s ∧
      u.frame = s.frame) ∧
    ((∃ d, c = .audioSamplePeriod t d) ∨ (∃ d, c = .audioChangeTimeout t d) ∨ (∃ n b bs, s.rings = [] ∧ c = .tdmFrameClockEdge t n b bs) →
      hostPart u = hostPart s ∧ mediaPart u = mediaPart s ∧ lightPart u = lightPart s ∧ timePart u = timePart s ∧
      linkPart u = linkPart s ∧ storePart u = storePart s ∧ ctlPart u = ctlPart s ∧ u.frame = s.frame) ∧
    ((∃ o, c = .postTimeout t o) ∨ (∃ o, c = .cepraReady t o) →
      plane ∧ hostPart u = hostPart s ∧ { mediaPart u with rings := s.rings } = mediaPart s ∧ timePart u = timePart s ∧
      storePart u = storePart s ∧ ctlPart u = ctlPart s ∧ u.frame = s.frame) ∧
    ((∃ n, c = .chainLatch t n) ∨ (∃ n ws, c = .chainShiftComplete t n ws) ∨ (∃ n, c = .diagPulse t n) →
      audioPart u = audioPart s ∧ linkPart u = linkPart s ∧ hostPart u = hostPart s ∧ mediaPart u = mediaPart s ∧
      timePart u = timePart s ∧ storePart u = storePart s ∧ ctlPart u = ctlPart s ∧ u.frame = s.frame) ∧
    ((∃ p, c = .healthTest t p) ∨ c = .operatingDay t ∨ (∃ rows, c = .sramScrub t rows) →
      plane ∧ hostPart u = hostPart s ∧ mediaPart u = mediaPart s ∧ timePart u = timePart s ∧ storePart u = storePart s ∧
      u.frame = s.frame) ∧
    ((∃ b k, c = .lockstepFault t b k) ∨ (∃ rail mv, c = .braceBegin t rail mv) →
      plane ∧ { mediaPart u with heads := s.heads } = mediaPart s ∧ timePart u = timePart s ∧ storePart u = storePart s ∧
      u.keys = s.keys ∧ u.frame = s.frame) ∧
    ((∃ r i, c = .shapeJobStart t r i) ∨ (∃ r, c = .convertJobStart r) ∨ (∃ r, c = .convertCutoff r) →
      plane ∧ timePart u = timePart s ∧ storePart u = storePart s ∧ ctlPart u = ctlPart s ∧ u.heads = s.heads ∧ u.ports = s.ports ∧
      u.lanes = s.lanes ∧ u.outs = s.outs ∧ u.frame = s.frame) ∧
    ((∃ r i, c = .shapeJobEnd t r i) ∨ (∃ r, c = .convertFoldEnd t r) ∨ (∃ r, c = .convertFinishEnd t r) →
      plane ∧ timePart u = timePart s ∧ storePart u = storePart s ∧ ctlPart u = ctlPart s ∧ hostPart u = hostPart s ∧
      u.heads = s.heads ∧ u.ports = s.ports ∧ u.lanes = s.lanes ∧ u.outs = s.outs) ∧
    ((∃ h bad, c = .hinge h bad) ∨ (∃ h, c = .headStartH0 h) →
      timePart u = timePart s ∧ ctlPart u = ctlPart s ∧ u.pcs = s.pcs ∧ u.snaps = s.snaps ∧ u.tdms = s.tdms ∧ u.srcs = s.srcs ∧
      u.ports = s.ports ∧ u.lanes = s.lanes ∧ u.trigs = s.trigs ∧ u.frame = s.frame) ∧
    (∀ p l ws, c = .mslFrameStart t p l ws →
      audioPart u = audioPart s ∧ linkPart u = linkPart s ∧ timePart u = timePart s ∧ storePart u = storePart s ∧
      ctlPart u = ctlPart s ∧ u.heads = s.heads ∧ u.outs = s.outs ∧ u.trigs = s.trigs ∧
      ∀ n, n ∉ atD (portIn s (objId clsPortIn p.val)).runs l [] → laneOf u n = laneOf s n)
end

