-- ==== Sys2Proof/Laws/Maps.lean ====
section
/-! SUPPORT. Sparse maps and byte memory: a read after a write, and the canonical form that every operation keeps. -/

namespace Sys2Proof.Machine

variable {α : Type}

/-- What is put is read back. -/
@[simp] theorem mapGet_mapPut_same (m : Map α) (j : Nat) (w : α) : mapGet (mapPut m j w) j = some w := by
  induction m with
  | nil => simp [mapPut, mapGet]
  | cons e m ih =>
    obtain ⟨k, v⟩ := e
    simp only [mapPut]
    split
    · simp [mapGet]
    · split
      · simp [mapGet]
      · rename_i h1 h2
        simp [mapGet, Ne.symm h2, ih]

/-- What is put leaves every other key. -/
theorem mapGet_mapPut_ne (m : Map α) {i j : Nat} (w : α) (h : i ≠ j) : mapGet (mapPut m j w) i = mapGet m i := by
  induction m with
  | nil => simp [mapPut, mapGet, Ne.symm h]
  | cons e m ih =>
    obtain ⟨k, v⟩ := e
    simp only [mapPut]
    split
    · simp [mapGet, Ne.symm h]
    · split
      · rename_i h1 h2
        subst h2
        simp [mapGet, Ne.symm h]
      · simp [mapGet, ih]

/-- What is put is read back through a default. -/
@[simp] theorem mapGetD_mapPut_same (m : Map α) (j : Nat) (w d : α) : mapGetD (mapPut m j w) j d = w := by simp [mapGetD]

theorem mapGetD_mapPut_ne (m : Map α) {i j : Nat} (w d : α) (h : i ≠ j) : mapGetD (mapPut m j w) i d = mapGetD m i d := by
  simp [mapGetD, mapGet_mapPut_ne m w h]

/-- A removed key leaves every other key. -/
theorem mapGet_mapDel_ne (m : Map α) {i j : Nat} (h : i ≠ j) : mapGet (mapDel m j) i = mapGet m i := by
  induction m with
  | nil => simp [mapDel, mapGet]
  | cons e m ih =>
    obtain ⟨k, v⟩ := e
    simp only [mapDel]
    split
    · rename_i hk
      subst hk
      simp [mapGet, Ne.symm h]
    · simp [mapGet, ih]

/-- The keys of a sorted map lie above a bound. -/
def mapAbove (b : Nat) (m : Map α) : Prop := ∀ e ∈ m, b < e.1

theorem mapSorted_cons (e : Nat × α) (m : Map α) :
    mapSorted (e :: m) = true ↔ mapAbove e.1 m ∧ mapSorted m = true := by
  induction m generalizing e with
  | nil => simp [mapSorted, mapAbove]
  | cons d m ih =>
    obtain ⟨k, v⟩ := e
    obtain ⟨k', v'⟩ := d
    have ih' := ih (k', v')
    simp only [mapSorted, Bool.and_eq_true, decide_eq_true_eq, mapAbove] at *
    constructor
    · rintro ⟨hk, hs⟩
      refine ⟨?_, hs⟩
      intro x hx
      rcases List.mem_cons.1 hx with rfl | hx
      · exact hk
      · exact Nat.lt_trans hk ((ih'.1 hs).1 x hx)
    · rintro ⟨ha, hs⟩
      exact ⟨ha _ (List.mem_cons_self ..), hs⟩

theorem mapPut_mem (m : Map α) (j : Nat) (w : α) (e : Nat × α) (h : e ∈ mapPut m j w) : e = (j, w) ∨ e ∈ m := by
  induction m with
  | nil => simpa [mapPut] using h
  | cons d m ih =>
    obtain ⟨k, v⟩ := d
    simp only [mapPut] at h
    split at h
    · simpa using h
    · split at h
      · rcases List.mem_cons.1 h with h | h
        · exact .inl h
        · exact .inr (List.mem_cons_of_mem _ h)
      · rcases List.mem_cons.1 h with h | h
        · exact .inr (h ▸ List.mem_cons_self ..)
        · exact (ih h).imp id (List.mem_cons_of_mem _)

theorem mapDel_mem (m : Map α) (j : Nat) (e : Nat × α) (h : e ∈ mapDel m j) : e ∈ m := by
  induction m with
  | nil => simp [mapDel] at h
  | cons d m ih =>
    obtain ⟨k, v⟩ := d
    simp only [mapDel] at h
    split at h
    · exact List.mem_cons_of_mem _ h
    · rcases List.mem_cons.1 h with h | h
      · exact h ▸ List.mem_cons_self ..
      · exact List.mem_cons_of_mem _ (ih h)

/-- Putting keeps the keys rising. -/
theorem mapSorted_mapPut (m : Map α) (j : Nat) (w : α) (h : mapSorted m = true) : mapSorted (mapPut m j w) = true := by
  induction m with
  | nil => simp [mapPut, mapSorted]
  | cons d m ih =>
    obtain ⟨k, v⟩ := d
    have hc := (mapSorted_cons _ _).1 h
    simp only [mapPut]
    split
    · rename_i hj
      refine (mapSorted_cons _ _).2 ⟨?_, h⟩
      intro e he
      rcases List.mem_cons.1 he with rfl | he
      · exact hj
      · exact Nat.lt_trans hj (hc.1 e he)
    · split
      · rename_i h1 h2
        subst h2
        exact (mapSorted_cons _ _).2 ⟨hc.1, hc.2⟩
      · rename_i h1 h2
        refine (mapSorted_cons _ _).2 ⟨?_, ih hc.2⟩
        intro e he
        rcases mapPut_mem m j w e he with rfl | he
        · show k < j
          omega
        · exact hc.1 e he

/-- Removing keeps the keys rising. -/
theorem mapSorted_mapDel (m : Map α) (j : Nat) (h : mapSorted m = true) : mapSorted (mapDel m j) = true := by
  induction m with
  | nil => simp [mapDel, mapSorted]
  | cons d m ih =>
    obtain ⟨k, v⟩ := d
    have hc := (mapSorted_cons _ _).1 h
    simp only [mapDel]
    split
    · exact hc.2
    · exact (mapSorted_cons _ _).2 ⟨fun e he => hc.1 e (mapDel_mem m j e he), ih hc.2⟩

/-- Keeping some of the keys keeps them rising. -/
theorem mapSorted_filter (m : Map α) (p : Nat × α → Bool) (h : mapSorted m = true) : mapSorted (m.filter p) = true := by
  induction m with
  | nil => simp [mapSorted]
  | cons d m ih =>
    have hc := (mapSorted_cons _ _).1 h
    simp only [List.filter_cons]
    split
    · exact (mapSorted_cons _ _).2 ⟨fun e he => hc.1 e ((List.mem_filter.1 he).1), ih hc.2⟩
    · exact ih hc.2

/-- A removed key of a sorted map reads as absent. -/
theorem mapGet_mapDel_same (m : Map α) (j : Nat) (h : mapSorted m = true) : mapGet (mapDel m j) j = none := by
  induction m with
  | nil => simp [mapDel, mapGet]
  | cons d m ih =>
    obtain ⟨k, v⟩ := d
    have hc := (mapSorted_cons _ _).1 h
    simp only [mapDel]
    split
    · rename_i hk
      subst hk
      clear ih
      have hn : ∀ (l : Map α), mapAbove k l → mapGet l k = none := by
        intro l
        induction l with
        | nil => intro _; rfl
        | cons x l ihl =>
          intro ha
          have hx := ha x (List.mem_cons_self ..)
          obtain ⟨a, b⟩ := x
          have : a ≠ k := Nat.ne_of_gt hx
          simp [mapGet, this, ihl fun e he => ha e (List.mem_cons_of_mem _ he)]
      exact hn m hc.1
    · rename_i hk
      simp [mapGet, hk, ih hc.2]

/-! ### Byte memory -/

/-- The canonical form in its two parts. -/
theorem memWf_iff (m : Mem) : memWf m = true ↔ mapSorted m = true ∧ ∀ c ∈ m, c.2 ≠ memEmptyByte := by
  simp [memWf, Bool.and_eq_true, List.all_eq_true]

/-- A byte written is read back. -/
theorem memByte_memPut_same (m : Mem) (a : Nat) (b : Byte) (h : Memory.wf m = true) : memByte (memPut m a b) a = b := by
  unfold memByte memPut
  split
  · rename_i hb
    rw [mapGet_mapDel_same m a ((memWf_iff m).1 h).1]
    simp [hb]
  · simp

/-- A byte written leaves every other address. -/
theorem memByte_memPut_ne (m : Mem) {x a : Nat} (b : Byte) (h : x ≠ a) : memByte (memPut m a b) x = memByte m x := by
  unfold memByte memPut
  split
  · rw [mapGet_mapDel_ne m h]
  · rw [mapGet_mapPut_ne m b h]

/-- Writing a byte keeps the canonical form. -/
theorem memWf_memPut (m : Mem) (a : Nat) (b : Byte) (h : Memory.wf m = true) : Memory.wf (memPut m a b) = true := by
  have hm := (memWf_iff m).1 h
  refine (memWf_iff _).2 ?_
  unfold memPut
  split
  · exact ⟨mapSorted_mapDel m a hm.1, fun c hc => hm.2 c (mapDel_mem m a c hc)⟩
  · rename_i hb
    refine ⟨mapSorted_mapPut m a b hm.1, fun c hc => ?_⟩
    rcases mapPut_mem m a b c hc with rfl | hc
    · exact hb
    · exact hm.2 c hc

/-- Writing bytes keeps the canonical form. -/
theorem memWf_memWrite (m : Mem) (a : Nat) (bs : List Byte) (h : Memory.wf m = true) : Memory.wf (memWrite m a bs) = true := by
  induction bs generalizing m a with
  | nil => exact h
  | cons b bs ih => exact ih _ _ (memWf_memPut m a b h)

/-- Bytes written leave every address outside them. -/
theorem memByte_memWrite_out (m : Mem) (a x : Nat) (bs : List Byte) (h : x < a ∨ a + bs.length ≤ x) :
    memByte (memWrite m a bs) x = memByte m x := by
  induction bs generalizing m a with
  | nil => rfl
  | cons b bs ih =>
    simp only [List.length_cons] at h
    rw [memWrite, ih _ _ (by omega), memByte_memPut_ne _ _ (by omega)]

/-- Bytes written are read back. -/
theorem memRead_memWrite (m : Mem) (a : Nat) (bs : List Byte) (h : Memory.wf m = true) :
    memRead (memWrite m a bs) a bs.length = bs := by
  induction bs generalizing m a with
  | nil => rfl
  | cons b bs ih =>
    simp only [memWrite, List.length_cons, memRead]
    rw [ih _ _ (memWf_memPut m a b h), memByte_memWrite_out _ _ _ _ (by omega), memByte_memPut_same m a b h]

/-- Clearing an extent keeps the canonical form. -/
theorem memWf_memClear (m : Mem) (a n : Nat) (h : Memory.wf m = true) : Memory.wf (memClear m a n) = true := by
  have hm := (memWf_iff m).1 h
  exact (memWf_iff _).2 ⟨mapSorted_filter m _ hm.1, fun c hc => hm.2 c ((List.mem_filter.1 hc).1)⟩

/-- Clearing a logical pseudo-channel keeps the canonical form. -/
theorem memWf_clearLpc (m : Mem) (l : Nat) (h : Memory.wf m = true) : Memory.wf (clearLpc m l) = true := by
  have hm := (memWf_iff m).1 h
  exact (memWf_iff _).2 ⟨mapSorted_filter m _ hm.1, fun c hc => hm.2 c ((List.mem_filter.1 hc).1)⟩

end Sys2Proof.Machine
end

