-- ==== Sys2Proof/Laws/State.lean ====
section
/-! SUPPORT. What each update of the state leaves of each field: one lemma for each field and each update. -/

namespace Sys2Proof.Machine

/-! ### `tickTo` changes `now` alone -/

@[simp] theorem tickTo_hif (t : Ticks) (s : State) : (tickTo t s).hif = s.hif := rfl
@[simp] theorem tickTo_msixMask (t : Ticks) (s : State) : (tickTo t s).msixMask = s.msixMask := rfl
@[simp] theorem tickTo_functionMask (t : Ticks) (s : State) : (tickTo t s).functionMask = s.functionMask := rfl
@[simp] theorem tickTo_mbs (t : Ticks) (s : State) : (tickTo t s).mbs = s.mbs := rfl
@[simp] theorem tickTo_evs (t : Ticks) (s : State) : (tickTo t s).evs = s.evs := rfl
@[simp] theorem tickTo_bar0 (t : Ticks) (s : State) : (tickTo t s).bar0 = s.bar0 := rfl
@[simp] theorem tickTo_props (t : Ticks) (s : State) : (tickTo t s).props = s.props := rfl
@[simp] theorem tickTo_stored (t : Ticks) (s : State) : (tickTo t s).stored = s.stored := rfl
@[simp] theorem tickTo_objs (t : Ticks) (s : State) : (tickTo t s).objs = s.objs := rfl
@[simp] theorem tickTo_nextInst (t : Ticks) (s : State) : (tickTo t s).nextInst = s.nextInst := rfl
@[simp] theorem tickTo_objSubs (t : Ticks) (s : State) : (tickTo t s).objSubs = s.objSubs := rfl
@[simp] theorem tickTo_classSubs (t : Ticks) (s : State) : (tickTo t s).classSubs = s.classSubs := rfl
@[simp] theorem tickTo_flights (t : Ticks) (s : State) : (tickTo t s).flights = s.flights := rfl
@[simp] theorem tickTo_waiting (t : Ticks) (s : State) : (tickTo t s).waiting = s.waiting := rfl
@[simp] theorem tickTo_heldEvents (t : Ticks) (s : State) : (tickTo t s).heldEvents = s.heldEvents := rfl
@[simp] theorem tickTo_heldCpls (t : Ticks) (s : State) : (tickTo t s).heldCpls = s.heldCpls := rfl
@[simp] theorem tickTo_dma (t : Ticks) (s : State) : (tickTo t s).dma = s.dma := rfl
@[simp] theorem tickTo_dmaDead (t : Ticks) (s : State) : (tickTo t s).dmaDead = s.dmaDead := rfl
@[simp] theorem tickTo_dmaLate (t : Ticks) (s : State) : (tickTo t s).dmaLate = s.dmaLate := rfl
@[simp] theorem tickTo_dmaQueue (t : Ticks) (s : State) : (tickTo t s).dmaQueue = s.dmaQueue := rfl
@[simp] theorem tickTo_nextTag (t : Ticks) (s : State) : (tickTo t s).nextTag = s.nextTag := rfl
@[simp] theorem tickTo_surfs (t : Ticks) (s : State) : (tickTo t s).surfs = s.surfs := rfl
@[simp] theorem tickTo_rings (t : Ticks) (s : State) : (tickTo t s).rings = s.rings := rfl
@[simp] theorem tickTo_ctl (t : Ticks) (s : State) : (tickTo t s).ctl = s.ctl := rfl
@[simp] theorem tickTo_recPages (t : Ticks) (s : State) : (tickTo t s).recPages = s.recPages := rfl
@[simp] theorem tickTo_orders (t : Ticks) (s : State) : (tickTo t s).orders = s.orders := rfl
@[simp] theorem tickTo_frame (t : Ticks) (s : State) : (tickTo t s).frame = s.frame := rfl
@[simp] theorem tickTo_heads (t : Ticks) (s : State) : (tickTo t s).heads = s.heads := rfl
@[simp] theorem tickTo_layers (t : Ticks) (s : State) : (tickTo t s).layers = s.layers := rfl
@[simp] theorem tickTo_routes (t : Ticks) (s : State) : (tickTo t s).routes = s.routes := rfl
@[simp] theorem tickTo_charges (t : Ticks) (s : State) : (tickTo t s).charges = s.charges := rfl
@[simp] theorem tickTo_slices (t : Ticks) (s : State) : (tickTo t s).slices = s.slices := rfl
@[simp] theorem tickTo_ports (t : Ticks) (s : State) : (tickTo t s).ports = s.ports := rfl
@[simp] theorem tickTo_lanes (t : Ticks) (s : State) : (tickTo t s).lanes = s.lanes := rfl
@[simp] theorem tickTo_groups (t : Ticks) (s : State) : (tickTo t s).groups = s.groups := rfl
@[simp] theorem tickTo_groupCount (t : Ticks) (s : State) : (tickTo t s).groupCount = s.groupCount := rfl
@[simp] theorem tickTo_hls (t : Ticks) (s : State) : (tickTo t s).hls = s.hls := rfl
@[simp] theorem tickTo_hlGrants (t : Ticks) (s : State) : (tickTo t s).hlGrants = s.hlGrants := rfl
@[simp] theorem tickTo_hlJoins (t : Ticks) (s : State) : (tickTo t s).hlJoins = s.hlJoins := rfl
@[simp] theorem tickTo_dests (t : Ticks) (s : State) : (tickTo t s).dests = s.dests := rfl
@[simp] theorem tickTo_paths (t : Ticks) (s : State) : (tickTo t s).paths = s.paths := rfl
@[simp] theorem tickTo_srcs (t : Ticks) (s : State) : (tickTo t s).srcs = s.srcs := rfl
@[simp] theorem tickTo_tdms (t : Ticks) (s : State) : (tickTo t s).tdms = s.tdms := rfl
@[simp] theorem tickTo_delayLines (t : Ticks) (s : State) : (tickTo t s).delayLines = s.delayLines := rfl
@[simp] theorem tickTo_delayCount (t : Ticks) (s : State) : (tickTo t s).delayCount = s.delayCount := rfl
@[simp] theorem tickTo_outs (t : Ticks) (s : State) : (tickTo t s).outs = s.outs := rfl
@[simp] theorem tickTo_dpPins (t : Ticks) (s : State) : (tickTo t s).dpPins = s.dpPins := rfl
@[simp] theorem tickTo_laneTxs (t : Ticks) (s : State) : (tickTo t s).laneTxs = s.laneTxs := rfl
@[simp] theorem tickTo_keys (t : Ticks) (s : State) : (tickTo t s).keys = s.keys := rfl
@[simp] theorem tickTo_cc (t : Ticks) (s : State) : (tickTo t s).cc = s.cc := rfl
@[simp] theorem tickTo_refs (t : Ticks) (s : State) : (tickTo t s).refs = s.refs := rfl
@[simp] theorem tickTo_tb (t : Ticks) (s : State) : (tickTo t s).tb = s.tb := rfl
@[simp] theorem tickTo_pcs (t : Ticks) (s : State) : (tickTo t s).pcs = s.pcs := rfl
@[simp] theorem tickTo_snaps (t : Ticks) (s : State) : (tickTo t s).snaps = s.snaps := rfl
@[simp] theorem tickTo_fsMoves (t : Ticks) (s : State) : (tickTo t s).fsMoves = s.fsMoves := rfl
@[simp] theorem tickTo_fsStale (t : Ticks) (s : State) : (tickTo t s).fsStale = s.fsStale := rfl
@[simp] theorem tickTo_chains (t : Ticks) (s : State) : (tickTo t s).chains = s.chains := rfl
@[simp] theorem tickTo_lamps (t : Ticks) (s : State) : (tickTo t s).lamps = s.lamps := rfl
@[simp] theorem tickTo_tallyOff (t : Ticks) (s : State) : (tickTo t s).tallyOff = s.tallyOff := rfl
@[simp] theorem tickTo_strobes (t : Ticks) (s : State) : (tickTo t s).strobes = s.strobes := rfl
@[simp] theorem tickTo_trigs (t : Ticks) (s : State) : (tickTo t s).trigs = s.trigs := rfl
@[simp] theorem tickTo_works (t : Ticks) (s : State) : (tickTo t s).works = s.works := rfl
@[simp] theorem tickTo_places (t : Ticks) (s : State) : (tickTo t s).places = s.places := rfl
@[simp] theorem tickTo_power (t : Ticks) (s : State) : (tickTo t s).power = s.power := rfl
@[simp] theorem tickTo_out (t : Ticks) (s : State) : (tickTo t s).out = s.out := rfl
@[simp] theorem tickTo_free (t : Ticks) (s : State) : (tickTo t s).free = s.free := rfl
@[simp] theorem tickTo_pending (t : Ticks) (s : State) : (tickTo t s).pending = s.pending := rfl

/-! ### `setProp` changes `props` alone -/

@[simp] theorem setProp_now (s : State) (o : ObjId) (pid idx : Nat) (v : Int) : (setProp s o pid idx v).now = s.now := rfl
@[simp] theorem setProp_hif (s : State) (o : ObjId) (pid idx : Nat) (v : Int) : (setProp s o pid idx v).hif = s.hif := rfl
@[simp] theorem setProp_msixMask (s : State) (o : ObjId) (pid idx : Nat) (v : Int) : (setProp s o pid idx v).msixMask = s.msixMask := rfl
@[simp] theorem setProp_functionMask (s : State) (o : ObjId) (pid idx : Nat) (v : Int) : (setProp s o pid idx v).functionMask = s.functionMask := rfl
@[simp] theorem setProp_mbs (s : State) (o : ObjId) (pid idx : Nat) (v : Int) : (setProp s o pid idx v).mbs = s.mbs := rfl
@[simp] theorem setProp_evs (s : State) (o : ObjId) (pid idx : Nat) (v : Int) : (setProp s o pid idx v).evs = s.evs := rfl
@[simp] theorem setProp_bar0 (s : State) (o : ObjId) (pid idx : Nat) (v : Int) : (setProp s o pid idx v).bar0 = s.bar0 := rfl
@[simp] theorem setProp_stored (s : State) (o : ObjId) (pid idx : Nat) (v : Int) : (setProp s o pid idx v).stored = s.stored := rfl
@[simp] theorem setProp_objs (s : State) (o : ObjId) (pid idx : Nat) (v : Int) : (setProp s o pid idx v).objs = s.objs := rfl
@[simp] theorem setProp_nextInst (s : State) (o : ObjId) (pid idx : Nat) (v : Int) : (setProp s o pid idx v).nextInst = s.nextInst := rfl
@[simp] theorem setProp_objSubs (s : State) (o : ObjId) (pid idx : Nat) (v : Int) : (setProp s o pid idx v).objSubs = s.objSubs := rfl
@[simp] theorem setProp_classSubs (s : State) (o : ObjId) (pid idx : Nat) (v : Int) : (setProp s o pid idx v).classSubs = s.classSubs := rfl
@[simp] theorem setProp_flights (s : State) (o : ObjId) (pid idx : Nat) (v : Int) : (setProp s o pid idx v).flights = s.flights := rfl
@[simp] theorem setProp_waiting (s : State) (o : ObjId) (pid idx : Nat) (v : Int) : (setProp s o pid idx v).waiting = s.waiting := rfl
@[simp] theorem setProp_heldEvents (s : State) (o : ObjId) (pid idx : Nat) (v : Int) : (setProp s o pid idx v).heldEvents = s.heldEvents := rfl
@[simp] theorem setProp_heldCpls (s : State) (o : ObjId) (pid idx : Nat) (v : Int) : (setProp s o pid idx v).heldCpls = s.heldCpls := rfl
@[simp] theorem setProp_dma (s : State) (o : ObjId) (pid idx : Nat) (v : Int) : (setProp s o pid idx v).dma = s.dma := rfl
@[simp] theorem setProp_dmaDead (s : State) (o : ObjId) (pid idx : Nat) (v : Int) : (setProp s o pid idx v).dmaDead = s.dmaDead := rfl
@[simp] theorem setProp_dmaLate (s : State) (o : ObjId) (pid idx : Nat) (v : Int) : (setProp s o pid idx v).dmaLate = s.dmaLate := rfl
@[simp] theorem setProp_dmaQueue (s : State) (o : ObjId) (pid idx : Nat) (v : Int) : (setProp s o pid idx v).dmaQueue = s.dmaQueue := rfl
@[simp] theorem setProp_nextTag (s : State) (o : ObjId) (pid idx : Nat) (v : Int) : (setProp s o pid idx v).nextTag = s.nextTag := rfl
@[simp] theorem setProp_surfs (s : State) (o : ObjId) (pid idx : Nat) (v : Int) : (setProp s o pid idx v).surfs = s.surfs := rfl
@[simp] theorem setProp_rings (s : State) (o : ObjId) (pid idx : Nat) (v : Int) : (setProp s o pid idx v).rings = s.rings := rfl
@[simp] theorem setProp_ctl (s : State) (o : ObjId) (pid idx : Nat) (v : Int) : (setProp s o pid idx v).ctl = s.ctl := rfl
@[simp] theorem setProp_recPages (s : State) (o : ObjId) (pid idx : Nat) (v : Int) : (setProp s o pid idx v).recPages = s.recPages := rfl
@[simp] theorem setProp_orders (s : State) (o : ObjId) (pid idx : Nat) (v : Int) : (setProp s o pid idx v).orders = s.orders := rfl
@[simp] theorem setProp_frame (s : State) (o : ObjId) (pid idx : Nat) (v : Int) : (setProp s o pid idx v).frame = s.frame := rfl
@[simp] theorem setProp_heads (s : State) (o : ObjId) (pid idx : Nat) (v : Int) : (setProp s o pid idx v).heads = s.heads := rfl
@[simp] theorem setProp_layers (s : State) (o : ObjId) (pid idx : Nat) (v : Int) : (setProp s o pid idx v).layers = s.layers := rfl
@[simp] theorem setProp_routes (s : State) (o : ObjId) (pid idx : Nat) (v : Int) : (setProp s o pid idx v).routes = s.routes := rfl
@[simp] theorem setProp_charges (s : State) (o : ObjId) (pid idx : Nat) (v : Int) : (setProp s o pid idx v).charges = s.charges := rfl
@[simp] theorem setProp_slices (s : State) (o : ObjId) (pid idx : Nat) (v : Int) : (setProp s o pid idx v).slices = s.slices := rfl
@[simp] theorem setProp_ports (s : State) (o : ObjId) (pid idx : Nat) (v : Int) : (setProp s o pid idx v).ports = s.ports := rfl
@[simp] theorem setProp_lanes (s : State) (o : ObjId) (pid idx : Nat) (v : Int) : (setProp s o pid idx v).lanes = s.lanes := rfl
@[simp] theorem setProp_groups (s : State) (o : ObjId) (pid idx : Nat) (v : Int) : (setProp s o pid idx v).groups = s.groups := rfl
@[simp] theorem setProp_groupCount (s : State) (o : ObjId) (pid idx : Nat) (v : Int) : (setProp s o pid idx v).groupCount = s.groupCount := rfl
@[simp] theorem setProp_hls (s : State) (o : ObjId) (pid idx : Nat) (v : Int) : (setProp s o pid idx v).hls = s.hls := rfl
@[simp] theorem setProp_hlGrants (s : State) (o : ObjId) (pid idx : Nat) (v : Int) : (setProp s o pid idx v).hlGrants = s.hlGrants := rfl
@[simp] theorem setProp_hlJoins (s : State) (o : ObjId) (pid idx : Nat) (v : Int) : (setProp s o pid idx v).hlJoins = s.hlJoins := rfl
@[simp] theorem setProp_dests (s : State) (o : ObjId) (pid idx : Nat) (v : Int) : (setProp s o pid idx v).dests = s.dests := rfl
@[simp] theorem setProp_paths (s : State) (o : ObjId) (pid idx : Nat) (v : Int) : (setProp s o pid idx v).paths = s.paths := rfl
@[simp] theorem setProp_srcs (s : State) (o : ObjId) (pid idx : Nat) (v : Int) : (setProp s o pid idx v).srcs = s.srcs := rfl
@[simp] theorem setProp_tdms (s : State) (o : ObjId) (pid idx : Nat) (v : Int) : (setProp s o pid idx v).tdms = s.tdms := rfl
@[simp] theorem setProp_delayLines (s : State) (o : ObjId) (pid idx : Nat) (v : Int) : (setProp s o pid idx v).delayLines = s.delayLines := rfl
@[simp] theorem setProp_delayCount (s : State) (o : ObjId) (pid idx : Nat) (v : Int) : (setProp s o pid idx v).delayCount = s.delayCount := rfl
@[simp] theorem setProp_outs (s : State) (o : ObjId) (pid idx : Nat) (v : Int) : (setProp s o pid idx v).outs = s.outs := rfl
@[simp] theorem setProp_dpPins (s : State) (o : ObjId) (pid idx : Nat) (v : Int) : (setProp s o pid idx v).dpPins = s.dpPins := rfl
@[simp] theorem setProp_laneTxs (s : State) (o : ObjId) (pid idx : Nat) (v : Int) : (setProp s o pid idx v).laneTxs = s.laneTxs := rfl
@[simp] theorem setProp_keys (s : State) (o : ObjId) (pid idx : Nat) (v : Int) : (setProp s o pid idx v).keys = s.keys := rfl
@[simp] theorem setProp_cc (s : State) (o : ObjId) (pid idx : Nat) (v : Int) : (setProp s o pid idx v).cc = s.cc := rfl
@[simp] theorem setProp_refs (s : State) (o : ObjId) (pid idx : Nat) (v : Int) : (setProp s o pid idx v).refs = s.refs := rfl
@[simp] theorem setProp_tb (s : State) (o : ObjId) (pid idx : Nat) (v : Int) : (setProp s o pid idx v).tb = s.tb := rfl
@[simp] theorem setProp_pcs (s : State) (o : ObjId) (pid idx : Nat) (v : Int) : (setProp s o pid idx v).pcs = s.pcs := rfl
@[simp] theorem setProp_snaps (s : State) (o : ObjId) (pid idx : Nat) (v : Int) : (setProp s o pid idx v).snaps = s.snaps := rfl
@[simp] theorem setProp_fsMoves (s : State) (o : ObjId) (pid idx : Nat) (v : Int) : (setProp s o pid idx v).fsMoves = s.fsMoves := rfl
@[simp] theorem setProp_fsStale (s : State) (o : ObjId) (pid idx : Nat) (v : Int) : (setProp s o pid idx v).fsStale = s.fsStale := rfl
@[simp] theorem setProp_chains (s : State) (o : ObjId) (pid idx : Nat) (v : Int) : (setProp s o pid idx v).chains = s.chains := rfl
@[simp] theorem setProp_lamps (s : State) (o : ObjId) (pid idx : Nat) (v : Int) : (setProp s o pid idx v).lamps = s.lamps := rfl
@[simp] theorem setProp_tallyOff (s : State) (o : ObjId) (pid idx : Nat) (v : Int) : (setProp s o pid idx v).tallyOff = s.tallyOff := rfl
@[simp] theorem setProp_strobes (s : State) (o : ObjId) (pid idx : Nat) (v : Int) : (setProp s o pid idx v).strobes = s.strobes := rfl
@[simp] theorem setProp_trigs (s : State) (o : ObjId) (pid idx : Nat) (v : Int) : (setProp s o pid idx v).trigs = s.trigs := rfl
@[simp] theorem setProp_works (s : State) (o : ObjId) (pid idx : Nat) (v : Int) : (setProp s o pid idx v).works = s.works := rfl
@[simp] theorem setProp_places (s : State) (o : ObjId) (pid idx : Nat) (v : Int) : (setProp s o pid idx v).places = s.places := rfl
@[simp] theorem setProp_power (s : State) (o : ObjId) (pid idx : Nat) (v : Int) : (setProp s o pid idx v).power = s.power := rfl
@[simp] theorem setProp_out (s : State) (o : ObjId) (pid idx : Nat) (v : Int) : (setProp s o pid idx v).out = s.out := rfl
@[simp] theorem setProp_free (s : State) (o : ObjId) (pid idx : Nat) (v : Int) : (setProp s o pid idx v).free = s.free := rfl
@[simp] theorem setProp_pending (s : State) (o : ObjId) (pid idx : Nat) (v : Int) : (setProp s o pid idx v).pending = s.pending := rfl

/-! ### `emit` changes `out` alone -/

@[simp] theorem emit_now (s : State) (o : Output) : (emit s o).now = s.now := rfl
@[simp] theorem emit_hif (s : State) (o : Output) : (emit s o).hif = s.hif := rfl
@[simp] theorem emit_msixMask (s : State) (o : Output) : (emit s o).msixMask = s.msixMask := rfl
@[simp] theorem emit_functionMask (s : State) (o : Output) : (emit s o).functionMask = s.functionMask := rfl
@[simp] theorem emit_mbs (s : State) (o : Output) : (emit s o).mbs = s.mbs := rfl
@[simp] theorem emit_evs (s : State) (o : Output) : (emit s o).evs = s.evs := rfl
@[simp] theorem emit_bar0 (s : State) (o : Output) : (emit s o).bar0 = s.bar0 := rfl
@[simp] theorem emit_props (s : State) (o : Output) : (emit s o).props = s.props := rfl
@[simp] theorem emit_stored (s : State) (o : Output) : (emit s o).stored = s.stored := rfl
@[simp] theorem emit_objs (s : State) (o : Output) : (emit s o).objs = s.objs := rfl
@[simp] theorem emit_nextInst (s : State) (o : Output) : (emit s o).nextInst = s.nextInst := rfl
@[simp] theorem emit_objSubs (s : State) (o : Output) : (emit s o).objSubs = s.objSubs := rfl
@[simp] theorem emit_classSubs (s : State) (o : Output) : (emit s o).classSubs = s.classSubs := rfl
@[simp] theorem emit_flights (s : State) (o : Output) : (emit s o).flights = s.flights := rfl
@[simp] theorem emit_waiting (s : State) (o : Output) : (emit s o).waiting = s.waiting := rfl
@[simp] theorem emit_heldEvents (s : State) (o : Output) : (emit s o).heldEvents = s.heldEvents := rfl
@[simp] theorem emit_heldCpls (s : State) (o : Output) : (emit s o).heldCpls = s.heldCpls := rfl
@[simp] theorem emit_dma (s : State) (o : Output) : (emit s o).dma = s.dma := rfl
@[simp] theorem emit_dmaDead (s : State) (o : Output) : (emit s o).dmaDead = s.dmaDead := rfl
@[simp] theorem emit_dmaLate (s : State) (o : Output) : (emit s o).dmaLate = s.dmaLate := rfl
@[simp] theorem emit_dmaQueue (s : State) (o : Output) : (emit s o).dmaQueue = s.dmaQueue := rfl
@[simp] theorem emit_nextTag (s : State) (o : Output) : (emit s o).nextTag = s.nextTag := rfl
@[simp] theorem emit_surfs (s : State) (o : Output) : (emit s o).surfs = s.surfs := rfl
@[simp] theorem emit_rings (s : State) (o : Output) : (emit s o).rings = s.rings := rfl
@[simp] theorem emit_ctl (s : State) (o : Output) : (emit s o).ctl = s.ctl := rfl
@[simp] theorem emit_recPages (s : State) (o : Output) : (emit s o).recPages = s.recPages := rfl
@[simp] theorem emit_orders (s : State) (o : Output) : (emit s o).orders = s.orders := rfl
@[simp] theorem emit_frame (s : State) (o : Output) : (emit s o).frame = s.frame := rfl
@[simp] theorem emit_heads (s : State) (o : Output) : (emit s o).heads = s.heads := rfl
@[simp] theorem emit_layers (s : State) (o : Output) : (emit s o).layers = s.layers := rfl
@[simp] theorem emit_routes (s : State) (o : Output) : (emit s o).routes = s.routes := rfl
@[simp] theorem emit_charges (s : State) (o : Output) : (emit s o).charges = s.charges := rfl
@[simp] theorem emit_slices (s : State) (o : Output) : (emit s o).slices = s.slices := rfl
@[simp] theorem emit_ports (s : State) (o : Output) : (emit s o).ports = s.ports := rfl
@[simp] theorem emit_lanes (s : State) (o : Output) : (emit s o).lanes = s.lanes := rfl
@[simp] theorem emit_groups (s : State) (o : Output) : (emit s o).groups = s.groups := rfl
@[simp] theorem emit_groupCount (s : State) (o : Output) : (emit s o).groupCount = s.groupCount := rfl
@[simp] theorem emit_hls (s : State) (o : Output) : (emit s o).hls = s.hls := rfl
@[simp] theorem emit_hlGrants (s : State) (o : Output) : (emit s o).hlGrants = s.hlGrants := rfl
@[simp] theorem emit_hlJoins (s : State) (o : Output) : (emit s o).hlJoins = s.hlJoins := rfl
@[simp] theorem emit_dests (s : State) (o : Output) : (emit s o).dests = s.dests := rfl
@[simp] theorem emit_paths (s : State) (o : Output) : (emit s o).paths = s.paths := rfl
@[simp] theorem emit_srcs (s : State) (o : Output) : (emit s o).srcs = s.srcs := rfl
@[simp] theorem emit_tdms (s : State) (o : Output) : (emit s o).tdms = s.tdms := rfl
@[simp] theorem emit_delayLines (s : State) (o : Output) : (emit s o).delayLines = s.delayLines := rfl
@[simp] theorem emit_delayCount (s : State) (o : Output) : (emit s o).delayCount = s.delayCount := rfl
@[simp] theorem emit_outs (s : State) (o : Output) : (emit s o).outs = s.outs := rfl
@[simp] theorem emit_dpPins (s : State) (o : Output) : (emit s o).dpPins = s.dpPins := rfl
@[simp] theorem emit_laneTxs (s : State) (o : Output) : (emit s o).laneTxs = s.laneTxs := rfl
@[simp] theorem emit_keys (s : State) (o : Output) : (emit s o).keys = s.keys := rfl
@[simp] theorem emit_cc (s : State) (o : Output) : (emit s o).cc = s.cc := rfl
@[simp] theorem emit_refs (s : State) (o : Output) : (emit s o).refs = s.refs := rfl
@[simp] theorem emit_tb (s : State) (o : Output) : (emit s o).tb = s.tb := rfl
@[simp] theorem emit_pcs (s : State) (o : Output) : (emit s o).pcs = s.pcs := rfl
@[simp] theorem emit_snaps (s : State) (o : Output) : (emit s o).snaps = s.snaps := rfl
@[simp] theorem emit_fsMoves (s : State) (o : Output) : (emit s o).fsMoves = s.fsMoves := rfl
@[simp] theorem emit_fsStale (s : State) (o : Output) : (emit s o).fsStale = s.fsStale := rfl
@[simp] theorem emit_chains (s : State) (o : Output) : (emit s o).chains = s.chains := rfl
@[simp] theorem emit_lamps (s : State) (o : Output) : (emit s o).lamps = s.lamps := rfl
@[simp] theorem emit_tallyOff (s : State) (o : Output) : (emit s o).tallyOff = s.tallyOff := rfl
@[simp] theorem emit_strobes (s : State) (o : Output) : (emit s o).strobes = s.strobes := rfl
@[simp] theorem emit_trigs (s : State) (o : Output) : (emit s o).trigs = s.trigs := rfl
@[simp] theorem emit_works (s : State) (o : Output) : (emit s o).works = s.works := rfl
@[simp] theorem emit_places (s : State) (o : Output) : (emit s o).places = s.places := rfl
@[simp] theorem emit_power (s : State) (o : Output) : (emit s o).power = s.power := rfl
@[simp] theorem emit_free (s : State) (o : Output) : (emit s o).free = s.free := rfl
@[simp] theorem emit_pending (s : State) (o : Output) : (emit s o).pending = s.pending := rfl

/-! ### `setMb` changes `mbs` alone -/

@[simp] theorem setMb_now (s : State) (n : Nat) (m : Mailbox) : (setMb s n m).now = s.now := rfl
@[simp] theorem setMb_hif (s : State) (n : Nat) (m : Mailbox) : (setMb s n m).hif = s.hif := rfl
@[simp] theorem setMb_msixMask (s : State) (n : Nat) (m : Mailbox) : (setMb s n m).msixMask = s.msixMask := rfl
@[simp] theorem setMb_functionMask (s : State) (n : Nat) (m : Mailbox) : (setMb s n m).functionMask = s.functionMask := rfl
@[simp] theorem setMb_evs (s : State) (n : Nat) (m : Mailbox) : (setMb s n m).evs = s.evs := rfl
@[simp] theorem setMb_bar0 (s : State) (n : Nat) (m : Mailbox) : (setMb s n m).bar0 = s.bar0 := rfl
@[simp] theorem setMb_props (s : State) (n : Nat) (m : Mailbox) : (setMb s n m).props = s.props := rfl
@[simp] theorem setMb_stored (s : State) (n : Nat) (m : Mailbox) : (setMb s n m).stored = s.stored := rfl
@[simp] theorem setMb_objs (s : State) (n : Nat) (m : Mailbox) : (setMb s n m).objs = s.objs := rfl
@[simp] theorem setMb_nextInst (s : State) (n : Nat) (m : Mailbox) : (setMb s n m).nextInst = s.nextInst := rfl
@[simp] theorem setMb_objSubs (s : State) (n : Nat) (m : Mailbox) : (setMb s n m).objSubs = s.objSubs := rfl
@[simp] theorem setMb_classSubs (s : State) (n : Nat) (m : Mailbox) : (setMb s n m).classSubs = s.classSubs := rfl
@[simp] theorem setMb_flights (s : State) (n : Nat) (m : Mailbox) : (setMb s n m).flights = s.flights := rfl
@[simp] theorem setMb_waiting (s : State) (n : Nat) (m : Mailbox) : (setMb s n m).waiting = s.waiting := rfl
@[simp] theorem setMb_heldEvents (s : State) (n : Nat) (m : Mailbox) : (setMb s n m).heldEvents = s.heldEvents := rfl
@[simp] theorem setMb_heldCpls (s : State) (n : Nat) (m : Mailbox) : (setMb s n m).heldCpls = s.heldCpls := rfl
@[simp] theorem setMb_dma (s : State) (n : Nat) (m : Mailbox) : (setMb s n m).dma = s.dma := rfl
@[simp] theorem setMb_dmaDead (s : State) (n : Nat) (m : Mailbox) : (setMb s n m).dmaDead = s.dmaDead := rfl
@[simp] theorem setMb_dmaLate (s : State) (n : Nat) (m : Mailbox) : (setMb s n m).dmaLate = s.dmaLate := rfl
@[simp] theorem setMb_dmaQueue (s : State) (n : Nat) (m : Mailbox) : (setMb s n m).dmaQueue = s.dmaQueue := rfl
@[simp] theorem setMb_nextTag (s : State) (n : Nat) (m : Mailbox) : (setMb s n m).nextTag = s.nextTag := rfl
@[simp] theorem setMb_surfs (s : State) (n : Nat) (m : Mailbox) : (setMb s n m).surfs = s.surfs := rfl
@[simp] theorem setMb_rings (s : State) (n : Nat) (m : Mailbox) : (setMb s n m).rings = s.rings := rfl
@[simp] theorem setMb_ctl (s : State) (n : Nat) (m : Mailbox) : (setMb s n m).ctl = s.ctl := rfl
@[simp] theorem setMb_recPages (s : State) (n : Nat) (m : Mailbox) : (setMb s n m).recPages = s.recPages := rfl
@[simp] theorem setMb_orders (s : State) (n : Nat) (m : Mailbox) : (setMb s n m).orders = s.orders := rfl
@[simp] theorem setMb_frame (s : State) (n : Nat) (m : Mailbox) : (setMb s n m).frame = s.frame := rfl
@[simp] theorem setMb_heads (s : State) (n : Nat) (m : Mailbox) : (setMb s n m).heads = s.heads := rfl
@[simp] theorem setMb_layers (s : State) (n : Nat) (m : Mailbox) : (setMb s n m).layers = s.layers := rfl
@[simp] theorem setMb_routes (s : State) (n : Nat) (m : Mailbox) : (setMb s n m).routes = s.routes := rfl
@[simp] theorem setMb_charges (s : State) (n : Nat) (m : Mailbox) : (setMb s n m).charges = s.charges := rfl
@[simp] theorem setMb_slices (s : State) (n : Nat) (m : Mailbox) : (setMb s n m).slices = s.slices := rfl
@[simp] theorem setMb_ports (s : State) (n : Nat) (m : Mailbox) : (setMb s n m).ports = s.ports := rfl
@[simp] theorem setMb_lanes (s : State) (n : Nat) (m : Mailbox) : (setMb s n m).lanes = s.lanes := rfl
@[simp] theorem setMb_groups (s : State) (n : Nat) (m : Mailbox) : (setMb s n m).groups = s.groups := rfl
@[simp] theorem setMb_groupCount (s : State) (n : Nat) (m : Mailbox) : (setMb s n m).groupCount = s.groupCount := rfl
@[simp] theorem setMb_hls (s : State) (n : Nat) (m : Mailbox) : (setMb s n m).hls = s.hls := rfl
@[simp] theorem setMb_hlGrants (s : State) (n : Nat) (m : Mailbox) : (setMb s n m).hlGrants = s.hlGrants := rfl
@[simp] theorem setMb_hlJoins (s : State) (n : Nat) (m : Mailbox) : (setMb s n m).hlJoins = s.hlJoins := rfl
@[simp] theorem setMb_dests (s : State) (n : Nat) (m : Mailbox) : (setMb s n m).dests = s.dests := rfl
@[simp] theorem setMb_paths (s : State) (n : Nat) (m : Mailbox) : (setMb s n m).paths = s.paths := rfl
@[simp] theorem setMb_srcs (s : State) (n : Nat) (m : Mailbox) : (setMb s n m).srcs = s.srcs := rfl
@[simp] theorem setMb_tdms (s : State) (n : Nat) (m : Mailbox) : (setMb s n m).tdms = s.tdms := rfl
@[simp] theorem setMb_delayLines (s : State) (n : Nat) (m : Mailbox) : (setMb s n m).delayLines = s.delayLines := rfl
@[simp] theorem setMb_delayCount (s : State) (n : Nat) (m : Mailbox) : (setMb s n m).delayCount = s.delayCount := rfl
@[simp] theorem setMb_outs (s : State) (n : Nat) (m : Mailbox) : (setMb s n m).outs = s.outs := rfl
@[simp] theorem setMb_dpPins (s : State) (n : Nat) (m : Mailbox) : (setMb s n m).dpPins = s.dpPins := rfl
@[simp] theorem setMb_laneTxs (s : State) (n : Nat) (m : Mailbox) : (setMb s n m).laneTxs = s.laneTxs := rfl
@[simp] theorem setMb_keys (s : State) (n : Nat) (m : Mailbox) : (setMb s n m).keys = s.keys := rfl
@[simp] theorem setMb_cc (s : State) (n : Nat) (m : Mailbox) : (setMb s n m).cc = s.cc := rfl
@[simp] theorem setMb_refs (s : State) (n : Nat) (m : Mailbox) : (setMb s n m).refs = s.refs := rfl
@[simp] theorem setMb_tb (s : State) (n : Nat) (m : Mailbox) : (setMb s n m).tb = s.tb := rfl
@[simp] theorem setMb_pcs (s : State) (n : Nat) (m : Mailbox) : (setMb s n m).pcs = s.pcs := rfl
@[simp] theorem setMb_snaps (s : State) (n : Nat) (m : Mailbox) : (setMb s n m).snaps = s.snaps := rfl
@[simp] theorem setMb_fsMoves (s : State) (n : Nat) (m : Mailbox) : (setMb s n m).fsMoves = s.fsMoves := rfl
@[simp] theorem setMb_fsStale (s : State) (n : Nat) (m : Mailbox) : (setMb s n m).fsStale = s.fsStale := rfl
@[simp] theorem setMb_chains (s : State) (n : Nat) (m : Mailbox) : (setMb s n m).chains = s.chains := rfl
@[simp] theorem setMb_lamps (s : State) (n : Nat) (m : Mailbox) : (setMb s n m).lamps = s.lamps := rfl
@[simp] theorem setMb_tallyOff (s : State) (n : Nat) (m : Mailbox) : (setMb s n m).tallyOff = s.tallyOff := rfl
@[simp] theorem setMb_strobes (s : State) (n : Nat) (m : Mailbox) : (setMb s n m).strobes = s.strobes := rfl
@[simp] theorem setMb_trigs (s : State) (n : Nat) (m : Mailbox) : (setMb s n m).trigs = s.trigs := rfl
@[simp] theorem setMb_works (s : State) (n : Nat) (m : Mailbox) : (setMb s n m).works = s.works := rfl
@[simp] theorem setMb_places (s : State) (n : Nat) (m : Mailbox) : (setMb s n m).places = s.places := rfl
@[simp] theorem setMb_power (s : State) (n : Nat) (m : Mailbox) : (setMb s n m).power = s.power := rfl
@[simp] theorem setMb_out (s : State) (n : Nat) (m : Mailbox) : (setMb s n m).out = s.out := rfl
@[simp] theorem setMb_free (s : State) (n : Nat) (m : Mailbox) : (setMb s n m).free = s.free := rfl
@[simp] theorem setMb_pending (s : State) (n : Nat) (m : Mailbox) : (setMb s n m).pending = s.pending := rfl

/-! ### `setEv` changes `evs` alone -/

@[simp] theorem setEv_now (s : State) (n : Nat) (e : EvRing) : (setEv s n e).now = s.now := rfl
@[simp] theorem setEv_hif (s : State) (n : Nat) (e : EvRing) : (setEv s n e).hif = s.hif := rfl
@[simp] theorem setEv_msixMask (s : State) (n : Nat) (e : EvRing) : (setEv s n e).msixMask = s.msixMask := rfl
@[simp] theorem setEv_functionMask (s : State) (n : Nat) (e : EvRing) : (setEv s n e).functionMask = s.functionMask := rfl
@[simp] theorem setEv_mbs (s : State) (n : Nat) (e : EvRing) : (setEv s n e).mbs = s.mbs := rfl
@[simp] theorem setEv_bar0 (s : State) (n : Nat) (e : EvRing) : (setEv s n e).bar0 = s.bar0 := rfl
@[simp] theorem setEv_props (s : State) (n : Nat) (e : EvRing) : (setEv s n e).props = s.props := rfl
@[simp] theorem setEv_stored (s : State) (n : Nat) (e : EvRing) : (setEv s n e).stored = s.stored := rfl
@[simp] theorem setEv_objs (s : State) (n : Nat) (e : EvRing) : (setEv s n e).objs = s.objs := rfl
@[simp] theorem setEv_nextInst (s : State) (n : Nat) (e : EvRing) : (setEv s n e).nextInst = s.nextInst := rfl
@[simp] theorem setEv_objSubs (s : State) (n : Nat) (e : EvRing) : (setEv s n e).objSubs = s.objSubs := rfl
@[simp] theorem setEv_classSubs (s : State) (n : Nat) (e : EvRing) : (setEv s n e).classSubs = s.classSubs := rfl
@[simp] theorem setEv_flights (s : State) (n : Nat) (e : EvRing) : (setEv s n e).flights = s.flights := rfl
@[simp] theorem setEv_waiting (s : State) (n : Nat) (e : EvRing) : (setEv s n e).waiting = s.waiting := rfl
@[simp] theorem setEv_heldEvents (s : State) (n : Nat) (e : EvRing) : (setEv s n e).heldEvents = s.heldEvents := rfl
@[simp] theorem setEv_heldCpls (s : State) (n : Nat) (e : EvRing) : (setEv s n e).heldCpls = s.heldCpls := rfl
@[simp] theorem setEv_dma (s : State) (n : Nat) (e : EvRing) : (setEv s n e).dma = s.dma := rfl
@[simp] theorem setEv_dmaDead (s : State) (n : Nat) (e : EvRing) : (setEv s n e).dmaDead = s.dmaDead := rfl
@[simp] theorem setEv_dmaLate (s : State) (n : Nat) (e : EvRing) : (setEv s n e).dmaLate = s.dmaLate := rfl
@[simp] theorem setEv_dmaQueue (s : State) (n : Nat) (e : EvRing) : (setEv s n e).dmaQueue = s.dmaQueue := rfl
@[simp] theorem setEv_nextTag (s : State) (n : Nat) (e : EvRing) : (setEv s n e).nextTag = s.nextTag := rfl
@[simp] theorem setEv_surfs (s : State) (n : Nat) (e : EvRing) : (setEv s n e).surfs = s.surfs := rfl
@[simp] theorem setEv_rings (s : State) (n : Nat) (e : EvRing) : (setEv s n e).rings = s.rings := rfl
@[simp] theorem setEv_ctl (s : State) (n : Nat) (e : EvRing) : (setEv s n e).ctl = s.ctl := rfl
@[simp] theorem setEv_recPages (s : State) (n : Nat) (e : EvRing) : (setEv s n e).recPages = s.recPages := rfl
@[simp] theorem setEv_orders (s : State) (n : Nat) (e : EvRing) : (setEv s n e).orders = s.orders := rfl
@[simp] theorem setEv_frame (s : State) (n : Nat) (e : EvRing) : (setEv s n e).frame = s.frame := rfl
@[simp] theorem setEv_heads (s : State) (n : Nat) (e : EvRing) : (setEv s n e).heads = s.heads := rfl
@[simp] theorem setEv_layers (s : State) (n : Nat) (e : EvRing) : (setEv s n e).layers = s.layers := rfl
@[simp] theorem setEv_routes (s : State) (n : Nat) (e : EvRing) : (setEv s n e).routes = s.routes := rfl
@[simp] theorem setEv_charges (s : State) (n : Nat) (e : EvRing) : (setEv s n e).charges = s.charges := rfl
@[simp] theorem setEv_slices (s : State) (n : Nat) (e : EvRing) : (setEv s n e).slices = s.slices := rfl
@[simp] theorem setEv_ports (s : State) (n : Nat) (e : EvRing) : (setEv s n e).ports = s.ports := rfl
@[simp] theorem setEv_lanes (s : State) (n : Nat) (e : EvRing) : (setEv s n e).lanes = s.lanes := rfl
@[simp] theorem setEv_groups (s : State) (n : Nat) (e : EvRing) : (setEv s n e).groups = s.groups := rfl
@[simp] theorem setEv_groupCount (s : State) (n : Nat) (e : EvRing) : (setEv s n e).groupCount = s.groupCount := rfl
@[simp] theorem setEv_hls (s : State) (n : Nat) (e : EvRing) : (setEv s n e).hls = s.hls := rfl
@[simp] theorem setEv_hlGrants (s : State) (n : Nat) (e : EvRing) : (setEv s n e).hlGrants = s.hlGrants := rfl
@[simp] theorem setEv_hlJoins (s : State) (n : Nat) (e : EvRing) : (setEv s n e).hlJoins = s.hlJoins := rfl
@[simp] theorem setEv_dests (s : State) (n : Nat) (e : EvRing) : (setEv s n e).dests = s.dests := rfl
@[simp] theorem setEv_paths (s : State) (n : Nat) (e : EvRing) : (setEv s n e).paths = s.paths := rfl
@[simp] theorem setEv_srcs (s : State) (n : Nat) (e : EvRing) : (setEv s n e).srcs = s.srcs := rfl
@[simp] theorem setEv_tdms (s : State) (n : Nat) (e : EvRing) : (setEv s n e).tdms = s.tdms := rfl
@[simp] theorem setEv_delayLines (s : State) (n : Nat) (e : EvRing) : (setEv s n e).delayLines = s.delayLines := rfl
@[simp] theorem setEv_delayCount (s : State) (n : Nat) (e : EvRing) : (setEv s n e).delayCount = s.delayCount := rfl
@[simp] theorem setEv_outs (s : State) (n : Nat) (e : EvRing) : (setEv s n e).outs = s.outs := rfl
@[simp] theorem setEv_dpPins (s : State) (n : Nat) (e : EvRing) : (setEv s n e).dpPins = s.dpPins := rfl
@[simp] theorem setEv_laneTxs (s : State) (n : Nat) (e : EvRing) : (setEv s n e).laneTxs = s.laneTxs := rfl
@[simp] theorem setEv_keys (s : State) (n : Nat) (e : EvRing) : (setEv s n e).keys = s.keys := rfl
@[simp] theorem setEv_cc (s : State) (n : Nat) (e : EvRing) : (setEv s n e).cc = s.cc := rfl
@[simp] theorem setEv_refs (s : State) (n : Nat) (e : EvRing) : (setEv s n e).refs = s.refs := rfl
@[simp] theorem setEv_tb (s : State) (n : Nat) (e : EvRing) : (setEv s n e).tb = s.tb := rfl
@[simp] theorem setEv_pcs (s : State) (n : Nat) (e : EvRing) : (setEv s n e).pcs = s.pcs := rfl
@[simp] theorem setEv_snaps (s : State) (n : Nat) (e : EvRing) : (setEv s n e).snaps = s.snaps := rfl
@[simp] theorem setEv_fsMoves (s : State) (n : Nat) (e : EvRing) : (setEv s n e).fsMoves = s.fsMoves := rfl
@[simp] theorem setEv_fsStale (s : State) (n : Nat) (e : EvRing) : (setEv s n e).fsStale = s.fsStale := rfl
@[simp] theorem setEv_chains (s : State) (n : Nat) (e : EvRing) : (setEv s n e).chains = s.chains := rfl
@[simp] theorem setEv_lamps (s : State) (n : Nat) (e : EvRing) : (setEv s n e).lamps = s.lamps := rfl
@[simp] theorem setEv_tallyOff (s : State) (n : Nat) (e : EvRing) : (setEv s n e).tallyOff = s.tallyOff := rfl
@[simp] theorem setEv_strobes (s : State) (n : Nat) (e : EvRing) : (setEv s n e).strobes = s.strobes := rfl
@[simp] theorem setEv_trigs (s : State) (n : Nat) (e : EvRing) : (setEv s n e).trigs = s.trigs := rfl
@[simp] theorem setEv_works (s : State) (n : Nat) (e : EvRing) : (setEv s n e).works = s.works := rfl
@[simp] theorem setEv_places (s : State) (n : Nat) (e : EvRing) : (setEv s n e).places = s.places := rfl
@[simp] theorem setEv_power (s : State) (n : Nat) (e : EvRing) : (setEv s n e).power = s.power := rfl
@[simp] theorem setEv_out (s : State) (n : Nat) (e : EvRing) : (setEv s n e).out = s.out := rfl
@[simp] theorem setEv_free (s : State) (n : Nat) (e : EvRing) : (setEv s n e).free = s.free := rfl
@[simp] theorem setEv_pending (s : State) (n : Nat) (e : EvRing) : (setEv s n e).pending = s.pending := rfl

/-! ### `setSurf` changes `surfs` alone -/

@[simp] theorem setSurf_now (s : State) (o : ObjId) (f : Surf) : (setSurf s o f).now = s.now := rfl
@[simp] theorem setSurf_hif (s : State) (o : ObjId) (f : Surf) : (setSurf s o f).hif = s.hif := rfl
@[simp] theorem setSurf_msixMask (s : State) (o : ObjId) (f : Surf) : (setSurf s o f).msixMask = s.msixMask := rfl
@[simp] theorem setSurf_functionMask (s : State) (o : ObjId) (f : Surf) : (setSurf s o f).functionMask = s.functionMask := rfl
@[simp] theorem setSurf_mbs (s : State) (o : ObjId) (f : Surf) : (setSurf s o f).mbs = s.mbs := rfl
@[simp] theorem setSurf_evs (s : State) (o : ObjId) (f : Surf) : (setSurf s o f).evs = s.evs := rfl
@[simp] theorem setSurf_bar0 (s : State) (o : ObjId) (f : Surf) : (setSurf s o f).bar0 = s.bar0 := rfl
@[simp] theorem setSurf_props (s : State) (o : ObjId) (f : Surf) : (setSurf s o f).props = s.props := rfl
@[simp] theorem setSurf_stored (s : State) (o : ObjId) (f : Surf) : (setSurf s o f).stored = s.stored := rfl
@[simp] theorem setSurf_objs (s : State) (o : ObjId) (f : Surf) : (setSurf s o f).objs = s.objs := rfl
@[simp] theorem setSurf_nextInst (s : State) (o : ObjId) (f : Surf) : (setSurf s o f).nextInst = s.nextInst := rfl
@[simp] theorem setSurf_objSubs (s : State) (o : ObjId) (f : Surf) : (setSurf s o f).objSubs = s.objSubs := rfl
@[simp] theorem setSurf_classSubs (s : State) (o : ObjId) (f : Surf) : (setSurf s o f).classSubs = s.classSubs := rfl
@[simp] theorem setSurf_flights (s : State) (o : ObjId) (f : Surf) : (setSurf s o f).flights = s.flights := rfl
@[simp] theorem setSurf_waiting (s : State) (o : ObjId) (f : Surf) : (setSurf s o f).waiting = s.waiting := rfl
@[simp] theorem setSurf_heldEvents (s : State) (o : ObjId) (f : Surf) : (setSurf s o f).heldEvents = s.heldEvents := rfl
@[simp] theorem setSurf_heldCpls (s : State) (o : ObjId) (f : Surf) : (setSurf s o f).heldCpls = s.heldCpls := rfl
@[simp] theorem setSurf_dma (s : State) (o : ObjId) (f : Surf) : (setSurf s o f).dma = s.dma := rfl
@[simp] theorem setSurf_dmaDead (s : State) (o : ObjId) (f : Surf) : (setSurf s o f).dmaDead = s.dmaDead := rfl
@[simp] theorem setSurf_dmaLate (s : State) (o : ObjId) (f : Surf) : (setSurf s o f).dmaLate = s.dmaLate := rfl
@[simp] theorem setSurf_dmaQueue (s : State) (o : ObjId) (f : Surf) : (setSurf s o f).dmaQueue = s.dmaQueue := rfl
@[simp] theorem setSurf_nextTag (s : State) (o : ObjId) (f : Surf) : (setSurf s o f).nextTag = s.nextTag := rfl
@[simp] theorem setSurf_rings (s : State) (o : ObjId) (f : Surf) : (setSurf s o f).rings = s.rings := rfl
@[simp] theorem setSurf_ctl (s : State) (o : ObjId) (f : Surf) : (setSurf s o f).ctl = s.ctl := rfl
@[simp] theorem setSurf_recPages (s : State) (o : ObjId) (f : Surf) : (setSurf s o f).recPages = s.recPages := rfl
@[simp] theorem setSurf_orders (s : State) (o : ObjId) (f : Surf) : (setSurf s o f).orders = s.orders := rfl
@[simp] theorem setSurf_frame (s : State) (o : ObjId) (f : Surf) : (setSurf s o f).frame = s.frame := rfl
@[simp] theorem setSurf_heads (s : State) (o : ObjId) (f : Surf) : (setSurf s o f).heads = s.heads := rfl
@[simp] theorem setSurf_layers (s : State) (o : ObjId) (f : Surf) : (setSurf s o f).layers = s.layers := rfl
@[simp] theorem setSurf_routes (s : State) (o : ObjId) (f : Surf) : (setSurf s o f).routes = s.routes := rfl
@[simp] theorem setSurf_charges (s : State) (o : ObjId) (f : Surf) : (setSurf s o f).charges = s.charges := rfl
@[simp] theorem setSurf_slices (s : State) (o : ObjId) (f : Surf) : (setSurf s o f).slices = s.slices := rfl
@[simp] theorem setSurf_ports (s : State) (o : ObjId) (f : Surf) : (setSurf s o f).ports = s.ports := rfl
@[simp] theorem setSurf_lanes (s : State) (o : ObjId) (f : Surf) : (setSurf s o f).lanes = s.lanes := rfl
@[simp] theorem setSurf_groups (s : State) (o : ObjId) (f : Surf) : (setSurf s o f).groups = s.groups := rfl
@[simp] theorem setSurf_groupCount (s : State) (o : ObjId) (f : Surf) : (setSurf s o f).groupCount = s.groupCount := rfl
@[simp] theorem setSurf_hls (s : State) (o : ObjId) (f : Surf) : (setSurf s o f).hls = s.hls := rfl
@[simp] theorem setSurf_hlGrants (s : State) (o : ObjId) (f : Surf) : (setSurf s o f).hlGrants = s.hlGrants := rfl
@[simp] theorem setSurf_hlJoins (s : State) (o : ObjId) (f : Surf) : (setSurf s o f).hlJoins = s.hlJoins := rfl
@[simp] theorem setSurf_dests (s : State) (o : ObjId) (f : Surf) : (setSurf s o f).dests = s.dests := rfl
@[simp] theorem setSurf_paths (s : State) (o : ObjId) (f : Surf) : (setSurf s o f).paths = s.paths := rfl
@[simp] theorem setSurf_srcs (s : State) (o : ObjId) (f : Surf) : (setSurf s o f).srcs = s.srcs := rfl
@[simp] theorem setSurf_tdms (s : State) (o : ObjId) (f : Surf) : (setSurf s o f).tdms = s.tdms := rfl
@[simp] theorem setSurf_delayLines (s : State) (o : ObjId) (f : Surf) : (setSurf s o f).delayLines = s.delayLines := rfl
@[simp] theorem setSurf_delayCount (s : State) (o : ObjId) (f : Surf) : (setSurf s o f).delayCount = s.delayCount := rfl
@[simp] theorem setSurf_outs (s : State) (o : ObjId) (f : Surf) : (setSurf s o f).outs = s.outs := rfl
@[simp] theorem setSurf_dpPins (s : State) (o : ObjId) (f : Surf) : (setSurf s o f).dpPins = s.dpPins := rfl
@[simp] theorem setSurf_laneTxs (s : State) (o : ObjId) (f : Surf) : (setSurf s o f).laneTxs = s.laneTxs := rfl
@[simp] theorem setSurf_keys (s : State) (o : ObjId) (f : Surf) : (setSurf s o f).keys = s.keys := rfl
@[simp] theorem setSurf_cc (s : State) (o : ObjId) (f : Surf) : (setSurf s o f).cc = s.cc := rfl
@[simp] theorem setSurf_refs (s : State) (o : ObjId) (f : Surf) : (setSurf s o f).refs = s.refs := rfl
@[simp] theorem setSurf_tb (s : State) (o : ObjId) (f : Surf) : (setSurf s o f).tb = s.tb := rfl
@[simp] theorem setSurf_pcs (s : State) (o : ObjId) (f : Surf) : (setSurf s o f).pcs = s.pcs := rfl
@[simp] theorem setSurf_snaps (s : State) (o : ObjId) (f : Surf) : (setSurf s o f).snaps = s.snaps := rfl
@[simp] theorem setSurf_fsMoves (s : State) (o : ObjId) (f : Surf) : (setSurf s o f).fsMoves = s.fsMoves := rfl
@[simp] theorem setSurf_fsStale (s : State) (o : ObjId) (f : Surf) : (setSurf s o f).fsStale = s.fsStale := rfl
@[simp] theorem setSurf_chains (s : State) (o : ObjId) (f : Surf) : (setSurf s o f).chains = s.chains := rfl
@[simp] theorem setSurf_lamps (s : State) (o : ObjId) (f : Surf) : (setSurf s o f).lamps = s.lamps := rfl
@[simp] theorem setSurf_tallyOff (s : State) (o : ObjId) (f : Surf) : (setSurf s o f).tallyOff = s.tallyOff := rfl
@[simp] theorem setSurf_strobes (s : State) (o : ObjId) (f : Surf) : (setSurf s o f).strobes = s.strobes := rfl
@[simp] theorem setSurf_trigs (s : State) (o : ObjId) (f : Surf) : (setSurf s o f).trigs = s.trigs := rfl
@[simp] theorem setSurf_works (s : State) (o : ObjId) (f : Surf) : (setSurf s o f).works = s.works := rfl
@[simp] theorem setSurf_places (s : State) (o : ObjId) (f : Surf) : (setSurf s o f).places = s.places := rfl
@[simp] theorem setSurf_power (s : State) (o : ObjId) (f : Surf) : (setSurf s o f).power = s.power := rfl
@[simp] theorem setSurf_out (s : State) (o : ObjId) (f : Surf) : (setSurf s o f).out = s.out := rfl
@[simp] theorem setSurf_free (s : State) (o : ObjId) (f : Surf) : (setSurf s o f).free = s.free := rfl
@[simp] theorem setSurf_pending (s : State) (o : ObjId) (f : Surf) : (setSurf s o f).pending = s.pending := rfl

/-! ### `setRing` changes `rings` alone -/

@[simp] theorem setRing_now (s : State) (o : ObjId) (r : Ring) : (setRing s o r).now = s.now := rfl
@[simp] theorem setRing_hif (s : State) (o : ObjId) (r : Ring) : (setRing s o r).hif = s.hif := rfl
@[simp] theorem setRing_msixMask (s : State) (o : ObjId) (r : Ring) : (setRing s o r).msixMask = s.msixMask := rfl
@[simp] theorem setRing_functionMask (s : State) (o : ObjId) (r : Ring) : (setRing s o r).functionMask = s.functionMask := rfl
@[simp] theorem setRing_mbs (s : State) (o : ObjId) (r : Ring) : (setRing s o r).mbs = s.mbs := rfl
@[simp] theorem setRing_evs (s : State) (o : ObjId) (r : Ring) : (setRing s o r).evs = s.evs := rfl
@[simp] theorem setRing_bar0 (s : State) (o : ObjId) (r : Ring) : (setRing s o r).bar0 = s.bar0 := rfl
@[simp] theorem setRing_props (s : State) (o : ObjId) (r : Ring) : (setRing s o r).props = s.props := rfl
@[simp] theorem setRing_stored (s : State) (o : ObjId) (r : Ring) : (setRing s o r).stored = s.stored := rfl
@[simp] theorem setRing_objs (s : State) (o : ObjId) (r : Ring) : (setRing s o r).objs = s.objs := rfl
@[simp] theorem setRing_nextInst (s : State) (o : ObjId) (r : Ring) : (setRing s o r).nextInst = s.nextInst := rfl
@[simp] theorem setRing_objSubs (s : State) (o : ObjId) (r : Ring) : (setRing s o r).objSubs = s.objSubs := rfl
@[simp] theorem setRing_classSubs (s : State) (o : ObjId) (r : Ring) : (setRing s o r).classSubs = s.classSubs := rfl
@[simp] theorem setRing_flights (s : State) (o : ObjId) (r : Ring) : (setRing s o r).flights = s.flights := rfl
@[simp] theorem setRing_waiting (s : State) (o : ObjId) (r : Ring) : (setRing s o r).waiting = s.waiting := rfl
@[simp] theorem setRing_heldEvents (s : State) (o : ObjId) (r : Ring) : (setRing s o r).heldEvents = s.heldEvents := rfl
@[simp] theorem setRing_heldCpls (s : State) (o : ObjId) (r : Ring) : (setRing s o r).heldCpls = s.heldCpls := rfl
@[simp] theorem setRing_dma (s : State) (o : ObjId) (r : Ring) : (setRing s o r).dma = s.dma := rfl
@[simp] theorem setRing_dmaDead (s : State) (o : ObjId) (r : Ring) : (setRing s o r).dmaDead = s.dmaDead := rfl
@[simp] theorem setRing_dmaLate (s : State) (o : ObjId) (r : Ring) : (setRing s o r).dmaLate = s.dmaLate := rfl
@[simp] theorem setRing_dmaQueue (s : State) (o : ObjId) (r : Ring) : (setRing s o r).dmaQueue = s.dmaQueue := rfl
@[simp] theorem setRing_nextTag (s : State) (o : ObjId) (r : Ring) : (setRing s o r).nextTag = s.nextTag := rfl
@[simp] theorem setRing_surfs (s : State) (o : ObjId) (r : Ring) : (setRing s o r).surfs = s.surfs := rfl
@[simp] theorem setRing_ctl (s : State) (o : ObjId) (r : Ring) : (setRing s o r).ctl = s.ctl := rfl
@[simp] theorem setRing_recPages (s : State) (o : ObjId) (r : Ring) : (setRing s o r).recPages = s.recPages := rfl
@[simp] theorem setRing_orders (s : State) (o : ObjId) (r : Ring) : (setRing s o r).orders = s.orders := rfl
@[simp] theorem setRing_frame (s : State) (o : ObjId) (r : Ring) : (setRing s o r).frame = s.frame := rfl
@[simp] theorem setRing_heads (s : State) (o : ObjId) (r : Ring) : (setRing s o r).heads = s.heads := rfl
@[simp] theorem setRing_layers (s : State) (o : ObjId) (r : Ring) : (setRing s o r).layers = s.layers := rfl
@[simp] theorem setRing_routes (s : State) (o : ObjId) (r : Ring) : (setRing s o r).routes = s.routes := rfl
@[simp] theorem setRing_charges (s : State) (o : ObjId) (r : Ring) : (setRing s o r).charges = s.charges := rfl
@[simp] theorem setRing_slices (s : State) (o : ObjId) (r : Ring) : (setRing s o r).slices = s.slices := rfl
@[simp] theorem setRing_ports (s : State) (o : ObjId) (r : Ring) : (setRing s o r).ports = s.ports := rfl
@[simp] theorem setRing_lanes (s : State) (o : ObjId) (r : Ring) : (setRing s o r).lanes = s.lanes := rfl
@[simp] theorem setRing_groups (s : State) (o : ObjId) (r : Ring) : (setRing s o r).groups = s.groups := rfl
@[simp] theorem setRing_groupCount (s : State) (o : ObjId) (r : Ring) : (setRing s o r).groupCount = s.groupCount := rfl
@[simp] theorem setRing_hls (s : State) (o : ObjId) (r : Ring) : (setRing s o r).hls = s.hls := rfl
@[simp] theorem setRing_hlGrants (s : State) (o : ObjId) (r : Ring) : (setRing s o r).hlGrants = s.hlGrants := rfl
@[simp] theorem setRing_hlJoins (s : State) (o : ObjId) (r : Ring) : (setRing s o r).hlJoins = s.hlJoins := rfl
@[simp] theorem setRing_dests (s : State) (o : ObjId) (r : Ring) : (setRing s o r).dests = s.dests := rfl
@[simp] theorem setRing_paths (s : State) (o : ObjId) (r : Ring) : (setRing s o r).paths = s.paths := rfl
@[simp] theorem setRing_srcs (s : State) (o : ObjId) (r : Ring) : (setRing s o r).srcs = s.srcs := rfl
@[simp] theorem setRing_tdms (s : State) (o : ObjId) (r : Ring) : (setRing s o r).tdms = s.tdms := rfl
@[simp] theorem setRing_delayLines (s : State) (o : ObjId) (r : Ring) : (setRing s o r).delayLines = s.delayLines := rfl
@[simp] theorem setRing_delayCount (s : State) (o : ObjId) (r : Ring) : (setRing s o r).delayCount = s.delayCount := rfl
@[simp] theorem setRing_outs (s : State) (o : ObjId) (r : Ring) : (setRing s o r).outs = s.outs := rfl
@[simp] theorem setRing_dpPins (s : State) (o : ObjId) (r : Ring) : (setRing s o r).dpPins = s.dpPins := rfl
@[simp] theorem setRing_laneTxs (s : State) (o : ObjId) (r : Ring) : (setRing s o r).laneTxs = s.laneTxs := rfl
@[simp] theorem setRing_keys (s : State) (o : ObjId) (r : Ring) : (setRing s o r).keys = s.keys := rfl
@[simp] theorem setRing_cc (s : State) (o : ObjId) (r : Ring) : (setRing s o r).cc = s.cc := rfl
@[simp] theorem setRing_refs (s : State) (o : ObjId) (r : Ring) : (setRing s o r).refs = s.refs := rfl
@[simp] theorem setRing_tb (s : State) (o : ObjId) (r : Ring) : (setRing s o r).tb = s.tb := rfl
@[simp] theorem setRing_pcs (s : State) (o : ObjId) (r : Ring) : (setRing s o r).pcs = s.pcs := rfl
@[simp] theorem setRing_snaps (s : State) (o : ObjId) (r : Ring) : (setRing s o r).snaps = s.snaps := rfl
@[simp] theorem setRing_fsMoves (s : State) (o : ObjId) (r : Ring) : (setRing s o r).fsMoves = s.fsMoves := rfl
@[simp] theorem setRing_fsStale (s : State) (o : ObjId) (r : Ring) : (setRing s o r).fsStale = s.fsStale := rfl
@[simp] theorem setRing_chains (s : State) (o : ObjId) (r : Ring) : (setRing s o r).chains = s.chains := rfl
@[simp] theorem setRing_lamps (s : State) (o : ObjId) (r : Ring) : (setRing s o r).lamps = s.lamps := rfl
@[simp] theorem setRing_tallyOff (s : State) (o : ObjId) (r : Ring) : (setRing s o r).tallyOff = s.tallyOff := rfl
@[simp] theorem setRing_strobes (s : State) (o : ObjId) (r : Ring) : (setRing s o r).strobes = s.strobes := rfl
@[simp] theorem setRing_trigs (s : State) (o : ObjId) (r : Ring) : (setRing s o r).trigs = s.trigs := rfl
@[simp] theorem setRing_works (s : State) (o : ObjId) (r : Ring) : (setRing s o r).works = s.works := rfl
@[simp] theorem setRing_places (s : State) (o : ObjId) (r : Ring) : (setRing s o r).places = s.places := rfl
@[simp] theorem setRing_power (s : State) (o : ObjId) (r : Ring) : (setRing s o r).power = s.power := rfl
@[simp] theorem setRing_out (s : State) (o : ObjId) (r : Ring) : (setRing s o r).out = s.out := rfl
@[simp] theorem setRing_free (s : State) (o : ObjId) (r : Ring) : (setRing s o r).free = s.free := rfl
@[simp] theorem setRing_pending (s : State) (o : ObjId) (r : Ring) : (setRing s o r).pending = s.pending := rfl

/-! ### `setHeadRt` changes `heads` alone -/

@[simp] theorem setHeadRt_now (s : State) (h : Nat) (r : HeadRt) : (setHeadRt s h r).now = s.now := rfl
@[simp] theorem setHeadRt_hif (s : State) (h : Nat) (r : HeadRt) : (setHeadRt s h r).hif = s.hif := rfl
@[simp] theorem setHeadRt_msixMask (s : State) (h : Nat) (r : HeadRt) : (setHeadRt s h r).msixMask = s.msixMask := rfl
@[simp] theorem setHeadRt_functionMask (s : State) (h : Nat) (r : HeadRt) : (setHeadRt s h r).functionMask = s.functionMask := rfl
@[simp] theorem setHeadRt_mbs (s : State) (h : Nat) (r : HeadRt) : (setHeadRt s h r).mbs = s.mbs := rfl
@[simp] theorem setHeadRt_evs (s : State) (h : Nat) (r : HeadRt) : (setHeadRt s h r).evs = s.evs := rfl
@[simp] theorem setHeadRt_bar0 (s : State) (h : Nat) (r : HeadRt) : (setHeadRt s h r).bar0 = s.bar0 := rfl
@[simp] theorem setHeadRt_props (s : State) (h : Nat) (r : HeadRt) : (setHeadRt s h r).props = s.props := rfl
@[simp] theorem setHeadRt_stored (s : State) (h : Nat) (r : HeadRt) : (setHeadRt s h r).stored = s.stored := rfl
@[simp] theorem setHeadRt_objs (s : State) (h : Nat) (r : HeadRt) : (setHeadRt s h r).objs = s.objs := rfl
@[simp] theorem setHeadRt_nextInst (s : State) (h : Nat) (r : HeadRt) : (setHeadRt s h r).nextInst = s.nextInst := rfl
@[simp] theorem setHeadRt_objSubs (s : State) (h : Nat) (r : HeadRt) : (setHeadRt s h r).objSubs = s.objSubs := rfl
@[simp] theorem setHeadRt_classSubs (s : State) (h : Nat) (r : HeadRt) : (setHeadRt s h r).classSubs = s.classSubs := rfl
@[simp] theorem setHeadRt_flights (s : State) (h : Nat) (r : HeadRt) : (setHeadRt s h r).flights = s.flights := rfl
@[simp] theorem setHeadRt_waiting (s : State) (h : Nat) (r : HeadRt) : (setHeadRt s h r).waiting = s.waiting := rfl
@[simp] theorem setHeadRt_heldEvents (s : State) (h : Nat) (r : HeadRt) : (setHeadRt s h r).heldEvents = s.heldEvents := rfl
@[simp] theorem setHeadRt_heldCpls (s : State) (h : Nat) (r : HeadRt) : (setHeadRt s h r).heldCpls = s.heldCpls := rfl
@[simp] theorem setHeadRt_dma (s : State) (h : Nat) (r : HeadRt) : (setHeadRt s h r).dma = s.dma := rfl
@[simp] theorem setHeadRt_dmaDead (s : State) (h : Nat) (r : HeadRt) : (setHeadRt s h r).dmaDead = s.dmaDead := rfl
@[simp] theorem setHeadRt_dmaLate (s : State) (h : Nat) (r : HeadRt) : (setHeadRt s h r).dmaLate = s.dmaLate := rfl
@[simp] theorem setHeadRt_dmaQueue (s : State) (h : Nat) (r : HeadRt) : (setHeadRt s h r).dmaQueue = s.dmaQueue := rfl
@[simp] theorem setHeadRt_nextTag (s : State) (h : Nat) (r : HeadRt) : (setHeadRt s h r).nextTag = s.nextTag := rfl
@[simp] theorem setHeadRt_surfs (s : State) (h : Nat) (r : HeadRt) : (setHeadRt s h r).surfs = s.surfs := rfl
@[simp] theorem setHeadRt_rings (s : State) (h : Nat) (r : HeadRt) : (setHeadRt s h r).rings = s.rings := rfl
@[simp] theorem setHeadRt_ctl (s : State) (h : Nat) (r : HeadRt) : (setHeadRt s h r).ctl = s.ctl := rfl
@[simp] theorem setHeadRt_recPages (s : State) (h : Nat) (r : HeadRt) : (setHeadRt s h r).recPages = s.recPages := rfl
@[simp] theorem setHeadRt_orders (s : State) (h : Nat) (r : HeadRt) : (setHeadRt s h r).orders = s.orders := rfl
@[simp] theorem setHeadRt_frame (s : State) (h : Nat) (r : HeadRt) : (setHeadRt s h r).frame = s.frame := rfl
@[simp] theorem setHeadRt_layers (s : State) (h : Nat) (r : HeadRt) : (setHeadRt s h r).layers = s.layers := rfl
@[simp] theorem setHeadRt_routes (s : State) (h : Nat) (r : HeadRt) : (setHeadRt s h r).routes = s.routes := rfl
@[simp] theorem setHeadRt_charges (s : State) (h : Nat) (r : HeadRt) : (setHeadRt s h r).charges = s.charges := rfl
@[simp] theorem setHeadRt_slices (s : State) (h : Nat) (r : HeadRt) : (setHeadRt s h r).slices = s.slices := rfl
@[simp] theorem setHeadRt_ports (s : State) (h : Nat) (r : HeadRt) : (setHeadRt s h r).ports = s.ports := rfl
@[simp] theorem setHeadRt_lanes (s : State) (h : Nat) (r : HeadRt) : (setHeadRt s h r).lanes = s.lanes := rfl
@[simp] theorem setHeadRt_groups (s : State) (h : Nat) (r : HeadRt) : (setHeadRt s h r).groups = s.groups := rfl
@[simp] theorem setHeadRt_groupCount (s : State) (h : Nat) (r : HeadRt) : (setHeadRt s h r).groupCount = s.groupCount := rfl
@[simp] theorem setHeadRt_hls (s : State) (h : Nat) (r : HeadRt) : (setHeadRt s h r).hls = s.hls := rfl
@[simp] theorem setHeadRt_hlGrants (s : State) (h : Nat) (r : HeadRt) : (setHeadRt s h r).hlGrants = s.hlGrants := rfl
@[simp] theorem setHeadRt_hlJoins (s : State) (h : Nat) (r : HeadRt) : (setHeadRt s h r).hlJoins = s.hlJoins := rfl
@[simp] theorem setHeadRt_dests (s : State) (h : Nat) (r : HeadRt) : (setHeadRt s h r).dests = s.dests := rfl
@[simp] theorem setHeadRt_paths (s : State) (h : Nat) (r : HeadRt) : (setHeadRt s h r).paths = s.paths := rfl
@[simp] theorem setHeadRt_srcs (s : State) (h : Nat) (r : HeadRt) : (setHeadRt s h r).srcs = s.srcs := rfl
@[simp] theorem setHeadRt_tdms (s : State) (h : Nat) (r : HeadRt) : (setHeadRt s h r).tdms = s.tdms := rfl
@[simp] theorem setHeadRt_delayLines (s : State) (h : Nat) (r : HeadRt) : (setHeadRt s h r).delayLines = s.delayLines := rfl
@[simp] theorem setHeadRt_delayCount (s : State) (h : Nat) (r : HeadRt) : (setHeadRt s h r).delayCount = s.delayCount := rfl
@[simp] theorem setHeadRt_outs (s : State) (h : Nat) (r : HeadRt) : (setHeadRt s h r).outs = s.outs := rfl
@[simp] theorem setHeadRt_dpPins (s : State) (h : Nat) (r : HeadRt) : (setHeadRt s h r).dpPins = s.dpPins := rfl
@[simp] theorem setHeadRt_laneTxs (s : State) (h : Nat) (r : HeadRt) : (setHeadRt s h r).laneTxs = s.laneTxs := rfl
@[simp] theorem setHeadRt_keys (s : State) (h : Nat) (r : HeadRt) : (setHeadRt s h r).keys = s.keys := rfl
@[simp] theorem setHeadRt_cc (s : State) (h : Nat) (r : HeadRt) : (setHeadRt s h r).cc = s.cc := rfl
@[simp] theorem setHeadRt_refs (s : State) (h : Nat) (r : HeadRt) : (setHeadRt s h r).refs = s.refs := rfl
@[simp] theorem setHeadRt_tb (s : State) (h : Nat) (r : HeadRt) : (setHeadRt s h r).tb = s.tb := rfl
@[simp] theorem setHeadRt_pcs (s : State) (h : Nat) (r : HeadRt) : (setHeadRt s h r).pcs = s.pcs := rfl
@[simp] theorem setHeadRt_snaps (s : State) (h : Nat) (r : HeadRt) : (setHeadRt s h r).snaps = s.snaps := rfl
@[simp] theorem setHeadRt_fsMoves (s : State) (h : Nat) (r : HeadRt) : (setHeadRt s h r).fsMoves = s.fsMoves := rfl
@[simp] theorem setHeadRt_fsStale (s : State) (h : Nat) (r : HeadRt) : (setHeadRt s h r).fsStale = s.fsStale := rfl
@[simp] theorem setHeadRt_chains (s : State) (h : Nat) (r : HeadRt) : (setHeadRt s h r).chains = s.chains := rfl
@[simp] theorem setHeadRt_lamps (s : State) (h : Nat) (r : HeadRt) : (setHeadRt s h r).lamps = s.lamps := rfl
@[simp] theorem setHeadRt_tallyOff (s : State) (h : Nat) (r : HeadRt) : (setHeadRt s h r).tallyOff = s.tallyOff := rfl
@[simp] theorem setHeadRt_strobes (s : State) (h : Nat) (r : HeadRt) : (setHeadRt s h r).strobes = s.strobes := rfl
@[simp] theorem setHeadRt_trigs (s : State) (h : Nat) (r : HeadRt) : (setHeadRt s h r).trigs = s.trigs := rfl
@[simp] theorem setHeadRt_works (s : State) (h : Nat) (r : HeadRt) : (setHeadRt s h r).works = s.works := rfl
@[simp] theorem setHeadRt_places (s : State) (h : Nat) (r : HeadRt) : (setHeadRt s h r).places = s.places := rfl
@[simp] theorem setHeadRt_power (s : State) (h : Nat) (r : HeadRt) : (setHeadRt s h r).power = s.power := rfl
@[simp] theorem setHeadRt_out (s : State) (h : Nat) (r : HeadRt) : (setHeadRt s h r).out = s.out := rfl
@[simp] theorem setHeadRt_free (s : State) (h : Nat) (r : HeadRt) : (setHeadRt s h r).free = s.free := rfl
@[simp] theorem setHeadRt_pending (s : State) (h : Nat) (r : HeadRt) : (setHeadRt s h r).pending = s.pending := rfl

/-! ### `setRouteRt` changes `routes` alone -/

@[simp] theorem setRouteRt_now (s : State) (r : ObjId) (x : RouteRt) : (setRouteRt s r x).now = s.now := rfl
@[simp] theorem setRouteRt_hif (s : State) (r : ObjId) (x : RouteRt) : (setRouteRt s r x).hif = s.hif := rfl
@[simp] theorem setRouteRt_msixMask (s : State) (r : ObjId) (x : RouteRt) : (setRouteRt s r x).msixMask = s.msixMask := rfl
@[simp] theorem setRouteRt_functionMask (s : State) (r : ObjId) (x : RouteRt) : (setRouteRt s r x).functionMask = s.functionMask := rfl
@[simp] theorem setRouteRt_mbs (s : State) (r : ObjId) (x : RouteRt) : (setRouteRt s r x).mbs = s.mbs := rfl
@[simp] theorem setRouteRt_evs (s : State) (r : ObjId) (x : RouteRt) : (setRouteRt s r x).evs = s.evs := rfl
@[simp] theorem setRouteRt_bar0 (s : State) (r : ObjId) (x : RouteRt) : (setRouteRt s r x).bar0 = s.bar0 := rfl
@[simp] theorem setRouteRt_props (s : State) (r : ObjId) (x : RouteRt) : (setRouteRt s r x).props = s.props := rfl
@[simp] theorem setRouteRt_stored (s : State) (r : ObjId) (x : RouteRt) : (setRouteRt s r x).stored = s.stored := rfl
@[simp] theorem setRouteRt_objs (s : State) (r : ObjId) (x : RouteRt) : (setRouteRt s r x).objs = s.objs := rfl
@[simp] theorem setRouteRt_nextInst (s : State) (r : ObjId) (x : RouteRt) : (setRouteRt s r x).nextInst = s.nextInst := rfl
@[simp] theorem setRouteRt_objSubs (s : State) (r : ObjId) (x : RouteRt) : (setRouteRt s r x).objSubs = s.objSubs := rfl
@[simp] theorem setRouteRt_classSubs (s : State) (r : ObjId) (x : RouteRt) : (setRouteRt s r x).classSubs = s.classSubs := rfl
@[simp] theorem setRouteRt_flights (s : State) (r : ObjId) (x : RouteRt) : (setRouteRt s r x).flights = s.flights := rfl
@[simp] theorem setRouteRt_waiting (s : State) (r : ObjId) (x : RouteRt) : (setRouteRt s r x).waiting = s.waiting := rfl
@[simp] theorem setRouteRt_heldEvents (s : State) (r : ObjId) (x : RouteRt) : (setRouteRt s r x).heldEvents = s.heldEvents := rfl
@[simp] theorem setRouteRt_heldCpls (s : State) (r : ObjId) (x : RouteRt) : (setRouteRt s r x).heldCpls = s.heldCpls := rfl
@[simp] theorem setRouteRt_dma (s : State) (r : ObjId) (x : RouteRt) : (setRouteRt s r x).dma = s.dma := rfl
@[simp] theorem setRouteRt_dmaDead (s : State) (r : ObjId) (x : RouteRt) : (setRouteRt s r x).dmaDead = s.dmaDead := rfl
@[simp] theorem setRouteRt_dmaLate (s : State) (r : ObjId) (x : RouteRt) : (setRouteRt s r x).dmaLate = s.dmaLate := rfl
@[simp] theorem setRouteRt_dmaQueue (s : State) (r : ObjId) (x : RouteRt) : (setRouteRt s r x).dmaQueue = s.dmaQueue := rfl
@[simp] theorem setRouteRt_nextTag (s : State) (r : ObjId) (x : RouteRt) : (setRouteRt s r x).nextTag = s.nextTag := rfl
@[simp] theorem setRouteRt_surfs (s : State) (r : ObjId) (x : RouteRt) : (setRouteRt s r x).surfs = s.surfs := rfl
@[simp] theorem setRouteRt_rings (s : State) (r : ObjId) (x : RouteRt) : (setRouteRt s r x).rings = s.rings := rfl
@[simp] theorem setRouteRt_ctl (s : State) (r : ObjId) (x : RouteRt) : (setRouteRt s r x).ctl = s.ctl := rfl
@[simp] theorem setRouteRt_recPages (s : State) (r : ObjId) (x : RouteRt) : (setRouteRt s r x).recPages = s.recPages := rfl
@[simp] theorem setRouteRt_orders (s : State) (r : ObjId) (x : RouteRt) : (setRouteRt s r x).orders = s.orders := rfl
@[simp] theorem setRouteRt_frame (s : State) (r : ObjId) (x : RouteRt) : (setRouteRt s r x).frame = s.frame := rfl
@[simp] theorem setRouteRt_heads (s : State) (r : ObjId) (x : RouteRt) : (setRouteRt s r x).heads = s.heads := rfl
@[simp] theorem setRouteRt_layers (s : State) (r : ObjId) (x : RouteRt) : (setRouteRt s r x).layers = s.layers := rfl
@[simp] theorem setRouteRt_charges (s : State) (r : ObjId) (x : RouteRt) : (setRouteRt s r x).charges = s.charges := rfl
@[simp] theorem setRouteRt_slices (s : State) (r : ObjId) (x : RouteRt) : (setRouteRt s r x).slices = s.slices := rfl
@[simp] theorem setRouteRt_ports (s : State) (r : ObjId) (x : RouteRt) : (setRouteRt s r x).ports = s.ports := rfl
@[simp] theorem setRouteRt_lanes (s : State) (r : ObjId) (x : RouteRt) : (setRouteRt s r x).lanes = s.lanes := rfl
@[simp] theorem setRouteRt_groups (s : State) (r : ObjId) (x : RouteRt) : (setRouteRt s r x).groups = s.groups := rfl
@[simp] theorem setRouteRt_groupCount (s : State) (r : ObjId) (x : RouteRt) : (setRouteRt s r x).groupCount = s.groupCount := rfl
@[simp] theorem setRouteRt_hls (s : State) (r : ObjId) (x : RouteRt) : (setRouteRt s r x).hls = s.hls := rfl
@[simp] theorem setRouteRt_hlGrants (s : State) (r : ObjId) (x : RouteRt) : (setRouteRt s r x).hlGrants = s.hlGrants := rfl
@[simp] theorem setRouteRt_hlJoins (s : State) (r : ObjId) (x : RouteRt) : (setRouteRt s r x).hlJoins = s.hlJoins := rfl
@[simp] theorem setRouteRt_dests (s : State) (r : ObjId) (x : RouteRt) : (setRouteRt s r x).dests = s.dests := rfl
@[simp] theorem setRouteRt_paths (s : State) (r : ObjId) (x : RouteRt) : (setRouteRt s r x).paths = s.paths := rfl
@[simp] theorem setRouteRt_srcs (s : State) (r : ObjId) (x : RouteRt) : (setRouteRt s r x).srcs = s.srcs := rfl
@[simp] theorem setRouteRt_tdms (s : State) (r : ObjId) (x : RouteRt) : (setRouteRt s r x).tdms = s.tdms := rfl
@[simp] theorem setRouteRt_delayLines (s : State) (r : ObjId) (x : RouteRt) : (setRouteRt s r x).delayLines = s.delayLines := rfl
@[simp] theorem setRouteRt_delayCount (s : State) (r : ObjId) (x : RouteRt) : (setRouteRt s r x).delayCount = s.delayCount := rfl
@[simp] theorem setRouteRt_outs (s : State) (r : ObjId) (x : RouteRt) : (setRouteRt s r x).outs = s.outs := rfl
@[simp] theorem setRouteRt_dpPins (s : State) (r : ObjId) (x : RouteRt) : (setRouteRt s r x).dpPins = s.dpPins := rfl
@[simp] theorem setRouteRt_laneTxs (s : State) (r : ObjId) (x : RouteRt) : (setRouteRt s r x).laneTxs = s.laneTxs := rfl
@[simp] theorem setRouteRt_keys (s : State) (r : ObjId) (x : RouteRt) : (setRouteRt s r x).keys = s.keys := rfl
@[simp] theorem setRouteRt_cc (s : State) (r : ObjId) (x : RouteRt) : (setRouteRt s r x).cc = s.cc := rfl
@[simp] theorem setRouteRt_refs (s : State) (r : ObjId) (x : RouteRt) : (setRouteRt s r x).refs = s.refs := rfl
@[simp] theorem setRouteRt_tb (s : State) (r : ObjId) (x : RouteRt) : (setRouteRt s r x).tb = s.tb := rfl
@[simp] theorem setRouteRt_pcs (s : State) (r : ObjId) (x : RouteRt) : (setRouteRt s r x).pcs = s.pcs := rfl
@[simp] theorem setRouteRt_snaps (s : State) (r : ObjId) (x : RouteRt) : (setRouteRt s r x).snaps = s.snaps := rfl
@[simp] theorem setRouteRt_fsMoves (s : State) (r : ObjId) (x : RouteRt) : (setRouteRt s r x).fsMoves = s.fsMoves := rfl
@[simp] theorem setRouteRt_fsStale (s : State) (r : ObjId) (x : RouteRt) : (setRouteRt s r x).fsStale = s.fsStale := rfl
@[simp] theorem setRouteRt_chains (s : State) (r : ObjId) (x : RouteRt) : (setRouteRt s r x).chains = s.chains := rfl
@[simp] theorem setRouteRt_lamps (s : State) (r : ObjId) (x : RouteRt) : (setRouteRt s r x).lamps = s.lamps := rfl
@[simp] theorem setRouteRt_tallyOff (s : State) (r : ObjId) (x : RouteRt) : (setRouteRt s r x).tallyOff = s.tallyOff := rfl
@[simp] theorem setRouteRt_strobes (s : State) (r : ObjId) (x : RouteRt) : (setRouteRt s r x).strobes = s.strobes := rfl
@[simp] theorem setRouteRt_trigs (s : State) (r : ObjId) (x : RouteRt) : (setRouteRt s r x).trigs = s.trigs := rfl
@[simp] theorem setRouteRt_works (s : State) (r : ObjId) (x : RouteRt) : (setRouteRt s r x).works = s.works := rfl
@[simp] theorem setRouteRt_places (s : State) (r : ObjId) (x : RouteRt) : (setRouteRt s r x).places = s.places := rfl
@[simp] theorem setRouteRt_power (s : State) (r : ObjId) (x : RouteRt) : (setRouteRt s r x).power = s.power := rfl
@[simp] theorem setRouteRt_out (s : State) (r : ObjId) (x : RouteRt) : (setRouteRt s r x).out = s.out := rfl
@[simp] theorem setRouteRt_free (s : State) (r : ObjId) (x : RouteRt) : (setRouteRt s r x).free = s.free := rfl
@[simp] theorem setRouteRt_pending (s : State) (r : ObjId) (x : RouteRt) : (setRouteRt s r x).pending = s.pending := rfl

/-! ### `setPortIn` changes `ports` alone -/

@[simp] theorem setPortIn_now (s : State) (p : ObjId) (x : PortIn) : (setPortIn s p x).now = s.now := rfl
@[simp] theorem setPortIn_hif (s : State) (p : ObjId) (x : PortIn) : (setPortIn s p x).hif = s.hif := rfl
@[simp] theorem setPortIn_msixMask (s : State) (p : ObjId) (x : PortIn) : (setPortIn s p x).msixMask = s.msixMask := rfl
@[simp] theorem setPortIn_functionMask (s : State) (p : ObjId) (x : PortIn) : (setPortIn s p x).functionMask = s.functionMask := rfl
@[simp] theorem setPortIn_mbs (s : State) (p : ObjId) (x : PortIn) : (setPortIn s p x).mbs = s.mbs := rfl
@[simp] theorem setPortIn_evs (s : State) (p : ObjId) (x : PortIn) : (setPortIn s p x).evs = s.evs := rfl
@[simp] theorem setPortIn_bar0 (s : State) (p : ObjId) (x : PortIn) : (setPortIn s p x).bar0 = s.bar0 := rfl
@[simp] theorem setPortIn_props (s : State) (p : ObjId) (x : PortIn) : (setPortIn s p x).props = s.props := rfl
@[simp] theorem setPortIn_stored (s : State) (p : ObjId) (x : PortIn) : (setPortIn s p x).stored = s.stored := rfl
@[simp] theorem setPortIn_objs (s : State) (p : ObjId) (x : PortIn) : (setPortIn s p x).objs = s.objs := rfl
@[simp] theorem setPortIn_nextInst (s : State) (p : ObjId) (x : PortIn) : (setPortIn s p x).nextInst = s.nextInst := rfl
@[simp] theorem setPortIn_objSubs (s : State) (p : ObjId) (x : PortIn) : (setPortIn s p x).objSubs = s.objSubs := rfl
@[simp] theorem setPortIn_classSubs (s : State) (p : ObjId) (x : PortIn) : (setPortIn s p x).classSubs = s.classSubs := rfl
@[simp] theorem setPortIn_flights (s : State) (p : ObjId) (x : PortIn) : (setPortIn s p x).flights = s.flights := rfl
@[simp] theorem setPortIn_waiting (s : State) (p : ObjId) (x : PortIn) : (setPortIn s p x).waiting = s.waiting := rfl
@[simp] theorem setPortIn_heldEvents (s : State) (p : ObjId) (x : PortIn) : (setPortIn s p x).heldEvents = s.heldEvents := rfl
@[simp] theorem setPortIn_heldCpls (s : State) (p : ObjId) (x : PortIn) : (setPortIn s p x).heldCpls = s.heldCpls := rfl
@[simp] theorem setPortIn_dma (s : State) (p : ObjId) (x : PortIn) : (setPortIn s p x).dma = s.dma := rfl
@[simp] theorem setPortIn_dmaDead (s : State) (p : ObjId) (x : PortIn) : (setPortIn s p x).dmaDead = s.dmaDead := rfl
@[simp] theorem setPortIn_dmaLate (s : State) (p : ObjId) (x : PortIn) : (setPortIn s p x).dmaLate = s.dmaLate := rfl
@[simp] theorem setPortIn_dmaQueue (s : State) (p : ObjId) (x : PortIn) : (setPortIn s p x).dmaQueue = s.dmaQueue := rfl
@[simp] theorem setPortIn_nextTag (s : State) (p : ObjId) (x : PortIn) : (setPortIn s p x).nextTag = s.nextTag := rfl
@[simp] theorem setPortIn_surfs (s : State) (p : ObjId) (x : PortIn) : (setPortIn s p x).surfs = s.surfs := rfl
@[simp] theorem setPortIn_rings (s : State) (p : ObjId) (x : PortIn) : (setPortIn s p x).rings = s.rings := rfl
@[simp] theorem setPortIn_ctl (s : State) (p : ObjId) (x : PortIn) : (setPortIn s p x).ctl = s.ctl := rfl
@[simp] theorem setPortIn_recPages (s : State) (p : ObjId) (x : PortIn) : (setPortIn s p x).recPages = s.recPages := rfl
@[simp] theorem setPortIn_orders (s : State) (p : ObjId) (x : PortIn) : (setPortIn s p x).orders = s.orders := rfl
@[simp] theorem setPortIn_frame (s : State) (p : ObjId) (x : PortIn) : (setPortIn s p x).frame = s.frame := rfl
@[simp] theorem setPortIn_heads (s : State) (p : ObjId) (x : PortIn) : (setPortIn s p x).heads = s.heads := rfl
@[simp] theorem setPortIn_layers (s : State) (p : ObjId) (x : PortIn) : (setPortIn s p x).layers = s.layers := rfl
@[simp] theorem setPortIn_routes (s : State) (p : ObjId) (x : PortIn) : (setPortIn s p x).routes = s.routes := rfl
@[simp] theorem setPortIn_charges (s : State) (p : ObjId) (x : PortIn) : (setPortIn s p x).charges = s.charges := rfl
@[simp] theorem setPortIn_slices (s : State) (p : ObjId) (x : PortIn) : (setPortIn s p x).slices = s.slices := rfl
@[simp] theorem setPortIn_lanes (s : State) (p : ObjId) (x : PortIn) : (setPortIn s p x).lanes = s.lanes := rfl
@[simp] theorem setPortIn_groups (s : State) (p : ObjId) (x : PortIn) : (setPortIn s p x).groups = s.groups := rfl
@[simp] theorem setPortIn_groupCount (s : State) (p : ObjId) (x : PortIn) : (setPortIn s p x).groupCount = s.groupCount := rfl
@[simp] theorem setPortIn_hls (s : State) (p : ObjId) (x : PortIn) : (setPortIn s p x).hls = s.hls := rfl
@[simp] theorem setPortIn_hlGrants (s : State) (p : ObjId) (x : PortIn) : (setPortIn s p x).hlGrants = s.hlGrants := rfl
@[simp] theorem setPortIn_hlJoins (s : State) (p : ObjId) (x : PortIn) : (setPortIn s p x).hlJoins = s.hlJoins := rfl
@[simp] theorem setPortIn_dests (s : State) (p : ObjId) (x : PortIn) : (setPortIn s p x).dests = s.dests := rfl
@[simp] theorem setPortIn_paths (s : State) (p : ObjId) (x : PortIn) : (setPortIn s p x).paths = s.paths := rfl
@[simp] theorem setPortIn_srcs (s : State) (p : ObjId) (x : PortIn) : (setPortIn s p x).srcs = s.srcs := rfl
@[simp] theorem setPortIn_tdms (s : State) (p : ObjId) (x : PortIn) : (setPortIn s p x).tdms = s.tdms := rfl
@[simp] theorem setPortIn_delayLines (s : State) (p : ObjId) (x : PortIn) : (setPortIn s p x).delayLines = s.delayLines := rfl
@[simp] theorem setPortIn_delayCount (s : State) (p : ObjId) (x : PortIn) : (setPortIn s p x).delayCount = s.delayCount := rfl
@[simp] theorem setPortIn_outs (s : State) (p : ObjId) (x : PortIn) : (setPortIn s p x).outs = s.outs := rfl
@[simp] theorem setPortIn_dpPins (s : State) (p : ObjId) (x : PortIn) : (setPortIn s p x).dpPins = s.dpPins := rfl
@[simp] theorem setPortIn_laneTxs (s : State) (p : ObjId) (x : PortIn) : (setPortIn s p x).laneTxs = s.laneTxs := rfl
@[simp] theorem setPortIn_keys (s : State) (p : ObjId) (x : PortIn) : (setPortIn s p x).keys = s.keys := rfl
@[simp] theorem setPortIn_cc (s : State) (p : ObjId) (x : PortIn) : (setPortIn s p x).cc = s.cc := rfl
@[simp] theorem setPortIn_refs (s : State) (p : ObjId) (x : PortIn) : (setPortIn s p x).refs = s.refs := rfl
@[simp] theorem setPortIn_tb (s : State) (p : ObjId) (x : PortIn) : (setPortIn s p x).tb = s.tb := rfl
@[simp] theorem setPortIn_pcs (s : State) (p : ObjId) (x : PortIn) : (setPortIn s p x).pcs = s.pcs := rfl
@[simp] theorem setPortIn_snaps (s : State) (p : ObjId) (x : PortIn) : (setPortIn s p x).snaps = s.snaps := rfl
@[simp] theorem setPortIn_fsMoves (s : State) (p : ObjId) (x : PortIn) : (setPortIn s p x).fsMoves = s.fsMoves := rfl
@[simp] theorem setPortIn_fsStale (s : State) (p : ObjId) (x : PortIn) : (setPortIn s p x).fsStale = s.fsStale := rfl
@[simp] theorem setPortIn_chains (s : State) (p : ObjId) (x : PortIn) : (setPortIn s p x).chains = s.chains := rfl
@[simp] theorem setPortIn_lamps (s : State) (p : ObjId) (x : PortIn) : (setPortIn s p x).lamps = s.lamps := rfl
@[simp] theorem setPortIn_tallyOff (s : State) (p : ObjId) (x : PortIn) : (setPortIn s p x).tallyOff = s.tallyOff := rfl
@[simp] theorem setPortIn_strobes (s : State) (p : ObjId) (x : PortIn) : (setPortIn s p x).strobes = s.strobes := rfl
@[simp] theorem setPortIn_trigs (s : State) (p : ObjId) (x : PortIn) : (setPortIn s p x).trigs = s.trigs := rfl
@[simp] theorem setPortIn_works (s : State) (p : ObjId) (x : PortIn) : (setPortIn s p x).works = s.works := rfl
@[simp] theorem setPortIn_places (s : State) (p : ObjId) (x : PortIn) : (setPortIn s p x).places = s.places := rfl
@[simp] theorem setPortIn_power (s : State) (p : ObjId) (x : PortIn) : (setPortIn s p x).power = s.power := rfl
@[simp] theorem setPortIn_out (s : State) (p : ObjId) (x : PortIn) : (setPortIn s p x).out = s.out := rfl
@[simp] theorem setPortIn_free (s : State) (p : ObjId) (x : PortIn) : (setPortIn s p x).free = s.free := rfl
@[simp] theorem setPortIn_pending (s : State) (p : ObjId) (x : PortIn) : (setPortIn s p x).pending = s.pending := rfl

/-! ### `setCc` changes `cc` alone -/

@[simp] theorem setCc_now (s : State) (f : Ctl → Ctl) : (setCc s f).now = s.now := rfl
@[simp] theorem setCc_hif (s : State) (f : Ctl → Ctl) : (setCc s f).hif = s.hif := rfl
@[simp] theorem setCc_msixMask (s : State) (f : Ctl → Ctl) : (setCc s f).msixMask = s.msixMask := rfl
@[simp] theorem setCc_functionMask (s : State) (f : Ctl → Ctl) : (setCc s f).functionMask = s.functionMask := rfl
@[simp] theorem setCc_mbs (s : State) (f : Ctl → Ctl) : (setCc s f).mbs = s.mbs := rfl
@[simp] theorem setCc_evs (s : State) (f : Ctl → Ctl) : (setCc s f).evs = s.evs := rfl
@[simp] theorem setCc_bar0 (s : State) (f : Ctl → Ctl) : (setCc s f).bar0 = s.bar0 := rfl
@[simp] theorem setCc_props (s : State) (f : Ctl → Ctl) : (setCc s f).props = s.props := rfl
@[simp] theorem setCc_stored (s : State) (f : Ctl → Ctl) : (setCc s f).stored = s.stored := rfl
@[simp] theorem setCc_objs (s : State) (f : Ctl → Ctl) : (setCc s f).objs = s.objs := rfl
@[simp] theorem setCc_nextInst (s : State) (f : Ctl → Ctl) : (setCc s f).nextInst = s.nextInst := rfl
@[simp] theorem setCc_objSubs (s : State) (f : Ctl → Ctl) : (setCc s f).objSubs = s.objSubs := rfl
@[simp] theorem setCc_classSubs (s : State) (f : Ctl → Ctl) : (setCc s f).classSubs = s.classSubs := rfl
@[simp] theorem setCc_flights (s : State) (f : Ctl → Ctl) : (setCc s f).flights = s.flights := rfl
@[simp] theorem setCc_waiting (s : State) (f : Ctl → Ctl) : (setCc s f).waiting = s.waiting := rfl
@[simp] theorem setCc_heldEvents (s : State) (f : Ctl → Ctl) : (setCc s f).heldEvents = s.heldEvents := rfl
@[simp] theorem setCc_heldCpls (s : State) (f : Ctl → Ctl) : (setCc s f).heldCpls = s.heldCpls := rfl
@[simp] theorem setCc_dma (s : State) (f : Ctl → Ctl) : (setCc s f).dma = s.dma := rfl
@[simp] theorem setCc_dmaDead (s : State) (f : Ctl → Ctl) : (setCc s f).dmaDead = s.dmaDead := rfl
@[simp] theorem setCc_dmaLate (s : State) (f : Ctl → Ctl) : (setCc s f).dmaLate = s.dmaLate := rfl
@[simp] theorem setCc_dmaQueue (s : State) (f : Ctl → Ctl) : (setCc s f).dmaQueue = s.dmaQueue := rfl
@[simp] theorem setCc_nextTag (s : State) (f : Ctl → Ctl) : (setCc s f).nextTag = s.nextTag := rfl
@[simp] theorem setCc_surfs (s : State) (f : Ctl → Ctl) : (setCc s f).surfs = s.surfs := rfl
@[simp] theorem setCc_rings (s : State) (f : Ctl → Ctl) : (setCc s f).rings = s.rings := rfl
@[simp] theorem setCc_ctl (s : State) (f : Ctl → Ctl) : (setCc s f).ctl = s.ctl := rfl
@[simp] theorem setCc_recPages (s : State) (f : Ctl → Ctl) : (setCc s f).recPages = s.recPages := rfl
@[simp] theorem setCc_orders (s : State) (f : Ctl → Ctl) : (setCc s f).orders = s.orders := rfl
@[simp] theorem setCc_frame (s : State) (f : Ctl → Ctl) : (setCc s f).frame = s.frame := rfl
@[simp] theorem setCc_heads (s : State) (f : Ctl → Ctl) : (setCc s f).heads = s.heads := rfl
@[simp] theorem setCc_layers (s : State) (f : Ctl → Ctl) : (setCc s f).layers = s.layers := rfl
@[simp] theorem setCc_routes (s : State) (f : Ctl → Ctl) : (setCc s f).routes = s.routes := rfl
@[simp] theorem setCc_charges (s : State) (f : Ctl → Ctl) : (setCc s f).charges = s.charges := rfl
@[simp] theorem setCc_slices (s : State) (f : Ctl → Ctl) : (setCc s f).slices = s.slices := rfl
@[simp] theorem setCc_ports (s : State) (f : Ctl → Ctl) : (setCc s f).ports = s.ports := rfl
@[simp] theorem setCc_lanes (s : State) (f : Ctl → Ctl) : (setCc s f).lanes = s.lanes := rfl
@[simp] theorem setCc_groups (s : State) (f : Ctl → Ctl) : (setCc s f).groups = s.groups := rfl
@[simp] theorem setCc_groupCount (s : State) (f : Ctl → Ctl) : (setCc s f).groupCount = s.groupCount := rfl
@[simp] theorem setCc_hls (s : State) (f : Ctl → Ctl) : (setCc s f).hls = s.hls := rfl
@[simp] theorem setCc_hlGrants (s : State) (f : Ctl → Ctl) : (setCc s f).hlGrants = s.hlGrants := rfl
@[simp] theorem setCc_hlJoins (s : State) (f : Ctl → Ctl) : (setCc s f).hlJoins = s.hlJoins := rfl
@[simp] theorem setCc_dests (s : State) (f : Ctl → Ctl) : (setCc s f).dests = s.dests := rfl
@[simp] theorem setCc_paths (s : State) (f : Ctl → Ctl) : (setCc s f).paths = s.paths := rfl
@[simp] theorem setCc_srcs (s : State) (f : Ctl → Ctl) : (setCc s f).srcs = s.srcs := rfl
@[simp] theorem setCc_tdms (s : State) (f : Ctl → Ctl) : (setCc s f).tdms = s.tdms := rfl
@[simp] theorem setCc_delayLines (s : State) (f : Ctl → Ctl) : (setCc s f).delayLines = s.delayLines := rfl
@[simp] theorem setCc_delayCount (s : State) (f : Ctl → Ctl) : (setCc s f).delayCount = s.delayCount := rfl
@[simp] theorem setCc_outs (s : State) (f : Ctl → Ctl) : (setCc s f).outs = s.outs := rfl
@[simp] theorem setCc_dpPins (s : State) (f : Ctl → Ctl) : (setCc s f).dpPins = s.dpPins := rfl
@[simp] theorem setCc_laneTxs (s : State) (f : Ctl → Ctl) : (setCc s f).laneTxs = s.laneTxs := rfl
@[simp] theorem setCc_keys (s : State) (f : Ctl → Ctl) : (setCc s f).keys = s.keys := rfl
@[simp] theorem setCc_refs (s : State) (f : Ctl → Ctl) : (setCc s f).refs = s.refs := rfl
@[simp] theorem setCc_tb (s : State) (f : Ctl → Ctl) : (setCc s f).tb = s.tb := rfl
@[simp] theorem setCc_pcs (s : State) (f : Ctl → Ctl) : (setCc s f).pcs = s.pcs := rfl
@[simp] theorem setCc_snaps (s : State) (f : Ctl → Ctl) : (setCc s f).snaps = s.snaps := rfl
@[simp] theorem setCc_fsMoves (s : State) (f : Ctl → Ctl) : (setCc s f).fsMoves = s.fsMoves := rfl
@[simp] theorem setCc_fsStale (s : State) (f : Ctl → Ctl) : (setCc s f).fsStale = s.fsStale := rfl
@[simp] theorem setCc_chains (s : State) (f : Ctl → Ctl) : (setCc s f).chains = s.chains := rfl
@[simp] theorem setCc_lamps (s : State) (f : Ctl → Ctl) : (setCc s f).lamps = s.lamps := rfl
@[simp] theorem setCc_tallyOff (s : State) (f : Ctl → Ctl) : (setCc s f).tallyOff = s.tallyOff := rfl
@[simp] theorem setCc_strobes (s : State) (f : Ctl → Ctl) : (setCc s f).strobes = s.strobes := rfl
@[simp] theorem setCc_trigs (s : State) (f : Ctl → Ctl) : (setCc s f).trigs = s.trigs := rfl
@[simp] theorem setCc_works (s : State) (f : Ctl → Ctl) : (setCc s f).works = s.works := rfl
@[simp] theorem setCc_places (s : State) (f : Ctl → Ctl) : (setCc s f).places = s.places := rfl
@[simp] theorem setCc_power (s : State) (f : Ctl → Ctl) : (setCc s f).power = s.power := rfl
@[simp] theorem setCc_out (s : State) (f : Ctl → Ctl) : (setCc s f).out = s.out := rfl
@[simp] theorem setCc_free (s : State) (f : Ctl → Ctl) : (setCc s f).free = s.free := rfl
@[simp] theorem setCc_pending (s : State) (f : Ctl → Ctl) : (setCc s f).pending = s.pending := rfl

/-! ### `setKeys` changes `keys` alone -/

@[simp] theorem setKeys_now (s : State) (f : Keyring → Keyring) : (setKeys s f).now = s.now := rfl
@[simp] theorem setKeys_hif (s : State) (f : Keyring → Keyring) : (setKeys s f).hif = s.hif := rfl
@[simp] theorem setKeys_msixMask (s : State) (f : Keyring → Keyring) : (setKeys s f).msixMask = s.msixMask := rfl
@[simp] theorem setKeys_functionMask (s : State) (f : Keyring → Keyring) : (setKeys s f).functionMask = s.functionMask := rfl
@[simp] theorem setKeys_mbs (s : State) (f : Keyring → Keyring) : (setKeys s f).mbs = s.mbs := rfl
@[simp] theorem setKeys_evs (s : State) (f : Keyring → Keyring) : (setKeys s f).evs = s.evs := rfl
@[simp] theorem setKeys_bar0 (s : State) (f : Keyring → Keyring) : (setKeys s f).bar0 = s.bar0 := rfl
@[simp] theorem setKeys_props (s : State) (f : Keyring → Keyring) : (setKeys s f).props = s.props := rfl
@[simp] theorem setKeys_stored (s : State) (f : Keyring → Keyring) : (setKeys s f).stored = s.stored := rfl
@[simp] theorem setKeys_objs (s : State) (f : Keyring → Keyring) : (setKeys s f).objs = s.objs := rfl
@[simp] theorem setKeys_nextInst (s : State) (f : Keyring → Keyring) : (setKeys s f).nextInst = s.nextInst := rfl
@[simp] theorem setKeys_objSubs (s : State) (f : Keyring → Keyring) : (setKeys s f).objSubs = s.objSubs := rfl
@[simp] theorem setKeys_classSubs (s : State) (f : Keyring → Keyring) : (setKeys s f).classSubs = s.classSubs := rfl
@[simp] theorem setKeys_flights (s : State) (f : Keyring → Keyring) : (setKeys s f).flights = s.flights := rfl
@[simp] theorem setKeys_waiting (s : State) (f : Keyring → Keyring) : (setKeys s f).waiting = s.waiting := rfl
@[simp] theorem setKeys_heldEvents (s : State) (f : Keyring → Keyring) : (setKeys s f).heldEvents = s.heldEvents := rfl
@[simp] theorem setKeys_heldCpls (s : State) (f : Keyring → Keyring) : (setKeys s f).heldCpls = s.heldCpls := rfl
@[simp] theorem setKeys_dma (s : State) (f : Keyring → Keyring) : (setKeys s f).dma = s.dma := rfl
@[simp] theorem setKeys_dmaDead (s : State) (f : Keyring → Keyring) : (setKeys s f).dmaDead = s.dmaDead := rfl
@[simp] theorem setKeys_dmaLate (s : State) (f : Keyring → Keyring) : (setKeys s f).dmaLate = s.dmaLate := rfl
@[simp] theorem setKeys_dmaQueue (s : State) (f : Keyring → Keyring) : (setKeys s f).dmaQueue = s.dmaQueue := rfl
@[simp] theorem setKeys_nextTag (s : State) (f : Keyring → Keyring) : (setKeys s f).nextTag = s.nextTag := rfl
@[simp] theorem setKeys_surfs (s : State) (f : Keyring → Keyring) : (setKeys s f).surfs = s.surfs := rfl
@[simp] theorem setKeys_rings (s : State) (f : Keyring → Keyring) : (setKeys s f).rings = s.rings := rfl
@[simp] theorem setKeys_ctl (s : State) (f : Keyring → Keyring) : (setKeys s f).ctl = s.ctl := rfl
@[simp] theorem setKeys_recPages (s : State) (f : Keyring → Keyring) : (setKeys s f).recPages = s.recPages := rfl
@[simp] theorem setKeys_orders (s : State) (f : Keyring → Keyring) : (setKeys s f).orders = s.orders := rfl
@[simp] theorem setKeys_frame (s : State) (f : Keyring → Keyring) : (setKeys s f).frame = s.frame := rfl
@[simp] theorem setKeys_heads (s : State) (f : Keyring → Keyring) : (setKeys s f).heads = s.heads := rfl
@[simp] theorem setKeys_layers (s : State) (f : Keyring → Keyring) : (setKeys s f).layers = s.layers := rfl
@[simp] theorem setKeys_routes (s : State) (f : Keyring → Keyring) : (setKeys s f).routes = s.routes := rfl
@[simp] theorem setKeys_charges (s : State) (f : Keyring → Keyring) : (setKeys s f).charges = s.charges := rfl
@[simp] theorem setKeys_slices (s : State) (f : Keyring → Keyring) : (setKeys s f).slices = s.slices := rfl
@[simp] theorem setKeys_ports (s : State) (f : Keyring → Keyring) : (setKeys s f).ports = s.ports := rfl
@[simp] theorem setKeys_lanes (s : State) (f : Keyring → Keyring) : (setKeys s f).lanes = s.lanes := rfl
@[simp] theorem setKeys_groups (s : State) (f : Keyring → Keyring) : (setKeys s f).groups = s.groups := rfl
@[simp] theorem setKeys_groupCount (s : State) (f : Keyring → Keyring) : (setKeys s f).groupCount = s.groupCount := rfl
@[simp] theorem setKeys_hls (s : State) (f : Keyring → Keyring) : (setKeys s f).hls = s.hls := rfl
@[simp] theorem setKeys_hlGrants (s : State) (f : Keyring → Keyring) : (setKeys s f).hlGrants = s.hlGrants := rfl
@[simp] theorem setKeys_hlJoins (s : State) (f : Keyring → Keyring) : (setKeys s f).hlJoins = s.hlJoins := rfl
@[simp] theorem setKeys_dests (s : State) (f : Keyring → Keyring) : (setKeys s f).dests = s.dests := rfl
@[simp] theorem setKeys_paths (s : State) (f : Keyring → Keyring) : (setKeys s f).paths = s.paths := rfl
@[simp] theorem setKeys_srcs (s : State) (f : Keyring → Keyring) : (setKeys s f).srcs = s.srcs := rfl
@[simp] theorem setKeys_tdms (s : State) (f : Keyring → Keyring) : (setKeys s f).tdms = s.tdms := rfl
@[simp] theorem setKeys_delayLines (s : State) (f : Keyring → Keyring) : (setKeys s f).delayLines = s.delayLines := rfl
@[simp] theorem setKeys_delayCount (s : State) (f : Keyring → Keyring) : (setKeys s f).delayCount = s.delayCount := rfl
@[simp] theorem setKeys_outs (s : State) (f : Keyring → Keyring) : (setKeys s f).outs = s.outs := rfl
@[simp] theorem setKeys_dpPins (s : State) (f : Keyring → Keyring) : (setKeys s f).dpPins = s.dpPins := rfl
@[simp] theorem setKeys_laneTxs (s : State) (f : Keyring → Keyring) : (setKeys s f).laneTxs = s.laneTxs := rfl
@[simp] theorem setKeys_cc (s : State) (f : Keyring → Keyring) : (setKeys s f).cc = s.cc := rfl
@[simp] theorem setKeys_refs (s : State) (f : Keyring → Keyring) : (setKeys s f).refs = s.refs := rfl
@[simp] theorem setKeys_tb (s : State) (f : Keyring → Keyring) : (setKeys s f).tb = s.tb := rfl
@[simp] theorem setKeys_pcs (s : State) (f : Keyring → Keyring) : (setKeys s f).pcs = s.pcs := rfl
@[simp] theorem setKeys_snaps (s : State) (f : Keyring → Keyring) : (setKeys s f).snaps = s.snaps := rfl
@[simp] theorem setKeys_fsMoves (s : State) (f : Keyring → Keyring) : (setKeys s f).fsMoves = s.fsMoves := rfl
@[simp] theorem setKeys_fsStale (s : State) (f : Keyring → Keyring) : (setKeys s f).fsStale = s.fsStale := rfl
@[simp] theorem setKeys_chains (s : State) (f : Keyring → Keyring) : (setKeys s f).chains = s.chains := rfl
@[simp] theorem setKeys_lamps (s : State) (f : Keyring → Keyring) : (setKeys s f).lamps = s.lamps := rfl
@[simp] theorem setKeys_tallyOff (s : State) (f : Keyring → Keyring) : (setKeys s f).tallyOff = s.tallyOff := rfl
@[simp] theorem setKeys_strobes (s : State) (f : Keyring → Keyring) : (setKeys s f).strobes = s.strobes := rfl
@[simp] theorem setKeys_trigs (s : State) (f : Keyring → Keyring) : (setKeys s f).trigs = s.trigs := rfl
@[simp] theorem setKeys_works (s : State) (f : Keyring → Keyring) : (setKeys s f).works = s.works := rfl
@[simp] theorem setKeys_places (s : State) (f : Keyring → Keyring) : (setKeys s f).places = s.places := rfl
@[simp] theorem setKeys_power (s : State) (f : Keyring → Keyring) : (setKeys s f).power = s.power := rfl
@[simp] theorem setKeys_out (s : State) (f : Keyring → Keyring) : (setKeys s f).out = s.out := rfl
@[simp] theorem setKeys_free (s : State) (f : Keyring → Keyring) : (setKeys s f).free = s.free := rfl
@[simp] theorem setKeys_pending (s : State) (f : Keyring → Keyring) : (setKeys s f).pending = s.pending := rfl

/-! ### `setPower` changes `power` alone -/

@[simp] theorem setPower_now (s : State) (f : Power → Power) : (setPower s f).now = s.now := rfl
@[simp] theorem setPower_hif (s : State) (f : Power → Power) : (setPower s f).hif = s.hif := rfl
@[simp] theorem setPower_msixMask (s : State) (f : Power → Power) : (setPower s f).msixMask = s.msixMask := rfl
@[simp] theorem setPower_functionMask (s : State) (f : Power → Power) : (setPower s f).functionMask = s.functionMask := rfl
@[simp] theorem setPower_mbs (s : State) (f : Power → Power) : (setPower s f).mbs = s.mbs := rfl
@[simp] theorem setPower_evs (s : State) (f : Power → Power) : (setPower s f).evs = s.evs := rfl
@[simp] theorem setPower_bar0 (s : State) (f : Power → Power) : (setPower s f).bar0 = s.bar0 := rfl
@[simp] theorem setPower_props (s : State) (f : Power → Power) : (setPower s f).props = s.props := rfl
@[simp] theorem setPower_stored (s : State) (f : Power → Power) : (setPower s f).stored = s.stored := rfl
@[simp] theorem setPower_objs (s : State) (f : Power → Power) : (setPower s f).objs = s.objs := rfl
@[simp] theorem setPower_nextInst (s : State) (f : Power → Power) : (setPower s f).nextInst = s.nextInst := rfl
@[simp] theorem setPower_objSubs (s : State) (f : Power → Power) : (setPower s f).objSubs = s.objSubs := rfl
@[simp] theorem setPower_classSubs (s : State) (f : Power → Power) : (setPower s f).classSubs = s.classSubs := rfl
@[simp] theorem setPower_flights (s : State) (f : Power → Power) : (setPower s f).flights = s.flights := rfl
@[simp] theorem setPower_waiting (s : State) (f : Power → Power) : (setPower s f).waiting = s.waiting := rfl
@[simp] theorem setPower_heldEvents (s : State) (f : Power → Power) : (setPower s f).heldEvents = s.heldEvents := rfl
@[simp] theorem setPower_heldCpls (s : State) (f : Power → Power) : (setPower s f).heldCpls = s.heldCpls := rfl
@[simp] theorem setPower_dma (s : State) (f : Power → Power) : (setPower s f).dma = s.dma := rfl
@[simp] theorem setPower_dmaDead (s : State) (f : Power → Power) : (setPower s f).dmaDead = s.dmaDead := rfl
@[simp] theorem setPower_dmaLate (s : State) (f : Power → Power) : (setPower s f).dmaLate = s.dmaLate := rfl
@[simp] theorem setPower_dmaQueue (s : State) (f : Power → Power) : (setPower s f).dmaQueue = s.dmaQueue := rfl
@[simp] theorem setPower_nextTag (s : State) (f : Power → Power) : (setPower s f).nextTag = s.nextTag := rfl
@[simp] theorem setPower_surfs (s : State) (f : Power → Power) : (setPower s f).surfs = s.surfs := rfl
@[simp] theorem setPower_rings (s : State) (f : Power → Power) : (setPower s f).rings = s.rings := rfl
@[simp] theorem setPower_ctl (s : State) (f : Power → Power) : (setPower s f).ctl = s.ctl := rfl
@[simp] theorem setPower_recPages (s : State) (f : Power → Power) : (setPower s f).recPages = s.recPages := rfl
@[simp] theorem setPower_orders (s : State) (f : Power → Power) : (setPower s f).orders = s.orders := rfl
@[simp] theorem setPower_frame (s : State) (f : Power → Power) : (setPower s f).frame = s.frame := rfl
@[simp] theorem setPower_heads (s : State) (f : Power → Power) : (setPower s f).heads = s.heads := rfl
@[simp] theorem setPower_layers (s : State) (f : Power → Power) : (setPower s f).layers = s.layers := rfl
@[simp] theorem setPower_routes (s : State) (f : Power → Power) : (setPower s f).routes = s.routes := rfl
@[simp] theorem setPower_charges (s : State) (f : Power → Power) : (setPower s f).charges = s.charges := rfl
@[simp] theorem setPower_slices (s : State) (f : Power → Power) : (setPower s f).slices = s.slices := rfl
@[simp] theorem setPower_ports (s : State) (f : Power → Power) : (setPower s f).ports = s.ports := rfl
@[simp] theorem setPower_lanes (s : State) (f : Power → Power) : (setPower s f).lanes = s.lanes := rfl
@[simp] theorem setPower_groups (s : State) (f : Power → Power) : (setPower s f).groups = s.groups := rfl
@[simp] theorem setPower_groupCount (s : State) (f : Power → Power) : (setPower s f).groupCount = s.groupCount := rfl
@[simp] theorem setPower_hls (s : State) (f : Power → Power) : (setPower s f).hls = s.hls := rfl
@[simp] theorem setPower_hlGrants (s : State) (f : Power → Power) : (setPower s f).hlGrants = s.hlGrants := rfl
@[simp] theorem setPower_hlJoins (s : State) (f : Power → Power) : (setPower s f).hlJoins = s.hlJoins := rfl
@[simp] theorem setPower_dests (s : State) (f : Power → Power) : (setPower s f).dests = s.dests := rfl
@[simp] theorem setPower_paths (s : State) (f : Power → Power) : (setPower s f).paths = s.paths := rfl
@[simp] theorem setPower_srcs (s : State) (f : Power → Power) : (setPower s f).srcs = s.srcs := rfl
@[simp] theorem setPower_tdms (s : State) (f : Power → Power) : (setPower s f).tdms = s.tdms := rfl
@[simp] theorem setPower_delayLines (s : State) (f : Power → Power) : (setPower s f).delayLines = s.delayLines := rfl
@[simp] theorem setPower_delayCount (s : State) (f : Power → Power) : (setPower s f).delayCount = s.delayCount := rfl
@[simp] theorem setPower_outs (s : State) (f : Power → Power) : (setPower s f).outs = s.outs := rfl
@[simp] theorem setPower_dpPins (s : State) (f : Power → Power) : (setPower s f).dpPins = s.dpPins := rfl
@[simp] theorem setPower_laneTxs (s : State) (f : Power → Power) : (setPower s f).laneTxs = s.laneTxs := rfl
@[simp] theorem setPower_keys (s : State) (f : Power → Power) : (setPower s f).keys = s.keys := rfl
@[simp] theorem setPower_cc (s : State) (f : Power → Power) : (setPower s f).cc = s.cc := rfl
@[simp] theorem setPower_refs (s : State) (f : Power → Power) : (setPower s f).refs = s.refs := rfl
@[simp] theorem setPower_tb (s : State) (f : Power → Power) : (setPower s f).tb = s.tb := rfl
@[simp] theorem setPower_pcs (s : State) (f : Power → Power) : (setPower s f).pcs = s.pcs := rfl
@[simp] theorem setPower_snaps (s : State) (f : Power → Power) : (setPower s f).snaps = s.snaps := rfl
@[simp] theorem setPower_fsMoves (s : State) (f : Power → Power) : (setPower s f).fsMoves = s.fsMoves := rfl
@[simp] theorem setPower_fsStale (s : State) (f : Power → Power) : (setPower s f).fsStale = s.fsStale := rfl
@[simp] theorem setPower_chains (s : State) (f : Power → Power) : (setPower s f).chains = s.chains := rfl
@[simp] theorem setPower_lamps (s : State) (f : Power → Power) : (setPower s f).lamps = s.lamps := rfl
@[simp] theorem setPower_tallyOff (s : State) (f : Power → Power) : (setPower s f).tallyOff = s.tallyOff := rfl
@[simp] theorem setPower_strobes (s : State) (f : Power → Power) : (setPower s f).strobes = s.strobes := rfl
@[simp] theorem setPower_trigs (s : State) (f : Power → Power) : (setPower s f).trigs = s.trigs := rfl
@[simp] theorem setPower_works (s : State) (f : Power → Power) : (setPower s f).works = s.works := rfl
@[simp] theorem setPower_places (s : State) (f : Power → Power) : (setPower s f).places = s.places := rfl
@[simp] theorem setPower_out (s : State) (f : Power → Power) : (setPower s f).out = s.out := rfl
@[simp] theorem setPower_free (s : State) (f : Power → Power) : (setPower s f).free = s.free := rfl
@[simp] theorem setPower_pending (s : State) (f : Power → Power) : (setPower s f).pending = s.pending := rfl

@[simp] theorem tickTo_now (t : Ticks) (s : State) : (tickTo t s).now = max s.now t := rfl
@[simp] theorem setProp_props (s : State) (o : ObjId) (pid idx : Nat) (v : Int) :
    (setProp s o pid idx v).props = putDelta s.props o pid idx v := rfl
@[simp] theorem emit_out (s : State) (o : Output) : (emit s o).out = if s.power.taken then s.out else (s.now, o) :: s.out := rfl
@[simp] theorem setMb_mbs (s : State) (n : Nat) (m : Mailbox) : (setMb s n m).mbs = mapPut s.mbs n m := rfl
@[simp] theorem setEv_evs (s : State) (n : Nat) (e : EvRing) : (setEv s n e).evs = mapPut s.evs n e := rfl
@[simp] theorem setSurf_surfs (s : State) (o : ObjId) (f : Surf) : (setSurf s o f).surfs = mapPut s.surfs o f := rfl
@[simp] theorem setRing_rings (s : State) (o : ObjId) (r : Ring) : (setRing s o r).rings = mapPut s.rings o r := rfl
@[simp] theorem setHeadRt_heads (s : State) (h : Nat) (r : HeadRt) : (setHeadRt s h r).heads = mapPut s.heads h r := rfl
@[simp] theorem setRouteRt_routes (s : State) (r : ObjId) (x : RouteRt) :
    (setRouteRt s r x).routes = mapPut s.routes r x := rfl
@[simp] theorem setPortIn_ports (s : State) (p : ObjId) (x : PortIn) :
    (setPortIn s p x).ports = mapPut s.ports (objInst p) x := rfl
@[simp] theorem setCc_cc (s : State) (f : Ctl → Ctl) : (setCc s f).cc = f s.cc := rfl
@[simp] theorem setKeys_keys (s : State) (f : Keyring → Keyring) : (setKeys s f).keys = f s.keys := rfl
@[simp] theorem setPower_power (s : State) (f : Power → Power) : (setPower s f).power = f s.power := rfl

end Sys2Proof.Machine
end

