-- ==== Sys2Proof/Laws/Ops.lean ====
section
/-! SUPPORT. What the shared operations can do: properties, events, completions, and how a command ends. -/

namespace Sys2Proof.Machine

/-! ### Properties -/

theorem propKey_inj {o p o' p' i i' : Nat} (hp : p < 0x10000) (hp' : p' < 0x10000) (hi : i < 0x1000000) (hi' : i' < 0x1000000)
    (h : propKey o p i = propKey o' p' i') : o = o' ∧ p = p' ∧ i = i' := by
  unfold propKey at h
  omega

/-- A property set is read back. -/
theorem getProp_setProp_same (s : State) (o : ObjId) (pid idx : Nat) (v : Int) (h : mapSorted s.props = true) :
    getProp (setProp s o pid idx v) o pid idx = v := by
  unfold getProp setProp putDelta
  split
  · rename_i hv
    simp [mapGet_mapDel_same _ _ h, hv]
  · simp

/-- A property set leaves every other one. -/
theorem getProp_setProp_ne (s : State) (o o' : ObjId) (pid idx pid' idx' : Nat) (v : Int)
    (h : propKey o' pid' idx' ≠ propKey o pid idx) : getProp (setProp s o pid idx v) o' pid' idx' = getProp s o' pid' idx' := by
  unfold getProp setProp putDelta
  split
  · simp [mapGet_mapDel_ne _ h]
  · simp [mapGet_mapPut_ne _ _ h]

/-- Setting a property keeps the map sorted. -/
theorem setProp_sorted (s : State) (o : ObjId) (pid idx : Nat) (v : Int) (h : mapSorted s.props = true) :
    mapSorted (setProp s o pid idx v).props = true := by
  unfold setProp putDelta
  split
  · exact mapSorted_mapDel _ _ h
  · exact mapSorted_mapPut _ _ _ h

/-- A property is read from the property map alone. -/
theorem getProp_congr {s u : State} (h : u.props = s.props) (o : ObjId) (pid idx : Nat) :
    getProp u o pid idx = getProp s o pid idx := by simp [getProp, h]

/-! ### The spine -/

@[simp] theorem spine_tickTo (t : Ticks) (s : State) : spine (tickTo t s) = spine s := rfl
@[simp] theorem spine_setProp (s : State) (o : ObjId) (p i : Nat) (v : Int) : spine (setProp s o p i v) = spine s := rfl
@[simp] theorem spine_emit (s : State) (o : Output) : spine (emit s o) = spine s := rfl
@[simp] theorem spine_setMb (s : State) (n : Nat) (m : Mailbox) : spine (setMb s n m) = spine s := rfl
@[simp] theorem spine_setEv (s : State) (n : Nat) (e : EvRing) : spine (setEv s n e) = spine s := rfl
@[simp] theorem spine_setCc (s : State) (f : Ctl → Ctl) : spine (setCc s f) = spine s := rfl
@[simp] theorem spine_setPower (s : State) (f : Power → Power) : spine (setPower s f) = spine s := rfl
@[simp] theorem spine_setSurf (s : State) (o : ObjId) (f : Surf) : spine (setSurf s o f) = spine s := rfl
@[simp] theorem spine_setRing (s : State) (o : ObjId) (r : Ring) : spine (setRing s o r) = spine s := rfl
@[simp] theorem spine_setHeadRt (s : State) (h : Nat) (r : HeadRt) : spine (setHeadRt s h r) = spine s := rfl
@[simp] theorem spine_setLayerRt (s : State) (h : Nat) (r : LayerRt) : spine (setLayerRt s h r) = spine s := rfl
@[simp] theorem spine_setRouteRt (s : State) (h : Nat) (r : RouteRt) : spine (setRouteRt s h r) = spine s := rfl
@[simp] theorem spine_setPortIn (s : State) (h : Nat) (r : PortIn) : spine (setPortIn s h r) = spine s := rfl
@[simp] theorem spine_setTimeProp (s : State) (o : ObjId) (p : Nat) (t : Ticks) : spine (setTimeProp s o p t) = spine s := rfl
@[simp] theorem spine_bumpProp (s : State) (o : ObjId) (p i d : Nat) : spine (bumpProp s o p i d) = spine s := rfl
@[simp] theorem spine_wrapProp (s : State) (o : ObjId) (p : Nat) : spine (wrapProp s o p) = spine s := rfl
@[simp] theorem spine_consume (s : State) (mb : Nat) : spine (consume s mb) = spine s := rfl
@[simp] theorem spine_setLane (s : State) (n : Nat) (x : Lane) : spine (setLane s n x) = spine s := rfl
@[simp] theorem spine_setTdm (s : State) (n : Nat) (x : TdmPort) : spine (setTdm s n x) = spine s := rfl
@[simp] theorem spine_setDest (s : State) (n : Nat) (x : AudioDest) : spine (setDest s n x) = spine s := rfl
@[simp] theorem spine_setPath (s : State) (n : Nat) (x : AudioPath) : spine (setPath s n x) = spine s := rfl
@[simp] theorem spine_setTrig (s : State) (n : Nat) (x : TrigRt) : spine (setTrig s n x) = spine s := rfl
@[simp] theorem spine_setHl (s : State) (n : Nat) (x : HlLink) : spine (setHl s n x) = spine s := rfl
@[simp] theorem spine_setOut (s : State) (n : Nat) (x : PortOut) : spine (setOut s n x) = spine s := rfl
@[simp] theorem spine_setLaneTx (s : State) (n : Nat) (x : LaneTx) : spine (setLaneTx s n x) = spine s := rfl
@[simp] theorem spine_setChainRt (s : State) (n : Nat) (x : ChainRt) : spine (setChainRt s n x) = spine s := rfl
@[simp] theorem spine_setStrobeRt (s : State) (n : Nat) (x : StrobeRt) : spine (setStrobeRt s n x) = spine s := rfl
@[simp] theorem spine_setRefRt (s : State) (n : Nat) (x : RefRt) : spine (setRefRt s n x) = spine s := rfl
@[simp] theorem spine_setPcRt (s : State) (n : Nat) (x : PcRt) : spine (setPcRt s n x) = spine s := rfl

@[simp] theorem spine_signalVector (s : State) (v : Nat) : spine (signalVector s v) = spine s := by
  unfold signalVector; split
  · rfl
  · split <;> rfl

@[simp] theorem spine_setHif (s : State) (f : Hif → Hif) : spine (setHif s f) = spine s := by
  unfold setHif; simp only; split
  · rfl
  · rw [spine_signalVector]; rfl

@[simp] theorem spine_ringSignal (s : State) (r : Nat) : spine (ringSignal s r) = spine s := by
  unfold ringSignal; simp only; split <;> split <;> simp

@[simp] theorem spine_writeEvent (s : State) (at' : Ticks) (c : Nat) (o : ObjId) (a : Nat) :
    spine (writeEvent s at' c o a) = spine s := by
  unfold writeEvent
  simp only []
  by_cases h1 : (!eventEnabled (subFor s c o) c) = true
  · rw [if_pos h1]
  · rw [if_neg h1]
    generalize (if c = 0x1302 ∨ c = 0x1303 then 0 else (subFor s c o).ring) = r
    by_cases h2 : ((evOf s r).tail - (evOf s r).head).toNat = 1024
    · rw [if_pos h2]; rfl
    · rw [if_neg h2]; exact (spine_ringSignal _ _).trans rfl

@[simp] theorem spine_postEvent (s : State) (c : Nat) (o : ObjId) (a : Nat) : spine (postEvent s c o a) = spine s := by
  unfold postEvent; split
  · rfl
  · split
    · rfl
    · simp

@[simp] theorem spine_writeCompletion (s : State) (r : Request) (c : Cpl) : spine (writeCompletion s r c) = spine s := by
  unfold writeCompletion
  simp only []
  generalize (if toBuffer r = true then c.results.map fun x => x.take (reqDstLen r) else none) = bs
  cases bs <;> simp only []
  · by_cases h : ((mbOf s r.mb).control.getLsbD 0 && !reqNoIrq r) = true
    · rw [if_pos h]; exact (spine_signalVector _ _).trans rfl
    · rw [if_neg h]; rfl
  · rename_i x
    by_cases h : ((mbOf (emit s (.hostWrite (reqDstAddr r) x)) r.mb).control.getLsbD 0 && !reqNoIrq r) = true
    · rw [if_pos h]; exact (spine_signalVector _ _).trans rfl
    · rw [if_neg h]; rfl

@[simp] theorem spine_setProps (s : State) (o : ObjId) (p i : Nat) (vs : List Int) : spine (setProps s o p i vs) = spine s := by
  induction vs generalizing s i with
  | nil => rfl
  | cons v vs ih => simp [setProps, ih]

@[simp] theorem spine_flushMsix (vs : List Nat) (s : State) : spine (flushMsix vs s) = spine s := by
  induction vs generalizing s with
  | nil => rfl
  | cons v vs ih =>
    simp only [flushMsix]
    split
    · rw [ih]; rfl
    · exact ih s

/-! ### How a command ends -/

theorem Still.of_spine {s u : State} (h : Still s) (e : spine u = spine s) : Still u := by
  simp only [spine, Spine.mk.injEq] at e
  obtain ⟨e1, e2, e3, e4, e5, -, -⟩ := e
  exact ⟨e4 ▸ h.moves, e1 ▸ h.fences, e2 ▸ h.delays, by unfold noFrees; rw [e3]; exact h.frees, e5 ▸ h.reads⟩

/-- With no VX_FREE in flight nothing is freed. -/
theorem settleFrees_eq (s : State) (h : noFrees s = true) : settleFrees s = s := by
  unfold settleFrees
  unfold noFrees at h
  suffices ∀ (l : List Flight) (u : State),
      (l.all fun f => match f.waits with | .free _ | .turn _ => false | _ => true) = true →
      l.foldl (fun s f => match f.waits with | .free o => if freeReady s o then finishFree s f o else s | _ => s) u = u from
    this _ _ h
  intro l
  induction l with
  | nil => intro u _; rfl
  | cons f l ih =>
    intro u hl
    simp only [List.all_cons, Bool.and_eq_true] at hl
    simp only [List.foldl_cons]
    cases hw : f.waits <;> simp only [hw] at hl ⊢ <;> first | exact ih u hl.2 | (exact absurd hl.1 (by simp))

/-- In a still state nothing waits for a fence or for its turn. -/
theorem waiters_still (s : State) (h : Still s) : waiters s = 0 := by
  simp only [waiters, h.fences, List.length_nil, Nat.mul_zero, Nat.zero_add, List.length_eq_zero_iff, List.filter_eq_nil_iff]
  intro f hf
  have := List.all_eq_true.1 h.frees f hf
  cases hw : f.waits <;> simp_all

/-- A still state has nothing to settle. -/
theorem settle_still (s : State) (h : Still s) : settle s = s := by
  have e := settleFrees_eq s h.frees
  have d : freeDelays s = s := by simp [freeDelays, h.delays]
  have p : pump (waiters s) s = s := by rw [waiters_still s h]; rfl
  have q : pumpDma s.dmaQueue.length s = s := by rw [h.reads]; rfl
  show (let u := freeDelays (settleFrees s); let w := settleFrees (pump (waiters u) u); pumpDma w.dmaQueue.length w) = s
  rw [e, d]
  show pumpDma (settleFrees (pump (waiters s) s)).dmaQueue.length (settleFrees (pump (waiters s) s)) = s
  rw [p, e, q]

theorem joinOtp_self (a : Otp) : joinOtp a a = a := by
  cases a; simp [joinOtp]

/-- The end of a command that leaves the spine alone changes nothing more. -/
theorem finish_still (s u : State) (h : Still s) (e : spine u = spine s) : finish s u = u := by
  have hm : u.fsMoves = [] := (h.of_spine e).moves
  simp only [spine, Spine.mk.injEq] at e
  obtain ⟨-, -, -, -, -, e5, e6⟩ := e
  have d : dropFrozen u = u := by unfold dropFrozen; rw [hm, List.foldl_nil]
  have k : joinOtp s.keys.otp u.keys.otp = u.keys.otp := by rw [e6, joinOtp_self]
  show { dropFrozen u with pending := s.pending
                           keys := { (dropFrozen u).keys with otp := joinOtp s.keys.otp (dropFrozen u).keys.otp } } = u
  rw [d, k, ← e5]

/-- A command of the running device, whose effect leaves the spine alone, is that effect. -/
theorem act_still {t : Ticks} {ok : State → Bool} {f : State → State} {s : State} (h : Still s)
    (hok : ok (tickTo t s) = true) (e : spine (f (tickTo t s)) = spine s) : act t ok f s = .next (f (tickTo t s)) := by
  have hs := settle_still _ (h.of_spine e)
  have hf := finish_still s _ h e
  simp only [act, follow, hok, if_true, hs, ite_self, hf]

theorem actNow_still {ok : State → Bool} {f : State → State} {s : State} (h : Still s)
    (hok : ok s = true) (e : spine (f s) = spine s) : actNow ok f s = .next (f s) := by
  have hs := settle_still _ (h.of_spine e)
  have hf := finish_still s _ h e
  simp only [actNow, follow, hok, if_true, hs, ite_self, hf]

theorem actRaw_still {t : Ticks} {ok : State → Bool} {f : State → State} {s : State} (h : Still s)
    (hok : ok (tickTo t s) = true) (e : spine (f (tickTo t s)) = spine s) : actRaw t ok f s = .next (f (tickTo t s)) := by
  have hf := finish_still s _ h e
  simp only [actRaw, hok, if_true, hf]

end Sys2Proof.Machine
end

