-- ==== Sys2Proof/Laws/Requests.lean ====
section
/-! SUPPORT. What becomes of a request that is ready: its body runs, and its completion is posted. -/

namespace Sys2Proof.Machine

theorem headRequest_start {s : State} {mb : Nat} {r : Request} (h : headRequest s mb = some r) : r.start = s.now := by
  unfold headRequest at h
  simp only [] at h
  split at h
  · cases h
  · simp only [Option.some.injEq] at h
    exact h ▸ rfl

theorem headRequest_mb {s : State} {mb : Nat} {r : Request} (h : headRequest s mb = some r) : r.mb = mb := by
  unfold headRequest at h
  simp only [] at h
  split at h
  · cases h
  · simp only [Option.some.injEq] at h
    exact h ▸ rfl

/-- A ready request is consumed and started. -/
theorem serve_ready {s : State} {mb : Nat} {r : Request} {sel : Request → Bool} {body : State → Request → List Byte → State}
    (h : Ready s mb r) (hs : sel r = true) : serve s mb sel body = settle (startWith body (consume s mb) r) := by
  simp only [serve, h.head, h.slot, hs, h.push, h.serves, h.fence, Bool.and_false]
  rfl

/-- A ready request with its payload in the slot runs its body. -/
theorem startWith_direct {s : State} {mb : Nat} {r : Request} {body : State → Request → List Byte → State}
    (h : ReadyDirect s mb r) : startWith body (consume s mb) r = body (consume s mb) r (reqPayload r) := by
  have e : { r with start := (consume s mb).now } = r := by
    have : r.start = (consume s mb).now := (headRequest_start h.head).trans rfl
    rw [← this]
  unfold startWith
  simp [e, h.checks, fetches, h.direct, h.turn]

/-- The end of a request whose body completes it on a state with the spine that it had. -/
theorem settle_complete {s w : State} (r : Request) (c : Cpl) (h : Still s) (e : spine w = spine s)
    (hr : firmwareRuns w = true) (hp : recoveringA w = false) :
    settle (complete w r c) = writeCompletion (endFlight w r) r c ∧
    finish s (writeCompletion (endFlight w r) r c) = writeCompletion (endFlight w r) r c := by
  have hw := h.of_spine e
  have hc : complete w r c = writeCompletion (endFlight w r) r c := by
    have h1 : firmwareRuns (endFlight w r) = true := hr
    have h2 : recoveringA (endFlight w r) = false := hp
    simp [complete, postCompletion, h1, h2]
  have hst : Still (endFlight w r) := by
    refine ⟨hw.moves, hw.fences, hw.delays, ?_, by simp [endFlight, hw.reads]⟩
    have := hw.frees
    unfold noFrees at this ⊢
    rw [List.all_eq_true] at this ⊢
    exact fun f hf => this f (List.mem_filter.1 hf).1
  have sp : spine (writeCompletion (endFlight w r) r c) = spine (endFlight w r) := spine_writeCompletion _ _ _
  rw [hc]
  refine ⟨settle_still _ (hst.of_spine sp), ?_⟩
  generalize hu : writeCompletion (endFlight w r) r c = u at sp ⊢
  simp only [spine, Spine.mk.injEq] at sp e
  have hm : u.fsMoves = [] := sp.2.2.2.1.trans hw.moves
  have e5 : u.pending = s.pending := sp.2.2.2.2.2.1.trans e.2.2.2.2.2.1
  have e6 : u.keys.otp = s.keys.otp := sp.2.2.2.2.2.2.trans e.2.2.2.2.2.2
  have d : dropFrozen u = u := by unfold dropFrozen; rw [hm, List.foldl_nil]
  have k : joinOtp s.keys.otp u.keys.otp = u.keys.otp := by rw [e6, joinOtp_self]
  show { dropFrozen u with pending := s.pending
                           keys := { (dropFrozen u).keys with otp := joinOtp s.keys.otp (dropFrozen u).keys.otp } } = u
  rw [d, k, ← e5]

/-- A served request whose body completes it. -/
theorem serveAt_complete {t : Ticks} {mb : Fin 16} {s w : State} {r : Request} {c : Cpl} {sel : Request → Bool}
    {body : State → Request → List Byte → State} (h : ReadyDirect (tickTo t s) mb.val r) (hs : sel r = true)
    (hb : body (taken t s mb.val) r (reqPayload r) = complete w r c) (e : spine w = spine s)
    (hr : firmwareRuns w = true) (hp : recoveringA w = false) :
    serveAt t mb sel body s = .next (writeCompletion (endFlight w r) r c) := by
  have ha : awake (tickTo t s) = true := h.served.awake
  have hq : Still s := h.still.of_spine (s := tickTo t s) rfl
  have hc := settle_complete r c hq e hr hp
  have hb' : body (consume (tickTo t s) mb.val) r (reqPayload r) = complete w r c := hb
  unfold serveAt actRaw
  simp only [ha, if_true, serve_ready h.toReady hs, startWith_direct h, hb', hc.1, hc.2]

end Sys2Proof.Machine
end

