-- ==== Sys2Proof/WellFormed.lean ====
section
/-! DEFINITION. Which operands the spec gives a command: one named check for each bound that the operand's own type does not
hold. The machine answers ill-formed commands too; the checks say which commands the spec's senders can send. -/

namespace Sys2Proof

/-- The bounds on operands, each named after what it bounds. -/
inductive OperandCheck where
  | registerBytes   -- a register write carries whole 32-bit words at a multiple of 4 (R26)
  | thousandths     -- progress is 0 to 1,000 (R45)
  | pcieTag         -- one of 512 PCIe tags (Table 2.17)
  | ringObject      -- a ring operand names a RING
  | routeObject     -- a route operand names a ROUTE
  | surfaceObject   -- a surface operand names a SURFACE
  | channelObject   -- a channel operand names an AUDIO_CH
  | mslLink         -- an MSL port has links 0 to 3 (R77)
  | mslLanes        -- an MSL link has 1 to 16 lanes (R78)
  | markerGap       -- the scrambler looks 58 bits back (R84)
  | sdiSamples      -- 10 or 12 bits a sample (R93)
  | rtpLeg          -- leg 0 or 1 (R98)
  | readBackCopies  -- a bit stands once at the ball, or twice for ST 292-1 (R260)
  | dpSink          -- 1, 2 or 4 lanes at one of three rates (R257)
  | referenceRate   -- a rate has a denominator
  | bootMode        -- two balls select the boot mode (R375)
  | serviceLength   -- a service frame moves at most 256 bytes (Table 17.7)
  | unitIndex       -- a kind of Table 20.5 and one of its units
  | islandTemps     -- one temperature for each of the 40 islands (R467)
deriving DecidableEq, Repr

/-- Whether an object ID is of a class: bits 31:24 (Table 2.5). -/
def isOfClass (cls : Nat) (o : ObjId) : Bool := decide (o / 2 ^ 24 = cls)

/-- The units of a kind (Table 20.5). -/
def unitsOfKind (kind : Nat) : Nat :=
  match kind with
  | 0 => 104 | 1 => 128 | 2 => 34 | 3 => 13 | 4 => 26 | 5 => 72 | 6 => 72 | _ => 0

/-- The checks that a command's operands must pass. -/
def operandChecks (i : Instr) : List (OperandCheck × Bool) :=
  match i with
  | .alignmentMarker _ _ _ _ gap _ => [(.markerGap, decide (gap.before < 2 ^ 58))]
  | .registerWrite _ offset (.write bytes) => [(.registerBytes, decide (offset % 4 = 0 ∧ bytes.length % 4 = 0 ∧ bytes ≠ []))]
  | .registerWrite _ _ (.read len) => [(.registerBytes, decide (len ≠ 0))]
  | .progress _ _ _ n => [(.thousandths, decide (n ≤ 1000))]
  | .dmaCompletion _ tag _ _ | .dmaCompletionTimeout _ tag => [(.pcieTag, decide (tag < 512))]
  | .exportComplete _ o | .postTimeout _ o | .cepraReady _ o => [(.ringObject, isOfClass 4 o)]
  | .frameComplete _ o _ _ => [(.surfaceObject, isOfClass 3 o)]
  | .shapeJobStart _ o _ | .shapeJobEnd _ o _ | .convertFold _ o | .convertFoldEnd _ o | .convertFinishEnd _ o
  | .routeLastJobEnd _ o | .convertJobStart o | .playbackOffer o | .convertCutoff o => [(.routeObject, isOfClass 5 o)]
  | .tconvLateInput _ o f => [(.routeObject, isOfClass 5 o), (.surfaceObject, isOfClass 3 f)]
  | .asrcAcquireEnd _ o | .achUnderrun _ o | .achRejoin _ o => [(.channelObject, isOfClass 11 o)]
  | .mslFrameStart _ _ link h => [(.mslLink, decide (link < 4)), (.mslLanes, decide (1 ≤ h.length ∧ h.length ≤ 16))]
  | .mslLine _ _ link h _ => [(.mslLink, decide (link < 4)), (.mslLanes, decide (1 ≤ h.length ∧ h.length ≤ 16))]
  | .mslFrameEnd _ _ link h => [(.mslLink, decide (link < 4)), (.mslLanes, decide (1 ≤ h.length ∧ h.length ≤ 16))]
  | .sdiFrameStart _ _ f => [(.sdiSamples, decide (f.bits = 10 ∨ f.bits = 12))]
  | .rtpPacket _ _ p => [(.rtpLeg, decide (p.leg < 2))]
  | .laneMismatch _ q => [(.readBackCopies, decide (q.seen.length = 1 ∨ q.seen.length = 2))]
  | .laneFaultDeclare _ _ (.readBack _ _ seen) => [(.readBackCopies, decide (seen.length = 1 ∨ seen.length = 2))]
  | .dpLink _ _ r => [(.dpSink, decide ((r.lanes = 1 ∨ r.lanes = 2 ∨ r.lanes = 4) ∧ r.rate ≤ 2))]
  | .refEvent _ _ _ den => [(.referenceRate, decide (den ≠ 0))]
  | .boot _ mode _ _ _ _ => [(.bootMode, decide (mode < 4))]
  | .powerOn _ _ mode _ => [(.bootMode, decide (mode < 4))]
  | .serviceRead _ _ len _ => [(.serviceLength, decide (len ≤ 256))]
  | .serviceWrite _ _ data _ => [(.serviceLength, decide (data.length ≤ 256))]
  | .unitFault _ k n _ | .sparePrepare _ k n | .unitTested _ k n _ | .errorTrendMigrate _ k n =>
    [(.unitIndex, decide (n < unitsOfKind k))]
  | .thermalRead _ temps => [(.islandTemps, decide (temps.length = 40))]
  | _ => []

/-- The checks that a command fails, by name. -/
def failedChecks (i : Instr) : List OperandCheck := ((operandChecks i).filter fun c => !c.2).map (·.1)

/-- A command whose operands pass every check. -/
def wellFormed (i : Instr) : Bool := (failedChecks i).isEmpty

end Sys2Proof
end

