-- ==== Sys2Proof/Tests/Slice0.lean ====
section
/-! SUPPORT. Tests of the model: commands refused as ill-formed, values that the spec works out, and for every statement with
hypotheses a concrete state and operands that meet them. -/

open Sys2Proof Sys2Proof.Machine
namespace Sys2Proof.Tests

-- One test after another: each evaluates in the kernel, and side by side they would ask for too much memory.
set_option Elab.async false

/-- The device with firmware running and every group open to every mailbox. -/
def running : State :=
  { State.reset with
    cc := { ccReset with stage := 4, booted := true, bHold := false }
    hif := { State.reset.hif with fwReady := true }
    power := { powerReset with inReset := false } }

/-- A request slot with its check. -/
def slotOf' (op flags obj pid count : Nat) (payload : List Byte) (cnt : Nat := 0) : List Byte :=
  let body := toLe 2 op ++ toLe 1 flags ++ toLe 1 payload.length ++ toLe 2 7 ++ toLe 2 cnt ++ toLe 4 obj ++ toLe 2 pid ++ toLe 2 count ++
    padTo 44 payload
  body ++ toLe 4 (crc32c body)

/-- The request as firmware reads it from mailbox 3. -/
def asks (op flags obj pid count : Nat) (payload : List Byte) : Request := ⟨3, 0, slotOf' op flags obj pid count payload, 0, 0, false⟩

/-- A state in which a request stands at the head of mailbox 3. -/
def asked (r : Request) (s : State) : State :=
  let s := setProp s sysObj pSystemMbPolicy 3 0xFF
  setMb { s with bar0 := memWrite s.bar0 (reqSlotAddr 3 0) r.slot } 3 { mbOf s 3 with reqTail := 1 }

/-- What `Ready` asks, as one Boolean. -/
def stillB (s : State) : Bool := decide (s.fsMoves = []) && decide (s.waiting = []) && decide (s.delayLines = []) && noFrees s &&
  decide (s.dmaQueue = [])
def servedB (s : State) : Bool := awake s && firmwareRuns s && !recoveringA s
def readyB (s : State) (mb : Nat) (r : Request) : Bool :=
  servedB s && stillB s && decide (headRequest s mb = some r) && slotOk r && !s.cc.pushWait && serves s &&
  !mustWait (consume s mb) r && !turnHeld (consume s mb) r && decide (precheck (consume s mb) r = none)

theorem still_of {s : State} (h : stillB s = true) : Still s := by
  simp only [stillB, Bool.and_eq_true, decide_eq_true_eq] at h
  exact ⟨h.1.1.1.1, h.1.1.1.2, h.1.1.2, h.1.2, h.2⟩
theorem served_of {s : State} (h : servedB s = true) : Served s := by
  simp only [servedB, Bool.and_eq_true, Bool.not_eq_true'] at h
  exact ⟨h.1.1, h.1.2, h.2⟩
theorem calm_of {s : State} (h : stillB s = true) (h' : servedB s = true) : Calm s := ⟨still_of h, served_of h'⟩
theorem ready_of {s : State} {mb : Nat} {r : Request} (h : readyB s mb r = true) : Ready s mb r := by
  simp only [readyB, Bool.and_eq_true, Bool.not_eq_true', decide_eq_true_eq] at h
  exact ⟨served_of h.1.1.1.1.1.1.1.1, still_of h.1.1.1.1.1.1.1.2, h.1.1.1.1.1.1.2, h.1.1.1.1.1.2, h.1.1.1.1.2, h.1.1.1.2, h.1.1.2,
    h.1.2, h.2⟩
theorem direct_of {s : State} {mb : Nat} {r : Request} (h : readyB s mb r = true) (h' : reqIndirect r = false) : ReadyDirect s mb r :=
  ⟨ready_of h, h'⟩


/-- The request `r` stands at the head of mailbox 3 of `s`, and firmware starts it at once. -/
theorem ask {s : State} {r : Request} (h : readyB (tickTo 0 (asked r s)) 3 r = true) (h' : reqIndirect r = false) :
    ReadyDirect (tickTo 0 (asked r s)) (3 : Fin 16).val r := direct_of h h'

/-- The row of a property. -/
def rowOf (o pid : Nat) : PropRow :=
  match propRow (objCls o) pid with | some r => r | none => ⟨0, .u8, 1, false, false, .immediate, 0, .const 0, .clamp 0 0⟩

/-- A VX_SET of elements of a property. -/
def sets (o pid idx : Nat) (vs : List Int) : Request :=
  let row := rowOf o pid
  asks 0x11 0 o pid vs.length (spanBytes row ⟨idx, if row.arr then (if row.ty.size = 8 then 8 else 4) else 0, vs.length⟩ vs)

/-- The same, as `ReadySet` asks. -/
def setB (s : State) (r : Request) (i : Nat) (xs : List Int) : Bool :=
  readyB s 3 r && !reqIndirect r && reqOpcode r == 0x11 &&
  decide (propRow (objCls (reqObj r)) (reqPid r) = some (rowOf (reqObj r) (reqPid r))) &&
  (spanOf (rowOf (reqObj r) (reqPid r)) (reqPayload r) (reqCount r) 44).start == i &&
  spanValues (rowOf (reqObj r) (reqPid r)) (spanOf (rowOf (reqObj r) (reqPid r)) (reqPayload r) (reqCount r) 44) (reqPayload r) == xs
theorem askSet {s : State} {r : Request} {i : Nat} {xs : List Int} (h : setB (tickTo 0 (asked r s)) r i xs = true) :
    ReadySet (tickTo 0 (asked r s)) (3 : Fin 16).val r (rowOf (reqObj r) (reqPid r)) i xs := by
  simp only [setB, Bool.and_eq_true, Bool.not_eq_true', decide_eq_true_eq, beq_iff_eq] at h
  exact ⟨direct_of h.1.1.1.1.1 h.1.1.1.1.2, h.1.1.1.2, h.1.1.2, h.1.2, h.2⟩
theorem exR {α β : Type} {x : α ⊕ β} (h : x.isRight = true) : ∃ b, x = .inr b := by
  cases x with
  | inl _ => cases h
  | inr b => exact ⟨b, rfl⟩
theorem exS {α : Type} {x : Option α} (h : x.isSome = true) : ∃ a, x = some a := Option.isSome_iff_exists.mp h
theorem exL {α β : Type} {x : α ⊕ β} (h : x.isLeft = true) : ∃ b, x = .inl b := by
  cases x with
  | inl b => exact ⟨b, rfl⟩
  | inr _ => cases h

/-! ### The host's registers, events and completions -/

theorem witness_StepRunsTheFrontCommand :
    ({ running with pending := [.tbStep 0, .wdtEnSet 5] } : State).pending = .tbStep 0 :: [.wdtEnSet 5] ∧ running.pending = [] := by
  decide +kernel
theorem witness_FrozenChannelsHoldNothing : FrozenEmpty State.reset ∧ ∃ u, step State.reset = .next u :=
  ⟨fun v hv => absurd hv (by simp [State.reset]), State.reset, rfl⟩
theorem witness_MemoryOperationsKeepTheForm : Memory.wf (memWrite [] 4094 [1, 0, 3]) = true := by decide +kernel
theorem witness_still : Still running ∧ ticking running = true := ⟨still_of (by decide +kernel), by decide +kernel⟩
theorem witness_calm : Calm running ∧ mapSorted running.props = true := ⟨calm_of (by decide +kernel) (by decide +kernel), by decide +kernel⟩

/-- R28: the clamp at its edges: behind the tail, at room 32, and one beyond. -/
theorem test_doorbell_edges :
    let s := setMb running 3 { mbOf running 3 with reqTail := 10, cplHead := 10 }
    let tail (v : Nat) := match exec (.mbDoorbellWrite 0 3 (BitVec.ofNat 32 v)) s with | .next u => (mbOf u 3).reqTail.toNat | _ => 0
    tail 9 = 10 ∧ tail 42 = 42 ∧ tail 43 = 42 ∧ tail 0x8009 = 42 ∧ tail 0x800B = 10 ∧ tail 0x800A = 42 := by decide +kernel
/-- R29: a count of consumed entries at its edges. -/
theorem test_head_edges :
    let s := setMb running 3 { mbOf running 3 with cplTail := 5, cplHead := 2 }
    let head (v : Nat) := match exec (.mbCplHeadWrite 0 3 (BitVec.ofNat 32 v)) s with | .next u => (mbOf u 3).cplHead.toNat | _ => 0
    head 1 = 2 ∧ head 2 = 2 ∧ head 5 = 5 ∧ head 6 = 5 := by decide +kernel
theorem witness_EventRegisters :
    let s := setEv running 1 { evOf running 1 with owed := true, lastSignal := some 0, window := 7 }
    Still s ∧ ticking s = true ∧ (evOf s 1).owed = true ∧ (evOf s 1).lastSignal = some 0 ∧ 0 + (evOf s 1).window * usT ≤ max s.now (7 * usT) ∧
    (evOf running 1).owed = false := by
  refine ⟨still_of ?_, ?_, ?_, ?_, ?_, ?_⟩ <;> decide +kernel
theorem witness_RegisterWrites : Still running ∧ ticking running = true ∧ (List.replicate 64 (0 : Byte)).length = 64 ∧
    (toLe 4 3).length = 4 := ⟨still_of (by decide +kernel), by decide +kernel⟩
theorem witness_Unmask :
    let s := { running with hif := { running.hif with msixEnabled := true, msixPending := 2 ^ 63 } }
    Still s ∧ ticking s = true ∧ s.hif.msixEnabled = true ∧ s.functionMask = false ∧ s.power.taken = false ∧
    (∀ w : Nat, w < 64 → bitOf s.hif.msixPending w = true → w = (63 : Fin 64).val ∨ bitOf s.msixMask w = true) ∧
    bitOf s.msixMask 63 = true ∧ bitOf s.hif.msixPending 63 = true := by
  refine ⟨still_of ?_, ?_, ?_, ?_, ?_, ?_, ?_, ?_⟩ <;> decide +kernel
theorem witness_Bar2 : Calm running ∧ Memory.wf running.frame = true ∧ running.cc.matrix = [] ∧ .pci ∉ running.cc.draining ∧
    .pci ∈ (setCc running fun c => { c with draining := [.pci] }).cc.draining ∧
    Calm (setCc running fun c => { c with draining := [.pci] }) :=
  ⟨calm_of (by decide +kernel) (by decide +kernel), by decide +kernel, by decide +kernel, by decide +kernel, by decide +kernel,
    calm_of (by decide +kernel) (by decide +kernel)⟩
/-- R372: of two masters with the same QoS the one after the last granted wins; a microsecond of waiting wins over the turn. -/
theorem test_arbitration :
    let tx (m : BusMaster) (since : Ticks) : MatrixTx := ⟨m, 2, 1, since, .remap⟩
    let s (l : List MatrixTx) := setCc { running with now := usT } fun c => { c with matrix := l, granted := [(2, masterIndex .pairB)] }
    let qos (m : BusMaster) := getPropN running sysObj pSystemCcQos (masterIndex m)
    (qos .pairA = qos .pairB → (grantAt (s [tx .pairB usT, tx .pairA usT]) 2).map (·.master) = some .pairA ∧
      (grantAt (s [tx .pairB 0, tx .pairA usT]) 2).map (·.master) = some .pairB) := by decide +kernel
theorem witness_Events :
    let full := setEv running 0 { evOf running 0 with tail := 1030, head := 6 }
    (firmwareRuns running = true ∧ recoveringA running = false ∧ eventEnabled (subFor running 0x0301 0x03000000) 0x0301 = true ∧
      Memory.wf running.bar0 = true ∧ ((evOf running 0).tail - (evOf running 0).head).toNat ≠ 1024) ∧
    (firmwareRuns full = true ∧ eventEnabled (subFor full 0x1301 sysObj) 0x1301 = true ∧
      ((evOf full 0).tail - (evOf full 0).head).toNat = 1024) ∧
    firmwareRuns State.reset = false ∧
    (let s := { running with classSubs := [(3, ⟨2, 0⟩)] }
     recoveringA s = false ∧ bitOf (subFor s 0x0301 0x03000000).mask (0x0301 % 256) = false ∧ ¬(0x1301 ≤ 0x0301 ∧ 0x0301 ≤ 0x1304)) ∧
    mapGet running.objSubs sysObj = none ∧ mapGet running.classSubs 3 = none := by decide +kernel
theorem witness_Completions : firmwareRuns running = true ∧ recoveringA running = false ∧ toBuffer (asks 1 0 sysObj 0 0 []) = false ∧
    Memory.wf running.bar0 = true := by decide +kernel
theorem witness_PropertiesReadBack : mapSorted running.props = true ∧ 0xFFFF < 0x10000 ∧ 0xFFFFFF < 0x1000000 := by decide +kernel

/-! ### Requests -/

def nopR := asks 0x01 0 sysObj 0 0 [1, 2]
def identifyR := asks 0x02 0 sysObj 0 0 []
def enumR := asks 0x13 0 sysObj 0 0 [19]
def getR := asks 0x10 0 sysObj pSystemPowerState 1 []
def describeR := asks 0x12 0 sysObj pSystemPowerState 0 []
theorem witness_Queries :
    (ReadyDirect (tickTo 0 (asked nopR running)) (3 : Fin 16).val nopR ∧ reqOpcode nopR = 0x01) ∧
    (ReadyDirect (tickTo 0 (asked identifyR running)) (3 : Fin 16).val identifyR ∧ reqOpcode identifyR = 0x02) ∧
    (ReadyDirect (tickTo 0 (asked enumR running)) (3 : Fin 16).val enumR ∧ reqOpcode enumR = 0x13 ∧
      1 ≤ fieldAt (reqPayload enumR) 0 1 ∧ fieldAt (reqPayload enumR) 0 1 ≤ 19) ∧
    (ReadyDirect (tickTo 0 (asked getR running)) (3 : Fin 16).val getR ∧ reqOpcode getR = 0x10 ∧
      propRow (objCls (reqObj getR)) (reqPid getR) = some (rowOf sysObj pSystemPowerState) ∧
      (rowOf sysObj pSystemPowerState).arr = false ∧ (rowOf sysObj pSystemPowerState).n = 1 ∧ reqCount getR = 1) ∧
    (ReadyDirect (tickTo 0 (asked describeR running)) (3 : Fin 16).val describeR ∧ reqOpcode describeR = 0x12 ∧
      propRow (objCls (reqObj describeR)) (reqPid describeR) = some (rowOf sysObj pSystemPowerState) ∧
      (rowOf sysObj pSystemPowerState).n < 65536) := by
  refine ⟨⟨ask ?_ ?_, ?_⟩, ⟨ask ?_ ?_, ?_⟩, ⟨ask ?_ ?_, ?_⟩, ⟨ask ?_ ?_, ?_⟩, ask ?_ ?_, ?_⟩ <;> decide +kernel

def setKindR := sets (objId clsPortIn 0) pPortInKind 0 [1]
def setRasterR := sets (headObj 0) pHeadRaster 0 [1920]
def setReadOnlyR := sets sysObj pSystemTj 0 [1]
theorem witness_Writes :
    (ReadySet (tickTo 0 (asked setKindR running)) (3 : Fin 16).val setKindR (rowOf (reqObj setKindR) (reqPid setKindR)) 0 [1] ∧
      (rowOf (reqObj setKindR) (reqPid setKindR)).ro = false ∧ (rowOf (reqObj setKindR) (reqPid setKindR)).applies = .atRestart) ∧
    (ReadySet (tickTo 0 (asked setRasterR running)) (3 : Fin 16).val setRasterR (rowOf (reqObj setRasterR) (reqPid setRasterR)) 0 [1920] ∧
      (rowOf (reqObj setRasterR) (reqPid setRasterR)).ro = false ∧ (rowOf (reqObj setRasterR) (reqPid setRasterR)).applies = .atHinge ∧
      objCls (reqObj setRasterR) ≠ clsAudioCh ∧ hingeTarget (taken 0 (asked setRasterR running) 3) (reqObj setRasterR) = .head 0) ∧
    (ReadySet (tickTo 0 (asked setReadOnlyR running)) (3 : Fin 16).val setReadOnlyR (rowOf (reqObj setReadOnlyR) (reqPid setReadOnlyR)) 0 [1] ∧
      (rowOf (reqObj setReadOnlyR) (reqPid setReadOnlyR)).ro = true) := by
  refine ⟨⟨askSet ?_, ?_⟩, ⟨askSet ?_, ?_⟩, askSet ?_, ?_⟩ <;> decide +kernel

def createRouteR := asks 0x20 0 (objId clsRoute 0xFFFFFF) 0 0 []
def createAudioR := asks 0x20 0 (objId clsAudioCh 0xFFFFFF) 0 0 []
def destroyGroupR := asks 0x21 0 (objId clsGroup 0) 0 0 []
def destroyRouteR := asks 0x21 0 (objId clsRoute 0) 0 0 []
def subscribeR := asks 0x32 0 sysObj 0 0 [2, 1, 0, 0, 0xFF]
/-- A commit group whose one member is head 0 of this device. -/
def grouped : State :=
  setProp (setProp (newObj running clsGroup).2 (objId clsGroup 0) pGroupMemberCount 0 1) (objId clsGroup 0) pGroupMembers 0 (headObj 0 : Nat)
/-- A route of head 0. -/
def routed : State := setProp (newObj running clsRoute).2 (objId clsRoute 0) pRouteHead 0 (headObj 0 : Nat)
theorem witness_Objects :
    (ReadyDirect (tickTo 0 (asked createRouteR running)) (3 : Fin 16).val createRouteR ∧ reqOpcode createRouteR = 0x20 ∧
      objCls (reqObj createRouteR) = clsRoute) ∧
    (ReadyDirect (tickTo 0 (asked createAudioR running)) (3 : Fin 16).val createAudioR ∧ reqOpcode createAudioR = 0x20 ∧
      objCls (reqObj createAudioR) = clsAudioCh) ∧
    (ReadyDirect (tickTo 0 (asked destroyGroupR grouped)) (3 : Fin 16).val destroyGroupR ∧ reqOpcode destroyGroupR = 0x21 ∧
      objCls (reqObj destroyGroupR) = clsGroup) ∧
    (ReadyDirect (tickTo 0 (asked destroyRouteR routed)) (3 : Fin 16).val destroyRouteR ∧ reqOpcode destroyRouteR = 0x21 ∧
      involved (taken 0 (asked destroyRouteR routed) 3) destroyRouteR = ([0], false)) ∧
    (ReadyDirect (tickTo 0 (asked subscribeR running)) (3 : Fin 16).val subscribeR ∧ reqOpcode subscribeR = 0x32 ∧
      objExists (taken 0 (asked subscribeR running) 3) (reqObj subscribeR) = true) := by
  refine ⟨⟨ask ?_ ?_, ?_⟩, ⟨ask ?_ ?_, ?_⟩, ⟨ask ?_ ?_, ?_⟩, ⟨ask ?_ ?_, ?_⟩, ask ?_ ?_, ?_⟩ <;> decide +kernel

def commitR := asks 0x30 0 (headObj 0) 0 0 []
def commitGroupR := asks 0x30 0 (objId clsGroup 0) 0 0 (toLe 6 1)
def discardR := asks 0x31 0 (headObj 0) 0 0 []
theorem witness_Commits :
    (let w := taken 0 (asked commitR running) 3
     ReadyDirect (tickTo 0 (asked commitR running)) (3 : Fin 16).val commitR ∧ (reqOpcode commitR = 0x30 ∧ objCls (reqObj commitR) = clsHead) ∧
     ∃ a, admitValues w 0 ((headRt w 0).staging.filter fun e => objExists w (keyObj e.1)) [] = .inr a) ∧
    (let r := commitGroupR
     let w := taken 0 (asked r grouped) 3
     let e := headObj 0
     let T := groupTime w r (reqPayload r)
     let gid := ownNumber w * 65536 + w.groupCount % 65536
     ReadyDirect (tickTo 0 (asked r grouped)) (3 : Fin 16).val r ∧ (reqOpcode r = 0x30 ∧ objCls (reqObj r) = clsGroup ∧
       groupEntries w (reqObj r) = [e] ∧ memberDevice e = ownNumber w ∧ groupBank w gid (memberObject e) = none) ∧
     (sealMember { w with groupCount := (w.groupCount + 1) % 65536,
                          groups := w.groups ++ [⟨gid, T, r.start, true, [⟨e, none, none, 0, none⟩], some r, false⟩] }
        gid T r.mb (reqTag r) e).1 = true) ∧
    (ReadyDirect (tickTo 0 (asked discardR running)) (3 : Fin 16).val discardR ∧ reqOpcode discardR = 0x31 ∧
      (headRt (taken 0 (asked discardR running) 3) 0).commits = []) := by
  refine ⟨⟨ask ?_ ?_, ?_, exR ?_⟩, ⟨ask ?_ ?_, ?_, ?_⟩, ask ?_ ?_, ?_⟩ <;> decide +kernel

def surf1 : ObjId := objId clsSurface 0
/-- A device with one surface of 64 by 16 pixels, which the host owns. -/
def surfaced : State := setSurf (newObj running clsSurface).2 surf1 (freshSurf surf1 0x100000 0x4000 0x12 64 16 0 0 0 0 .host)
def theSurf (s : State) : Surf := match surfOf s surf1 with | some f => f | none => freshSurf 0 0 0 0 0 0 0 0 0 0 .host
/-- The same with a host lease. -/
def leased : State := setSurf surfaced surf1 { theSurf surfaced with leases := [.host] }
def allocR := asks 0x40 0 (objId clsSurface 0xFFFFFF) 0 0 (toLe 2 0x12 ++ toLe 2 64 ++ toLe 2 16)
def allocRingR := asks 0x40 0 (objId clsRing 0xFFFFFF) 0 0 (toLe 2 0x12 ++ toLe 2 64 ++ toLe 2 16 ++ toLe 10 0 ++ toLe 4 4)
def freeR := asks 0x41 0 surf1 0 0 []
def leaseR := asks 0x42 0 surf1 0 0 []
def releaseR := asks 0x43 0 surf1 0 0 []
theorem witness_Surfaces :
    (ReadyDirect (tickTo 0 (asked allocR running)) (3 : Fin 16).val allocR ∧
      (reqOpcode allocR = 0x40 ∧ objCls (reqObj allocR) = clsSurface ∧ fmtApply (fieldAt (reqPayload allocR) 0 2) = 0x12) ∧
      ∃ x, allocSurface (taken 0 (asked allocR running) 3) 0x12 (fmtGeometry 0x12 64 16).1 (fmtGeometry 0x12 64 16).2 0 0 .host = some x) ∧
    (ReadyDirect (tickTo 0 (asked allocRingR running)) (3 : Fin 16).val allocRingR ∧
      (reqOpcode allocRingR = 0x40 ∧ objCls (reqObj allocRingR) = clsRing ∧ clampNat 2 1048576 (fieldAt (reqPayload allocRingR) 16 4) = 4) ∧
      ∃ x, allocRing (taken 0 (asked allocRingR running) 3) 0x12 (fmtGeometry 0x12 64 16).1 (fmtGeometry 0x12 64 16).2 0 0 4 = some x) ∧
    (let w := taken 0 (asked freeR leased) 3
     ReadyDirect (tickTo 0 (asked freeR leased)) (3 : Fin 16).val freeR ∧ reqOpcode freeR = 0x41 ∧ surfOf w surf1 = some (theSurf leased) ∧
       ringOf w surf1 = none ∧ (theSurf leased).owner = .host ∧ (theSurf leased).freeing = false ∧ (theSurf leased).leases ≠ [] ∧
       leased.routes = []) ∧
    (let w := taken 0 (asked leaseR leased) 3
     ReadyDirect (tickTo 0 (asked leaseR leased)) (3 : Fin 16).val leaseR ∧ reqOpcode leaseR = 0x42 ∧ surfOf w surf1 = some (theSurf leased) ∧
       surfFreeing w (theSurf leased) = false ∧ hostLeases (theSurf leased) < 255) ∧
    (ReadyDirect (tickTo 0 (asked releaseR leased)) (3 : Fin 16).val releaseR ∧ reqOpcode releaseR = 0x43 ∧
      surfOf (taken 0 (asked releaseR leased) 3) surf1 = some (theSurf leased)) := by
  refine ⟨⟨ask ?_ ?_, ?_, exS ?_⟩, ⟨ask ?_ ?_, ?_, exS ?_⟩, ⟨ask ?_ ?_, ?_⟩, ⟨ask ?_ ?_, ?_⟩, ask ?_ ?_, ?_⟩ <;> decide +kernel

/-- Another ring of four surfaces of 64 by 16 pixels, from a base on. -/
def addRing (base : Nat) (s : State) : State :=
  let (o, s1) := newObj s clsRing
  let first := objId clsSurface (newNumbers s clsSurface 4)
  let s2 := setRing s1 o ⟨0x12, 64, 16, 4, first, base, 0x10000, 0, 0, false, none, ⟨0, 0, 1⟩, ⟨1, 0, 1⟩, none, none, .off, [], [], 0, 0, 0, 0, none,
    0, 0, false, 0, 0, [], [], [], 0, 0⟩
  addMembers o 0x12 64 16 0 0 base 0x4000 4 0 (setProp (setProp s2 o pRingCapturePre 0 2) o pRingCapturePost 0 2)
/-- A ring of four surfaces, and the same in another capture state. -/
def ringed : State := addRing 0x200000 running
def ring1 : ObjId := objId clsRing 0
def withCap (c : CapState) : State := { ringed with rings := ringed.rings.map fun e => (e.1, { e.2 with cap := c }) }
def theRing (s : State) : Option Ring := ringOf s ring1
def triggerR := asks 0x44 0 ring1 0 0 (toLe 10 0)
def exportR := asks 0x45 0 ring1 0 0 (toLe 28 0)
def restartR := asks 0x50 0 (objId clsRef 0) 0 0 []
def resetR := asks 0x60 0 sysObj 0 0 []
theorem witness_Services :
    (ReadyDirect (tickTo 0 (asked triggerR (withCap .armed))) (3 : Fin 16).val triggerR ∧ reqOpcode triggerR = 0x44 ∧
      objCls (reqObj triggerR) = clsRing ∧ (theRing (taken 0 (asked triggerR (withCap .armed)) 3)).map (·.cap) = some .armed) ∧
    (let w := taken 0 (asked exportR (withCap .frozen)) 3
     ReadyDirect (tickTo 0 (asked exportR (withCap .frozen))) (3 : Fin 16).val exportR ∧ reqOpcode exportR = 0x45 ∧
       (theRing w).map (·.cap) = some .frozen ∧
       (theRing w).all (fun x => decide (fsCharge w + (exportReq x (reqPayload exportR)).rate ≤ fsBudget)) = true) ∧
    (ReadyDirect (tickTo 0 (asked restartR running)) (3 : Fin 16).val restartR ∧ reqOpcode restartR = 0x50 ∧
      (restartObj (taken 0 (asked restartR running) 3) (reqObj restartR)).1 = none) ∧
    (ReadyDirect (tickTo 0 (asked resetR running)) (3 : Fin 16).val resetR ∧ reqOpcode resetR = 0x60) := by
  refine ⟨⟨ask ?_ ?_, ?_⟩, ⟨ask ?_ ?_, ?_⟩, ⟨ask ?_ ?_, ?_⟩, ask ?_ ?_, ?_⟩ <;> decide +kernel

def repairR (kind action index : Nat) := asks 0x61 0 sysObj 0 0 (toLe 1 kind ++ toLe 1 action ++ toLe 2 index)
def pinR := asks 0x03 0 sysObj 0 0 (toLe 2 3)
def attestR := asks 0x80 0 (objId clsKeyslot 1) 0 0 [1, 2, 3]
/-- An image header that accepts levels 1 to 3. -/
def imaged : State := { running with cc := { running.cc with image := List.replicate 18 0 ++ toLe 2 1 ++ toLe 2 3, root := 1, source := 1 } }
/-- Egress engine 3 retired. -/
def retired : State := setKindRole running 6 3 3
/-- Whether a planned move can begin. -/
def planned (w : State) (k i : Nat) : Option State :=
  match k with | 0 => planLane w i (some (3, 0)) | 1 => planPc w i (some (3, 0)) | k => planMove w k i (some (3, 0))
theorem witness_Repair :
    (∀ k ∈ [0, 1, 2, 6], ReadyDirect (tickTo 0 (asked (repairR k 0 0) running)) (3 : Fin 16).val (repairR k 0 0) ∧
      (reqOpcode (repairR k 0 0) = 0x61 ∧ repairKind (reqPayload (repairR k 0 0)) = k ∧ 0 < unitCount k ∧
        repairAction (reqPayload (repairR k 0 0)) = 0 ∧ running.hif.brace = false) ∧
      ∃ v, planned (taken 0 (asked (repairR k 0 0) running) 3) k 0 = some v) ∧
    (∀ a ∈ [1, 3], ReadyDirect (tickTo 0 (asked (repairR 6 a 71) running)) (3 : Fin 16).val (repairR 6 a 71) ∧
      reqOpcode (repairR 6 a 71) = 0x61 ∧ repairAction (reqPayload (repairR 6 a 71)) = a ∧ 71 < unitCount 6 ∧
      spareOrGloved (taken 0 (asked (repairR 6 a 71) running) 3) 6 71 = true) ∧
    (ReadyDirect (tickTo 0 (asked (repairR 6 2 3) retired)) (3 : Fin 16).val (repairR 6 2 3) ∧ reqOpcode (repairR 6 2 3) = 0x61 ∧
      repairAction (reqPayload (repairR 6 2 3)) = 2 ∧ kindRole (taken 0 (asked (repairR 6 2 3) retired) 3) 6 3 = 3 ∧
      unitTaken (taken 0 (asked (repairR 6 2 3) retired) 3) 6 3 = false) := by
  refine ⟨fun k hk => ?_, fun a ha => ?_, ⟨ask ?_ ?_, ?_⟩⟩
  · simp only [List.mem_cons, List.not_mem_nil, or_false] at hk
    rcases hk with rfl | rfl | rfl | rfl <;> exact ⟨ask (by decide +kernel) (by decide +kernel), by decide +kernel, exS (by decide +kernel)⟩
  · simp only [List.mem_cons, List.not_mem_nil, or_false] at ha
    rcases ha with rfl | rfl <;> exact ⟨ask (by decide +kernel) (by decide +kernel), by decide +kernel⟩
  all_goals decide +kernel
theorem witness_PinAttest :
    (ReadyDirect (tickTo 0 (asked pinR imaged)) (3 : Fin 16).val pinR ∧ reqOpcode pinR = 0x03 ∧ fieldAt (reqPayload pinR) 0 2 = 3 ∧
      (imgCompat imaged.cc.image).1 ≤ 3 ∧ 3 ≤ (imgCompat imaged.cc.image).2) ∧
    (ReadyDirect (tickTo 0 (asked attestR running)) (3 : Fin 16).val attestR ∧ reqOpcode attestR = 0x80 ∧
      running.keys.reenrolling = false ∧ keyringSigns (taken 0 (asked attestR running) 3) = true ∧ objInst (reqObj attestR) = 1) := by
  refine ⟨⟨ask ?_ ?_, ?_⟩, ask ?_ ?_, ?_⟩ <;> decide +kernel

def indirectR (op obj : Nat) := asks op 1 obj pSystemMbPolicy 1 (toLe 8 0x1000 ++ toLe 4 64 ++ toLe 4 5)
def badR : Request := { nopR with slot := nopR.slot.set 20 9 }
def reservedR := asks 0x7F 0 sysObj 0 0 []
theorem ready_ask {s : State} {r : Request} (h : readyB (tickTo 0 (asked r s)) 3 r = true) :
    Ready (tickTo 0 (asked r s)) (3 : Fin 16).val r := ready_of h
theorem witness_Payloads :
    (∀ op ∈ [0x70, 0x11, 0x01], Ready (tickTo 0 (asked (indirectR op sysObj) running)) (3 : Fin 16).val (indirectR op sysObj) ∧
      reqIndirect (indirectR op sysObj) = true ∧ reqOpcode (indirectR op sysObj) = op ∧
      (asked (indirectR op sysObj) running).dma.all (·.tag != (asked (indirectR op sysObj) running).nextTag % 512) = true ∧
      (asked (indirectR op sysObj) running).dmaDead.contains ((asked (indirectR op sysObj) running).nextTag % 512) = false ∧
      (asked (indirectR op sysObj) running).dmaLate.contains ((asked (indirectR op sysObj) running).nextTag % 512) = false) ∧
    (let r := indirectR 0x80 (objId clsKeyslot 1)
     Ready (tickTo 0 (asked r running)) (3 : Fin 16).val r ∧ reqIndirect r = true ∧ reqOpcode r = 0x80 ∧
      (asked r running).dma.all (·.tag != (asked r running).nextTag % 512) = true ∧
      (asked r running).dmaDead.contains ((asked r running).nextTag % 512) = false ∧
      (asked r running).dmaLate.contains ((asked r running).nextTag % 512) = false) ∧
    (let s := asked badR running
     Calm s ∧ headRequest (tickTo 0 s) 3 = some badR ∧ serves s = true ∧ s.cc.pushWait = false ∧ slotOk badR = false) ∧
    (let s := asked reservedR running
     Calm s ∧ headRequest (tickTo 0 s) 3 = some reservedR ∧ serves s = true ∧ s.cc.pushWait = false ∧ slotOk reservedR = true ∧
       opRow (reqOpcode reservedR) = none ∧ s.hif.handover = false ∧ reservedR.inHandover = false ∧ mustWait (taken 0 s 3) reservedR = false) := by
  refine ⟨fun op h => ?_, ⟨ready_ask ?_, ?_⟩, ⟨calm_of ?_ ?_, ?_⟩, ⟨calm_of ?_ ?_, ?_⟩⟩
  · simp only [List.mem_cons, List.not_mem_nil, or_false] at h
    rcases h with rfl | rfl | rfl <;> exact ⟨ready_ask (by decide +kernel), by decide +kernel⟩
  all_goals decide +kernel

/-! ### Writes of properties -/

def policyR := sets sysObj pSystemMbPolicy 0 [0x81]
def rtcR := sets sysObj pSystemRtcSet 0 [100, 32767]
def tbR := sets sysObj pSystemTbSet 0 [281474976710655, 65535999999999]
def powerR := sets sysObj pSystemPowerState 0 [3]
theorem witness_SystemSettings :
    (ReadySet (tickTo 0 (asked policyR running)) (3 : Fin 16).val policyR (rowOf (reqObj policyR) (reqPid policyR)) 0 [0x81] ∧
      reqObj policyR = sysObj ∧ mapSorted (asked policyR running).props = true ∧ reqPid policyR = pSystemMbPolicy ∧ bitOf 0x81 7 = true) ∧
    (ReadySet (tickTo 0 (asked rtcR running)) (3 : Fin 16).val rtcR (rowOf (reqObj rtcR) (reqPid rtcR)) 0 [100, 32767] ∧
      reqPid rtcR = pSystemRtcSet ∧ mapSorted (asked rtcR running).props = true ∧ getProp (asked rtcR running) sysObj pSystemRtcState ≠ 2) ∧
    (ReadySet (tickTo 0 (asked tbR running)) (3 : Fin 16).val tbR (rowOf (reqObj tbR) (reqPid tbR)) 0 [281474976710655, 65535999999999] ∧
      reqPid tbR = pSystemTbSet ∧ 281474976710655 < 2 ^ 48 ∧ 65535999999999 < 1000000000 * 65536 ∧
      getPropN (asked tbR running) sysObj pSystemRefSelected = 0) ∧
    (ReadySet (tickTo 0 (asked powerR running)) (3 : Fin 16).val powerR (rowOf (reqObj powerR) (reqPid powerR)) 0 [3] ∧
      reqPid powerR = pSystemPowerState ∧ getPropN (asked powerR running) sysObj pSystemPowerState ≠ 3 ∧
      (asked powerR running).flights.any (fun f => decide (f.cls = .long)) = false) := by
  refine ⟨⟨askSet ?_, ?_⟩, ⟨askSet ?_, ?_⟩, ⟨askSet ?_, ?_⟩, askSet ?_, ?_⟩ <;> decide +kernel

def floorR := sets sysObj pSystemRollbackFloor 0 [255]
def revokeR := sets sysObj pSystemVendorRevoke 0 [0]
def ownerR := sets sysObj pSystemOwnerKeyHash 0 [1, 2, 3]
def reenrolR := sets sysObj pSystemPufReenrol 0 [1]
def unlockR := sets sysObj pSystemDebugUnlock 0 [3, 1]
def releasePcR := sets sysObj pSystemFsRelease 0 [127]
def rearmR := sets sysObj pSystemTallyRearm 0 [1]
def aged : State := { imaged with keys := { running.keys with otp := { running.keys.otp with days := running.keys.otp.bankDay + 1826 } } }
def frozenPc : State := setFsState running 127 2
def tallied : State := { running with tallyOff := [1] }
theorem witness_ProtectedSettings :
    (ReadySet (tickTo 0 (asked floorR imaged)) (3 : Fin 16).val floorR (rowOf (reqObj floorR) (reqPid floorR)) 0 [255] ∧
      reqObj floorR = sysObj ∧ reqPid floorR = pSystemRollbackFloor ∧ mapSorted (asked floorR imaged).props = true) ∧
    (ReadySet (tickTo 0 (asked revokeR imaged)) (3 : Fin 16).val revokeR (rowOf (reqObj revokeR) (reqPid revokeR)) 0 [0] ∧
      reqPid revokeR = pSystemVendorRevoke ∧ clampNat 0 3 0 < imaged.cc.root ∧ imaged.cc.image ≠ []) ∧
    (ReadySet (tickTo 0 (asked ownerR running)) (3 : Fin 16).val ownerR (rowOf (reqObj ownerR) (reqPid ownerR)) 0 [1, 2, 3] ∧
      reqPid ownerR = pSystemOwnerKeyHash ∧ running.keys.otp.ownerDone = false ∧
      (padTo 48 (([1, 2, 3] : List Int).map fun x => BitVec.ofNat 8 x.toNat)).all (· == 0) = false) ∧
    (ReadySet (tickTo 0 (asked reenrolR aged)) (3 : Fin 16).val reenrolR (rowOf (reqObj reenrolR) (reqPid reenrolR)) 0 [1] ∧
      reqPid reenrolR = pSystemPufReenrol ∧ canReenrol (taken 0 (asked reenrolR aged) 3) = true ∧ (freeBank aged.keys.otp).isSome = true) ∧
    (ReadySet (tickTo 0 (asked unlockR running)) (3 : Fin 16).val unlockR (rowOf (reqObj unlockR) (reqPid unlockR)) 0 [3, 1] ∧
      reqPid unlockR = pSystemDebugUnlock ∧ ([3, 1] : List Int) ≠ []) ∧
    (ReadySet (tickTo 0 (asked releasePcR frozenPc)) (3 : Fin 16).val releasePcR (rowOf (reqObj releasePcR) (reqPid releasePcR)) 0 [127] ∧
      reqPid releasePcR = pSystemFsRelease ∧ fsState (taken 0 (asked releasePcR frozenPc) 3) 127 = 2) ∧
    (ReadySet (tickTo 0 (asked rearmR tallied)) (3 : Fin 16).val rearmR (rowOf (reqObj rearmR) (reqPid rearmR)) 0 [1] ∧
      reqPid rearmR = pSystemTallyRearm ∧ 1 ∈ tallied.tallyOff ∧ mapSorted tallied.lamps = true) := by
  refine ⟨⟨askSet ?_, ?_⟩, ⟨askSet ?_, ?_⟩, ⟨askSet ?_, ?_⟩, ⟨askSet ?_, ?_⟩, ⟨askSet ?_, ?_⟩, ⟨askSet ?_, ?_⟩, askSet ?_, ?_⟩ <;> decide +kernel

def routeHeadR := sets (objId clsRoute 0) pRouteHead 0 [(headObj 23 : Nat)]
def tapsR := sets (objId clsShaper 0) pShaperTapsV 0 [8]
def hostFrameR := sets surf1 pSurfaceHostFrame 0 [18446744073709551614]
def captureR := sets ring1 pRingCaptureMode 0 [1]
def cadenceR := sets (objId clsCadence 0) pCadenceRate 0 [65535, 65535]
def deriveR := sets (objId clsKeyslot 31) pKeyslotDerive 0 [1]
def routeOnly : State := (newObj running clsRoute).2
theorem witness_ObjectSettings :
    (ReadySet (tickTo 0 (asked routeHeadR routeOnly)) (3 : Fin 16).val routeHeadR (rowOf (reqObj routeHeadR) (reqPid routeHeadR)) 0
        [(headObj 23 : Int)] ∧ mapSorted (asked routeHeadR routeOnly).props = true ∧
      objCls (reqObj routeHeadR) = clsRoute ∧ reqPid routeHeadR = pRouteHead ∧ getProp (asked routeHeadR routeOnly) (objId clsRoute 0) pRouteState = 0 ∧
      hasPending (asked routeHeadR routeOnly) (objId clsRoute 0) = false) ∧
    (ReadySet (tickTo 0 (asked tapsR running)) (3 : Fin 16).val tapsR (rowOf (reqObj tapsR) (reqPid tapsR)) 0 [8] ∧
      objCls (reqObj tapsR) = clsShaper ∧ reqPid tapsR = pShaperTapsV ∧
      hingeTarget (taken 0 (asked tapsR running) 3) (objId clsShaper 0) = .now') ∧
    (ReadySet (tickTo 0 (asked hostFrameR surfaced)) (3 : Fin 16).val hostFrameR (rowOf (reqObj hostFrameR) (reqPid hostFrameR)) 0
        [18446744073709551614] ∧ objCls (reqObj hostFrameR) = clsSurface ∧ reqPid hostFrameR = pSurfaceHostFrame ∧
      surfOf (asked hostFrameR surfaced) surf1 = some (theSurf surfaced) ∧ (theSurf surfaced).ring = 0 ∧ (theSurf surfaced).owner = .host ∧
      (∀ q ∈ surfaced.objs, objCls q ≠ clsRoute)) ∧
    (ReadySet (tickTo 0 (asked captureR ringed)) (3 : Fin 16).val captureR (rowOf (reqObj captureR) (reqPid captureR)) 0 [1] ∧
      objCls (reqObj captureR) = clsRing ∧ reqPid captureR = pRingCaptureMode ∧ ringPlayed (asked captureR ringed) ring1 = false ∧
      (setCapture (taken 0 (asked captureR ringed) 3) ring1 true).isSome = true) ∧
    (ReadySet (tickTo 0 (asked cadenceR running)) (3 : Fin 16).val cadenceR (rowOf (reqObj cadenceR) (reqPid cadenceR)) 0 [65535, 65535] ∧
      objCls (reqObj cadenceR) = clsCadence ∧ reqPid cadenceR = pCadenceRate ∧ cadenceUsers (asked cadenceR running) (objId clsCadence 0) = 0) ∧
    (ReadySet (tickTo 0 (asked deriveR running)) (3 : Fin 16).val deriveR (rowOf (reqObj deriveR) (reqPid deriveR)) 0 [1] ∧
      objCls (reqObj deriveR) = clsKeyslot ∧ reqPid deriveR = pKeyslotDerive ∧ running.keys.reenrolling = false ∧
      getPropN (asked deriveR running) sysObj pSystemKeyringState ≤ 1 ∧
      (hostLabel (setProps (taken 0 (asked deriveR running) 3) (objId clsKeyslot 31) pKeyslotDerive 0 [1]) 31).any (· != 0) = true) := by
  refine ⟨⟨askSet ?_, ?_⟩, ⟨askSet ?_, ?_⟩, ⟨askSet ?_, ?_⟩, ⟨askSet ?_, ?_⟩, ⟨askSet ?_, ?_⟩, askSet ?_, ?_⟩ <;> decide +kernel

/-! ### Requests that wait -/

theorem runs_calm {s : State} (h : (stillB s && servedB s) = true) : Calm s := by
  simp only [Bool.and_eq_true] at h
  exact calm_of h.1 h.2

def flightWith (c : DeadlineClass) (w : Waits) (r : Request) : Flight := ⟨r, 0, c, none, none, [0], w, 0⟩
def flying (f : Flight) (s : State) : State := { s with flights := [f] }
def commit1 : Commit := ⟨5, .request 3 0 7 0, [], [], 0, none, 0, none, none, false, none, [], false, []⟩
def sealedOn (c : Commit) (s : State) : State := setHeadRt s 0 { headRt s 0 with commits := [c] }
def exportAllR := asks 0x45 0 ring1 0 0 (toLe 4 0 ++ toLe 4 0 ++ toLe 8 0x1000 ++ toLe 8 4096 ++ toLe 4 1000 ++ toLe 1 2)
theorem witness_WaitingRequestsEnd :
    (let s := flying (flightWith .immediate .payload nopR) running
     Calm s ∧ flightOf s 3 0 = some (flightWith .immediate .payload nopR) ∧
       flightDue (tickTo 0 s) (flightWith .immediate .payload nopR) = true ∧ ∀ h < 24, takenOf s h nopR = none) ∧
    (let f := flightWith .hinge .payload nopR
     let s := flying f (setHeadRt running 23 { headRt running 23 with taken := [⟨3, 0, 0, [(1, 1)]⟩] })
     Calm s ∧ flightOf s 3 0 = some f ∧ flightDue (tickTo 0 s) f = true ∧ takenOf s 23 f.req = some ⟨3, 0, 0, [(1, 1)]⟩) ∧
    (let f := flightWith .long (.exportOf ring1) exportAllR
     let s := flying f (withCap .frozen)
     Calm s ∧ flightOf s 3 0 = some f ∧ flightDue (tickTo 0 s) f = true ∧ f.cls = .long ∧ exportFlight s ring1 = some f ∧
       ∃ r, ringOf s ring1 = some r ∧
        let w := tickTo (2 * secT) s
        let e := exportReq r (reqPayload f.req)
        let all := exportFit w r e e.len e.count e.first (exportHead r e, 0, 0)
        (exportHead r e).length ≤ e.len ∧ all.1 ≠ [] ∧ all.1.length ≤ e.rate * min (w.now - f.req.start) (9 * secT + secT / 2) / secT) ∧
    (let f := flightWith .hinge (.commit 0 5) commitR
     let s := flying f (sealedOn commit1 running)
     Calm s ∧ flightOf s 3 0 = some f ∧ flightDue (tickTo 0 s) f = true ∧ commitOf s 0 5 = some commit1 ∧
       commit1.src = .request 3 0 7 0 ∧ commit1.made = []) := by
  refine ⟨⟨runs_calm ?_, ?_⟩, ⟨runs_calm ?_, ?_⟩,
    ⟨runs_calm ?_, ?_, ?_, ?_, ?_, (ringOf (withCap .frozen) ring1).get (by decide +kernel), ?_⟩, runs_calm ?_, ?_⟩ <;> decide +kernel

def payload4 : List Byte := [1, 2, 3, 4]
def reading (budget : Ticks) : State :=
  { flying (flightWith .immediate .payload (indirectR 0x01 sysObj)) running with
    dma := [⟨9, 3, 0, 0x1000, 4, crc32c (padTo 4 payload4), budget⟩], dmaDead := [511] }
theorem witness_DmaReads :
    (∀ b ∈ [0, 1], let s := reading b
      let d : DmaRead := ⟨9, 3, 0, 0x1000, 4, crc32c (padTo 4 payload4), b⟩
      let f := flightWith .immediate .payload (indirectR 0x01 sysObj)
      Calm s ∧ s.dma.find? (fun x => x.tag == d.tag) = some d ∧ flightOf s d.mb d.cnt = some f ∧ f.waits = .payload ∧
      (∀ h < 24, takenOf s h f.req = none) ∧ turnHeld s f.req = false ∧ objectStands s f.req = true ∧
      (freeTag (dropDma (tickTo 0 s) 9)).isSome = true ∧ (freeTag { dropDma (tickTo 0 s) 9 with dmaLate := s.dmaLate ++ [9] }).isSome = true ∧
      crc32c (padTo d.len payload4) = d.crc ∧ crc32c (padTo d.len []) ≠ d.crc ∧ reqOpcode f.req = 0x01 ∧ reqIndirect f.req = true ∧
      s.dma.find? (fun x => x.mb == d.mb && x.cnt == d.cnt) = some d ∧ s.dma.find? (fun x => x.tag == 511) = none ∧ 511 ∈ s.dmaDead) ∧
    (let f := flightWith .immediate .payload (indirectR 0x01 sysObj)
     turnHeld { reading 1 with flights := [flightWith .immediate .payload (asks 0x11 1 sysObj 0 0 []),
       { f with req := { f.req with cnt := 1 } }] } { f.req with cnt := 1 } = true) ∧
    (tickTo 0 (reading 1)).now < 1 ∧ 0 ≤ (tickTo 0 (reading 0)).now := by
  refine ⟨fun b h => ?_, ?_⟩
  · simp only [List.mem_cons, List.not_mem_nil, or_false] at h
    rcases h with rfl | rfl <;> exact ⟨runs_calm (by decide +kernel), by decide +kernel⟩
  · exact ⟨by decide +kernel, by decide +kernel⟩

/-! ### Heads -/

/-- Head 0 RUNNING, with the default raster. -/
def live : State := setProp (setProp running (headObj 0) pHeadRasterState 0 2) (headObj 0) pHeadRun 0 1
def braced (s : State) : State := { s with hif := { s.hif with brace := true } }
theorem witness_Staging :
    (let s := sealedOn commit1 live
     Calm s ∧ commitOf s 0 5 = some commit1 ∧ commit1.staged = none ∧ headIdle s 0 = false ∧ s.hif.brace = false ∧ commit1.missed = none) ∧
    (let s := braced (sealedOn commit1 live)
     Calm s ∧ commitOf s 0 5 = some commit1 ∧ headIdle s 0 = false ∧ s.hif.brace = true) ∧
    (let c := { commit1 with missed := some 0 }
     let s := sealedOn c live
     Calm s ∧ commitOf s 0 5 = some c ∧ c.missed = some 0 ∧ c.release = none ∧ headIdle s 0 = false) ∧
    (Calm (sealedOn commit1 running) ∧ commitOf (sealedOn commit1 running) 0 5 = some commit1 ∧ headIdle (sealedOn commit1 running) 0 = true) ∧
    (let c := { commit1 with release := some 8, staged := some 0 }
     Calm (sealedOn c running) ∧ commitOf (sealedOn c running) 0 5 = some c ∧ c.staged ≠ none ∧ headIdle (sealedOn c running) 0 = true) ∧
    (let c := { commit1 with release := some 8 }
     Calm (sealedOn c running) ∧ commitOf (sealedOn c running) 0 5 = some c ∧ c.release = some 8 ∧ c.staged = none) := by
  refine ⟨⟨runs_calm ?_, ?_⟩, ⟨runs_calm ?_, ?_⟩, ⟨runs_calm ?_, ?_⟩, ⟨runs_calm ?_, ?_⟩, ⟨runs_calm ?_, ?_⟩, runs_calm ?_, ?_⟩ <;>
    decide +kernel

theorem witness_Hinges :
    ∀ v ∈ [1, 2], let s := setProp (setProp live (headObj 0) pHeadRasterState 0 v) (headObj 0) pHeadStillAfter 0 0
      Calm s ∧ s.objs = [] ∧ s.surfs = [] ∧ s.works = [] ∧ s.power.ageMoves = [] ∧ placeGloved s (47 + (0 : Fin 24).val) = false ∧
      (headRt s 0).commits = [] ∧ (headRt s 0).holdSurf = 0 ∧ headPorts s (headObj 0) = [] ∧ getProp s (headObj 0) pHeadRun = 1 ∧
      getProp s (headObj 0) pHeadStillAfter = 0 ∧ mapSorted s.props = true ∧ getProp s (headObj 0) pHeadRasterState = v := by
  intro v h
  simp only [List.mem_cons, List.not_mem_nil, or_false] at h
  rcases h with rfl | rfl <;> exact ⟨runs_calm (by decide +kernel), by decide +kernel⟩

def layer1 : ObjId := objId clsLayer 0
/-- A layer on head 0 that shows a frame. -/
def shown : State :=
  let s := setProp (setProp (newObj live clsLayer).2 layer1 pLayerHead 0 (headObj 0 : Nat)) layer1 pLayerVisible 0 1
  setProp (setLayerRt s layer1 { layerRt s layer1 with shown := .frame surf1 3 0 0, headFixed := true }) layer1 pLayerStarved 0 0
theorem witness_Display :
    (∀ b ∈ [0, 7], let s := setProp shown (headObj 0) pHeadDisplayEvents 0 b
      Calm s ∧ headShows s 0 = true ∧ (∀ k : Nat, k < 3 → bitOf (getPropN s (headObj 0) pHeadDisplayEvents) k = (b != 0)) ∧
      (headRt s 0).capturing = false ∧ headPorts s (headObj 0) = [] ∧ (headRt s 0).lines = []) ∧
    ((headLayers shown 0)[0]? = some layer1 ∧ getProp shown layer1 pLayerVisible = 1 ∧ getProp shown layer1 pLayerCovered = 0 ∧
      showsFrame shown layer1 = true ∧ (headRt shown 0).fromHold = false ∧ 1079 < getPropN shown (headObj 0) pHeadRaster 1 ∧
      1919 < getPropN shown (headObj 0) pHeadRaster 0 ∧ (headRt shown 0).underAt = [] ∧ (headRt shown 0).underLines = 0 ∧
      rectEmpty (layerRects shown 0 layer1).1 = false) ∧
    (∀ b, let s := updHead live 0 fun x => { x with prefetched := b }
      Calm s ∧ getProp s (headObj 0) pHeadRasterState = 2 ∧ (headRt s 0).prefetched = b) ∧
    (let s := setProp live (headObj 0) pHeadRasterState 0 3
     Calm s ∧ getProp s (headObj 0) pHeadRasterState = 3 ∧ headPorts s (headObj 0) = [] ∧ mapSorted s.props = true) := by
  refine ⟨fun b h => ?_, ?_, fun b => by cases b <;> exact ⟨runs_calm (by decide +kernel), by decide +kernel⟩, runs_calm ?_, ?_⟩
  · simp only [List.mem_cons, List.not_mem_nil, or_false] at h
    rcases h with rfl | rfl <;> exact ⟨runs_calm (by decide +kernel), by decide +kernel⟩
  all_goals decide +kernel

/-! ### Ingress -/

/-- Words as a lane carries them after 58 zero bits. -/
def onLane (ws : List Nat) : List Word := (bitsWords ws.length (scramble 0 (wordsBits ws)).1).map (BitVec.ofNat 32)

/-- PORT_IN 0 as a running MSL port with one link, on lane 5. -/
def port1 : ObjId := objId clsPortIn 0
def portOf (kind state : Nat) (s : State) : State := setProp (setProp s port1 pPortInKind 0 kind) port1 pPortInState 0 state
def mslPort : State :=
  let s := setProp (setProp (setProp (portOf 1 2 surfaced) port1 pPortInFormat 0 0x12) port1 pPortInGeometry 0 64) port1 pPortInGeometry 1 16
  setPortIn (setProp s port1 pPortInLinks 0 1) port1 { portIn0 with linkUp := 1, runs := [[5]] }
def laneIn (st : LaneState) (good : Bool) (missed : Nat) (s : State) : State := setLane s 5 { lane0 with state := st, good := good, missed := missed }
def marker0 : Word := 0x4D534C00
def marker1 : Word := 0x00000052
def marked : List Word := onLane [marker0.toNat, marker1.toNat]
theorem witness_Lanes :
    (∀ e ∈ [(LaneState.down, false, 0), (.hunt, false, 0), (.hunt, true, 0), (.locked, false, 2), (.locked, false, 3)],
      let s := laneIn e.1 e.2.1 e.2.2 running
      Calm s ∧ (∀ n, n < 5 → (hlLanesOf s n).contains (5 : Fin 96).val = false) ∧ laneUser s 5 = none ∧
      (laneOf s 5).state = e.1 ∧ (laneOf s 5).good = e.2.1 ∧ (laneOf s 5).missed = e.2.2 ∧ (laneOf s 5).inverted = false ∧
      (let m := markerWords (atD marked 0 0).toNat (atD marked 1 0).toNat ⟨16386, 0⟩
       m.1 = (marker0.toNat, marker1.toNat) ∧ markerOk (markerSig s 5) m.1.1 m.1.2 = true)) ∧
    (let s := laneIn .locked false 0 mslPort
     Calm s ∧ (∀ n, n < 5 → (hlLanesOf s n).contains (5 : Fin 96).val = false) ∧ laneUser s 5 = some (port1, 0) ∧
       getProp s port1 pPortInKind = 1 ∧ bitOf (portIn s port1).linkUp 0 = true) := by
  refine ⟨fun e h => ?_, runs_calm ?_, ?_⟩
  · simp only [List.mem_cons, List.not_mem_nil, or_false] at h
    rcases h with rfl | rfl | rfl | rfl | rfl <;> exact ⟨runs_calm (by decide +kernel), by decide +kernel⟩
  all_goals decide +kernel

/-- A packet header of a type, with its check. -/
def mslHead (typ len : Nat) (ws : List Nat) : List Word :=
  let b := (len * 65536 + typ * 256 + 0xD5) :: ws
  (b ++ [crc32c (wordBytes b)]).map (BitVec.ofNat 32)
def hdOf (h : List Word) : List Nat := h.map (·.toNat)
def open1 : OpenFrame := ⟨7, some surf1, none, [], 0, 0, [], 64, 16, 0, 0, 0, [], [], none, [], false, 0⟩
def openWhole : OpenFrame := { open1 with tfs := some 0, starts := 1, lines := List.range 16 }
def opening (f : OpenFrame) : State := updPortIn mslPort port1 fun x => { x with opened := some f }
theorem header_of {typ : Nat} {hd : List Nat} (h : (bitsOf (atD hd 0 0) 7 0 = 0xD5 ∧ bitsOf (atD hd 0 0) 15 8 = typ ∧
    hd.length = mslHeaderWords typ ∧ (typ ≠ 2 → bitsOf (atD hd 0 0) 31 16 = 0)) ∧ crc32c (wordBytes hd.dropLast) = hd.getLastD 0) :
    MslHeader typ hd := ⟨h.1.1, h.1.2.1, h.1.2.2.1, h.1.2.2.2, h.2⟩
def startH := mslHead 1 0 [7, 0, 0, 0, 0, 0]
def lineH := mslHead 2 24 [7, 15]
def endH := mslHead 3 0 [7, 0]
def payload1 : List Nat := List.range 24
/-- The words of the link of `mslPort`, on its one lane. -/
def carried (ws : List Nat) : LaneWords := [onLane ws]
def brought (s : State) (h : LaneWords) : List Nat := (linkWords s (atD (portIn s port1).runs 0 []) (laneNats h)).1
theorem witness_Msl :
    (Calm mslPort ∧ mslPort.works = [] ∧ MslLinkUp mslPort port1 0 ∧ MslHeader 1 (hdOf startH) ∧ (portIn mslPort port1).opened = none ∧
      (portIn mslPort port1).lastCounter = none ∧ brought mslPort (carried (hdOf startH)) = hdOf startH) ∧
    (let s := opening open1
     Calm s ∧ MslLinkUp s port1 0 ∧ MslHeader 2 (hdOf lineH) ∧ ((portIn s port1).opened = some open1 ∧ open1.surface = some surf1 ∧
       surfOf s surf1 = some (theSurf s) ∧ surfFits s port1 (theSurf s) = true ∧ bitsOf (atD (hdOf lineH) 0 0) 31 16 = ceilDiv (open1.width * 12) 32 ∧
       bitsOf (atD (hdOf lineH) 2 0) 15 0 < open1.height ∧ bitsOf (atD (hdOf lineH) 2 0) 15 0 % max (getPropN s port1 pPortInLinks) 1 = 0 ∧
       atD (hdOf lineH) 1 0 = open1.number % 2 ^ 32 ∧ mslWhole s port1 open1 = false ∧ lineWritten s port1 open1.turn 15 = true ∧
       payload1.length = bitsOf (atD (hdOf lineH) 0 0) 31 16 ∧
       brought s (joinLanes (carried (hdOf lineH ++ payload1)) []) = hdOf lineH ++ payload1)) ∧
    (MslHeader 3 (hdOf endH) ∧ brought mslPort (carried (hdOf endH)) = hdOf endH ∧
      ∀ f ∈ [open1, openWhole], Calm (opening f) ∧ MslLinkUp (opening f) port1 0 ∧ (portIn (opening f) port1).opened = some f ∧
      atD (hdOf endH) 1 0 = f.number % 2 ^ 32 ∧ bitOf (atD f.header 6 0) 12 = false) ∧
    (mslWhole (opening open1) port1 { open1 with ends := 1 } = false ∧ mslWhole (opening openWhole) port1 { openWhole with ends := 1 } = true ∧
      openWhole.height ≤ openWhole.lines.length) ∧
    (let hd := hdOf (lineH.set 3 0)
     brought mslPort (joinLanes (carried hd) []) = hd ∧
     bitsOf (atD hd 0 0) 7 0 = 0xD5 ∧ bitsOf (atD hd 0 0) 15 8 = 2 ∧ hd.length = 4 ∧ crc32c (wordBytes hd.dropLast) ≠ hd.getLastD 0) := by
  refine ⟨⟨runs_calm ?_, ?_, ⟨?_, ?_, ?_, ?_⟩, header_of ?_, ?_⟩, ⟨runs_calm ?_, ⟨?_, ?_, ?_, ?_⟩, header_of ?_, ?_⟩,
    ⟨header_of ?_, ?_, by
      intro f h
      simp only [List.mem_cons, List.not_mem_nil, or_false] at h
      rcases h with rfl | rfl <;> exact ⟨runs_calm (by decide +kernel),
        ⟨by decide +kernel, by decide +kernel, by decide +kernel, by decide +kernel⟩, by decide +kernel⟩⟩, ?_, ?_⟩ <;> decide +kernel

def sdi1 : SdiFrame := ⟨.g12, 11880000, 0, 1920, 1080, 0x12, 2, true, 10, 3, [], [], []⟩
def rtp1 : RtpPacket := ⟨0, 65535, 9, false, 64, 16, 0x12, 0, 12, 0, [1, 2], [], [], false⟩
def flow1 : State :=
  let s := setProp (setProp (portOf 4 2 running) port1 pPortInParent 0 (objId clsPortIn 1 : Nat)) port1 pPortInPathState 0 1
  setPortIn s port1 { portIn0 with opened := some open1, timestamp := some 9, nextSeq := some 65535, legSeen := [some 0, none] }
theorem witness_OtherPorts :
    (let s := portOf 2 4 running
     Calm s ∧ getProp s port1 pPortInState ≠ 0 ∧ getProp s port1 pPortInKind = 2 ∧ sdi1.payloadId = true ∧ sdi1.scan = 2 ∧ sdi1.anc = [] ∧
       sdi1.bits = 10 ∧ sdiAccepts s port1 sdi1 = true ∧ sdiAccepts s port1 { sdi1 with standard := .dual12 } = false ∧ (portIn s port1).lost = false ∧ (portIn s port1).opened = none) ∧
    (let s := portOf 3 1 running
     Calm s ∧ getProp s port1 pPortInState ≠ 0 ∧ getProp s port1 pPortInKind = 3) ∧
    (Calm flow1 ∧ getProp flow1 port1 pPortInKind = 4 ∧ getProp flow1 port1 pPortInState = 2 ∧ legUsed flow1 port1 rtp1.leg = true ∧
      legUsed flow1 port1 1 = false ∧ getProp flow1 port1 pPortInPathState rtp1.leg = 1 ∧ (portIn flow1 port1).buffer = [] ∧
      (portIn flow1 port1).nextSeq = some (rtp1.seq % 65536) ∧ (portIn flow1 port1).timestamp = some rtp1.timestamp ∧
      (portIn flow1 port1).opened = some open1 ∧ rtp1.marker = false ∧ rtp1.samples ≠ [] ∧ rtp1.anc = [] ∧ rtp1.checkFailed = false ∧ mapGet open1.rows rtp1.offset = none ∧
      atD (portIn flow1 port1).legSeen 0 none = some 0 ∧ 0 + 10 * msT ≤ (tickTo (10 * msT) flow1).now) ∧
    (let s := setPortIn mslPort port1 { portIn mslPort port1 with starts := [0] }
     Calm s ∧ getProp s port1 pPortInState = 2 ∧ getProp s port1 pPortInKind = 1 ∧ (portIn s port1).lost = false ∧
       (portIn s port1).opened = none ∧ (portIn s port1).starts.head? = some 0 ∧
       0 + getPropN s port1 pPortInLossTimeout * usT ≤ (tickTo (getPropN s port1 pPortInLossTimeout * usT) s).now) := by
  refine ⟨⟨runs_calm ?_, ?_⟩, ⟨runs_calm ?_, ?_⟩, ⟨runs_calm ?_, ?_⟩, runs_calm ?_, ?_⟩ <;> decide +kernel

def rec1 (src : ObjId) : FrameRec := ⟨3, 0, src, 1, 24, 1, 0, surf1, 0⟩
def writing (src : ObjId) : State :=
  setSurf (setPortIn running port1 { portIn0 with closing := [(surf1, none, [])] }) surf1
    { freshSurf surf1 0 4096 0x12 64 16 0 0 0 0 .host with state := .writing, pend := some (rec1 src) }
theorem witness_FramesBecomeComplete :
    ∀ src ∈ [headObj 0, port1], Calm (writing src) ∧ (writing src).objs = [] ∧ (surfOf (writing src) surf1).map (·.pend) = some (some (rec1 src)) ∧
      (surfOf (writing src) surf1).map (·.state) = some .writing ∧ ringOf (writing src) 0 = none ∧
      (portIn (writing src) port1).closing = [(surf1, none, [])] ∧ bitOf (rec1 src).flags 0 = true ∧
      (src = port1 ∨ objCls (rec1 src).source ≠ clsPortIn) := by
  intro src h
  simp only [List.mem_cons, List.not_mem_nil, or_false] at h
  rcases h with rfl | rfl <;> exact ⟨runs_calm (by decide +kernel), by decide +kernel⟩

/-! ### Stages of routes -/

/-- Two rings of four surfaces, and a running route of head 0 from the first to the second. -/
def twoRings : State := addRing 0x300000 (addRing 0x200000 live)
def ring2 : ObjId := objId clsRing 1
def route1 : ObjId := objId clsRoute 0
def unit1 (kind : Nat) : ObjId := if kind = 1 then objId clsShaper 0 else objId clsTconv 0
def staged (kind state : Nat) : State :=
  let s := (newObj twoRings clsRoute).2
  let s := setProp (setProp (setProp s route1 pRouteStageKind 0 kind) route1 pRouteStageUnits 0 (unit1 kind : Nat)) route1 pRouteStageRings 0 (ring2 : Nat)
  setProp (setProp (setProp s route1 pRouteSource 0 (ring1 : Nat)) route1 pRouteHead 0 (headObj 0 : Nat)) route1 pRouteState 0 state
/-- The first surface of the first ring holds a frame. -/
def filled (s : State) : State :=
  updSurf s surf1 fun f => { f with state := .complete, done := 4, doneAt := 90, copyA := ⟨rec1 0, true⟩, copyB := ⟨rec1 0, true⟩ }
def stageWith (s : State) (x : StageRt) : State := setStageRt s route1 0 x
def out1 : ObjId := objId clsSurface 4
def job1 : ShapeJob := ⟨surf1, out1, rec1 0, 0, 0, objId clsShaper 0, [], 4, false⟩
theorem witness_Routes :
    (let s := stageWith (filled (staged 1 1)) { stageRt0 with waiting := some surf1 }
     Calm s ∧ 0 < (routeRt s route1).stages.length ∧ (routeStages s route1)[0]? = some ⟨1, [objId clsShaper 0], ring2⟩ ∧
       getProp s route1 pRouteState = 1 ∧ (stageRt s route1 0).waiting = some surf1 ∧ stageBusy (stageRt s route1 0) = false ∧
       surfOf s surf1 = some (theSurf s) ∧ (theSurf s).ring ≠ 0 ∧ leaseable s (theSurf s) = true ∧ surfFrame (theSurf s) = some (rec1 0) ∧
       (writerClaim (tickTo 0 s) ring2).isSome = true) ∧
    (let s := stageWith (filled (staged 1 1)) { stageRt0 with job := some job1 }
     Calm s ∧ (stageRt s route1 0).job = some job1 ∧ job1.lost = false ∧ job1.input ≠ job1.output ∧ (surfOf s job1.input).isSome = true ∧
       (surfOf s job1.output).isSome = true) ∧
    (let s := setRouteRt (setProp (filled (staged 1 1)) route1 pRoutePlay 0 1) route1 { routeRt0 with selected := some surf1 }
     Calm s ∧ getProp s route1 pRoutePlay = 1 ∧ getProp s route1 pRouteState = 1 ∧ routeStages s route1 ≠ [] ∧
       headIdx (getPropN s route1 pRouteHead) = some 0 ∧ (routeRt s route1).selected = some surf1 ∧ (routeRt s route1).offered ≠ some surf1) ∧
    (let s := staged 1 2
     Calm s ∧ getProp s route1 pRouteState = 2 ∧ routeBusy s route1 = false ∧ (routeRt s route1).removed = false ∧
       (∀ o ∈ (routeRt s route1).units.flatten, o ≠ route1) ∧ mapSorted s.props = true) := by
  refine ⟨⟨runs_calm ?_, ?_⟩, ⟨runs_calm ?_, ?_⟩, ⟨runs_calm ?_, ?_⟩, runs_calm ?_, ?_⟩ <;> decide +kernel

def conv1 : ConvJob := ⟨0, 0, 99, 50, 40, 0, 0, 0, 0, [], [⟨surf1, 3, 0, true, 4, false, false⟩], none, [(surf1, 0, 1)], [], 0, false, false, false, some out1, false, false, [],
  objId clsTconv 0, [], ring1, 0⟩
def converting (j : Option ConvJob) : State :=
  let s := filled (staged 2 1)
  setHeadRt (stageWith s { stageRt0 with conv := j }) 0 { headRt s 0 with lastHinge := some 0 }
theorem witness_Convert :
    (let s := converting none
     Calm s ∧ convStage s route1 = some (0, ⟨2, [objId clsTconv 0], ring2⟩) ∧ 0 < (routeRt s route1).stages.length ∧
       (headRt s 0).lastHinge = some 0 ∧ (picOf s ring2).isSome = true ∧ getProp s route1 pRouteState = 1 ∧
       getProp s (headObj 0) pHeadRasterState ≠ 0 ∧ (stageRt s route1 0).conv = none ∧ (stageRt s route1 0).job = none) ∧
    (Calm (converting (some conv1)) ∧ convStage (converting (some conv1)) route1 = some (0, ⟨2, [objId clsTconv 0], ring2⟩) ∧
      (stageRt (converting (some conv1)) route1 0).conv = some conv1 ∧ conv1.ended = false ∧ conv1.foldingNow = none ∧ conv1.cut = false ∧
      conv1.queue ≠ [] ∧ conv1.mode ≠ 3 ∧ conv1.mode ≠ 4) ∧
    (let j := { conv1 with foldingNow := some 0 }
     Calm (converting (some j)) ∧ (stageRt (converting (some j)) route1 0).conv = some j ∧ j.queue = (surf1, 0, 1) :: []) ∧
    (let j := { conv1 with finishing := true }
     Calm (converting (some j)) ∧ (stageRt (converting (some j)) route1 0).conv = some j ∧ j.ended = false ∧ j.mode = 0 ∧ j.lost = false ∧
       j.output = some out1 ∧ (surfOf (converting (some j)) out1).isSome = true ∧
       (mixFrames (converting (some j)) j 0x12 64 16).map (·.2.2.1) = some false) ∧
    (let j := { conv1 with cut := true, inputs := [] }
     let s := converting (some j)
     Calm s ∧ (stageRt s route1 0).past = [] ∧ (stageRt s route1 0).conv = some j ∧ surfOf s surf1 = some (theSurf s) ∧
       surfFrame (theSurf s) = some (rec1 0) ∧ j.ring = (theSurf s).ring ∧
       j.tCut < ((theSurf s).doneAt : Int) ∧ lateUse j (rec1 0) (theSurf s).done = true) := by
  refine ⟨⟨runs_calm ?_, ?_⟩, ⟨runs_calm ?_, ?_⟩, ⟨runs_calm ?_, ?_⟩, ⟨runs_calm ?_, ?_⟩, runs_calm ?_, ?_⟩ <;> decide +kernel

/-! ### Egress -/

def outp : ObjId := objId clsPortOut 0
def outOfKind (kind state : Nat) (s : State) : State :=
  setProp (setProp (setProp s outp pPortOutKind 0 kind) outp pPortOutState 0 state) outp pPortOutHead 0 (headObj 0 : Nat)
def ancOut (last : Option Nat) : State := setOut (outOfKind 1 2 (filled twoRings)) outp { out0 with ancRing := ring1, lastAnc := last }
def flowOut : State := setProp (outOfKind 2 2 live) outp pPortOutPacketSize 0 1400
theorem witness_PortsSend :
    (∀ l ∈ [none, some 3], Calm (ancOut l) ∧ getProp (ancOut l) outp pPortOutState = 2 ∧ getProp (ancOut l) outp pPortOutKind = 1 ∧
      (outOf (ancOut l) outp).ancRing = ring1 ∧ ring1 ≠ 0 ∧
      ((ringOf (ancOut l) ring1).bind (ringNewest (ancOut l))).map (·.2.2.frame) = some 3 ∧ (outOf (ancOut l) outp).lastAnc = l) ∧
    (Calm flowOut ∧ getProp flowOut outp pPortOutState = 2 ∧ getProp flowOut outp pPortOutKind = 2 ∧
      linePackets flowOut outp = 4 ∧ (portRaster flowOut outp).1.2.1 = 1080 ∧ (outOf flowOut outp).silentTo ≤ (tickTo 0 flowOut).now) ∧
    (let s := outOfKind 4 2 live
     Calm s ∧ getProp s outp pPortOutState = 2 ∧ getProp s outp pPortOutKind = 4 ∧ (outOf s outp).silentTo ≤ (tickTo 0 s).now ∧
       (ancGroups (getPropN s outp pPortOutPacketSize - 20) (frameAnc (tickTo 0 s) outp) 0 [])[0]? = some [] ∧
       getPropN s outp pPortOutParent 0 = 0 ∧ getPropN s outp pPortOutParent 1 = 0 ∧
       (let v := setProp (setProp s outp pPortOutParent 0 (port1 : Nat)) port1 pPortInState 0 1
        Calm v ∧ getPropN v outp pPortOutParent 0 ≠ 0 ∧ getProp v (getPropN v outp pPortOutParent 0) pPortInState ≠ 0)) := by
  refine ⟨fun l h => ?_, ⟨runs_calm ?_, ?_⟩, runs_calm ?_, ?_, ?_, ?_, ?_, ?_, ?_, runs_calm ?_, ?_⟩
  · simp only [List.mem_cons, List.not_mem_nil, or_false] at h
    rcases h with rfl | rfl <;> exact ⟨runs_calm (by decide +kernel), by decide +kernel⟩
  all_goals decide +kernel

def dpOut (max : Int) : State :=
  let s := setProps (outOfKind 5 4 (setProp live (headObj 0) pHeadCadence 0 (objId clsCadence 0 : Nat))) outp pPortOutLanes 0 [0, 1, 2, 3]
  setDpPins (setProp s outp pPortOutDpMax 0 max) 0 { dpPins0 with hpd := true }
def dpFound (ok : Bool) : DpResult := ⟨ok, 4, 2, false, 0⟩
def dpSeen (s : State) : State := setDpPins s 0 { dpPinsOf s 0 with sink := some (4, 2), sinkReplay := false, resync := 0 }
def dpFailed : State := setOut (dpOut 0x24) outp { out0 with failedAt := some 0 }
theorem witness_DisplayPort :
    (Calm (dpOut 0x24) ∧ pinPorts (dpOut 0x24) 0 = [outp] ∧ (dpChoose (dpOut 0x24) outp).isSome = true ∧ (dpPinsOf (dpOut 0x24) 0).hpd = true ∧
      getProp (dpOut 0x24) outp pPortOutState = 4) ∧
    (∀ ok, (dpFound ok).success = ok ∧ (dpFound ok).panelReplay = false ∧ (dpChoose (dpSeen (dpOut 0x24)) outp).isSome = true) ∧
    (Calm (dpOut 0) ∧ pinPorts (dpOut 0) 0 = [outp] ∧ dpChoose (dpSeen (dpOut 0)) outp = none ∧ dpChoose (dpOut 0) outp = none) ∧
    (let s := setDpPins (dpOut 0x24) 0 dpPins0
     Calm s ∧ pinPorts s 0 = [outp] ∧ (dpPinsOf s 0).hpd = false) ∧
    (Calm dpFailed ∧ pinPorts dpFailed 0 = [outp] ∧ (outOf dpFailed outp).failedAt = some 0 ∧ getProp dpFailed outp pPortOutState = 4 ∧
      (dpChoose dpFailed outp).isSome = true ∧ 0 + 100 * msT ≤ (tickTo (100 * msT) dpFailed).now ∧ (tickTo 0 dpFailed).now < 0 + 100 * msT) := by
  refine ⟨⟨runs_calm ?_, ?_⟩, ?_, ⟨runs_calm ?_, ?_⟩, ⟨runs_calm ?_, ?_⟩, runs_calm ?_, ?_⟩ <;> decide +kernel

/-- An SDI port sends on lane 95. -/
def sending (x : LaneTx) : State := setLaneTx (setProps (outOfKind 1 2 live) outp pPortOutLanes 0 [95]) 95 x
theorem witness_LanesAreSpared :
    (∀ e ∈ [none, some 0], let s := sending { laneTx0 with lastEvt := e }
      Calm s ∧ laneSends s 95 = true ∧ sampleMisses s 95 3 8 [false] = 1 ∧ sampleMisses s 95 3 8 [true] = 0 ∧
      (laneTxOf s 95).lastEvt = e ∧ ¬((0 : Nat) < getPropN s sysObj pSystemRbThreshold ∧ getPropN s sysObj pSystemRbThreshold ≤ 0 + 1)) ∧
    (let s := sending { laneTx0 with lastEvt := some 0 }
     0 + msT ≤ (tickTo msT s).now ∧ (tickTo 0 s).now < 0 + msT) ∧
    (let s := sending { laneTx0 with hits := 7 }
     Calm s ∧ laneSends s 95 = true ∧ 7 < getPropN s sysObj pSystemRbThreshold ∧ getPropN s sysObj pSystemRbThreshold ≤ 7 + sampleMisses s 95 3 8 [false]) ∧
    (let s := sending laneTx0
     (laneTxOf s 95).sparing = none ∧ (∀ k : Nat, k < 96 → (laneTxOf s k).declared = none) ∧
     getProp s sysObj pSystemSpareAuto = 1 ∧ (freeCore s 95).isSome = true) ∧
    (let s := setProp (sending laneTx0) sysObj pSystemSpareAuto 0 0
     Calm s ∧ getProp s sysObj pSystemSpareAuto ≠ 1 ∧ (laneTxOf s 95).sparing = none) ∧
    (∀ cause ∈ [0, 1, 2], let s := sending { laneTx0 with sparing := some (103, cause) }
      Calm s ∧ (laneTxOf s 95).sparing = some (103, cause) ∧ workOf s 0 (coreOf s 95) = none ∧ portsOnLane s 95 = []) := by
  refine ⟨fun e h => ?_, ?_, ⟨runs_calm ?_, ?_⟩, ?_, ⟨runs_calm ?_, ?_⟩, by
    intro c h
    simp only [List.mem_cons, List.not_mem_nil, or_false] at h
    rcases h with rfl | rfl | rfl <;> exact ⟨runs_calm (by decide +kernel), by decide +kernel⟩⟩
  · simp only [List.mem_cons, List.not_mem_nil, or_false] at h
    rcases h with rfl | rfl <;> exact ⟨runs_calm (by decide +kernel), by decide +kernel⟩
  all_goals decide +kernel

/-- The SDI timing references of an active and of a blank line; the PsF line numbers; drop-frame counting: values of ST 292-1, ST 274
and ST 12-1. -/
theorem test_sdi_words : (trsWords false false true).getLastD 0 = 0x274 ∧ (trsWords false true true).getLastD 0 = 0x2D8 ∧
    (trsWords false true false).getLastD 0 = 0x2AC ∧ lineNumberWords 1 = [0x204, 0x200] ∧ activeOn true 1080 1125 1123 = some 1079 ∧
    activeOn false 1080 1125 42 = some 0 := by decide +kernel
theorem test_drop_frame : timeAddr (30000, 1001) 1800 = ⟨0, 1, 0, 2, true, false⟩ := by decide +kernel
theorem test_timecode_returns : let t : TimeAddr := ⟨23, 59, 58, 11, false, true⟩
    frameTimecode [⟨10, 0, false, 0x60, 0x60, ltcUdw t 24, true⟩] = some (timeWord t 24) := by decide +kernel
theorem test_descrambles : descrambleWords 0 (hdOf (onLane [0xD5, 0x12345678])) = ([0xD5, 0x12345678], (scramble 0 (wordsBits [0xD5, 0x12345678])).2) := by
  decide +kernel

/-! ### Audio -/

def tdm1 (st frames : Nat) (wasLost : Bool) (g : Option Ticks) : State :=
  setTdm (setProp running (audioPortObj 0) pAudioPortState 0 st) 0 { tdm0 with frames := frames, wasLost := wasLost, glitchAt := g }
theorem witness_Tdm :
    ∀ e ∈ [(1, 65, true, none), (1, 64, false, some 0), (2, 0, false, none), (3, 0, false, none), (4, 65, false, none)],
      let s := tdm1 e.1 e.2.1 e.2.2.1 e.2.2.2
      Calm s ∧ getProp s (audioPortObj 0) pAudioPortState = (e.1 : Int) ∧ (tdmOf s 0).frames = e.2.1 ∧ (tdmOf s 0).wasLost = e.2.2.1 ∧
      (tdmOf s 0).glitchAt = e.2.2.2 ∧ (∀ g, e.2.2.2 = some g → (tickTo 0 s).now < g + msT ∧ g + msT ≤ (tickTo msT s).now) := by
  intro e h
  simp only [List.mem_cons, List.not_mem_nil, or_false] at h
  rcases h with rfl | rfl | rfl | rfl | rfl <;> refine ⟨runs_calm (by decide +kernel), by decide +kernel, by decide +kernel,
    by decide +kernel, by decide +kernel, fun g hg => ?_⟩ <;> cases hg
  decide +kernel

/-- A port of 512 BCLK periods a frame with two edges 1 µs apart, the last `k` periods off its position. -/
def tdm2 (k : Nat) : State :=
  setTdm (setProp running (audioPortObj 0) pAudioPortState 0 2) 0 { tdm0 with edges := [usT, 0], gaps := [512], len := 512, since := k }
theorem witness_TdmEdges :
    Calm (tdm2 0) ∧ (tdmOf (tdm2 0) 0).len = 512 ∧ (tdmOf (tdm2 0) 0).edges ≠ [] ∧ (512 : Nat) ≠ 500 ∧
    (tdmOf (tdm2 0) 0).gaps.head? ≠ some 500 ∧ frameClockGone (tickTo (5 * usT - 1) (tdm2 0)) (tdmOf (tdm2 0) 0) = false ∧
    frameClockGone (tickTo (5 * usT) (tdm2 0)) (tdmOf (tdm2 0) 0) = true := by
  refine ⟨runs_calm (by decide +kernel), ?_⟩
  decide +kernel

/-- R276: an edge 500 periods after the last is off the position, one 512 after it agrees with it, and 12 later the old one stands. -/
theorem test_tdm_position :
    gridStep (tdmOf (tdm2 0) 0) 500 = ({ tdmOf (tdm2 0) 0 with gaps := [500, 512], since := 500 }, true) ∧
    (gridStep (tdmOf (tdm2 500) 0) 512).1.since = 0 ∧ (gridStep (tdmOf (tdm2 500) 0) 12).1.since = 0 ∧
    unmarked (tdmOf (tdm2 500) 0) 512 = [12] ∧ unmarked (tdmOf (tdm2 500) 0) 12 = [] ∧ unmarked (tdmOf (tdm2 0) 0) 1024 = [512] := by
  decide +kernel

def ch1 : ObjId := objId clsAudioCh 0
/-- An AUDIO_CH on destination 1023, without ASRC. -/
def channel (state : Nat) (p : AudioPath) (y : AudioDest) : State :=
  let s := setProp (setProp (newObj running clsAudioCh).2 ch1 pAudioChDest 0 1023) ch1 pAudioChAsrc 0 2
  setPath (setDest (setProp s ch1 pAudioChState 0 state) 1023 y) ch1 p
def change1 : AudioChange := ⟨0, some ch1, false, false, none, none, none, none, none⟩
theorem witness_AudioPaths :
    (∀ st ∈ [1, 4, 7], let s := channel st path0 dest0
      Calm s ∧ (∀ q ∈ objsOf s clsAudioCh, getProp s q pAudioChState ≠ 6) ∧ (∀ e ∈ s.ports, (portIn s (objId clsPortIn e.1)).held = []) ∧
        getProp s ch1 pAudioChState = (st : Int) ∧ ch1 ∈ s.objs ∧ audioDestOf s ch1 = 1023) ∧
    (let s := channel 1 { path0 with fifo := [5, 6] } { dest0 with playing := some ch1 }
     Calm s ∧ (destOf s 1023).change = none ∧ (destOf s 1023).playing = some ch1 ∧ (pathOf s ch1).under = false ∧
       (pathOf s ch1).fifo = 5 :: 6 :: [] ∧ asrcUsed s ch1 = false) ∧
    ((destOf running 1023).change = none ∧ (destOf running 1023).playing = none ∧ (destOf running 1023).tail = none) ∧
    (let s := channel 1 path0 { dest0 with playing := some ch1, change := some change1 }
     Calm s ∧ (destOf s 1023).change = some change1 ∧ change1.stopped = false ∧ (destOf s 1023).playing ≠ none ∧ change1.fadeOut = none ∧
       change1.incoming ≠ none ∧ change1.fadeIn = none ∧
       (let limit := change1.tc + getPropN s sysObj pSystemAudioZcTimeout * msT / max (destPeriod s 1023) 1 * max (destPeriod s 1023) 1
        (tickTo 0 s).now < limit ∧ limit ≤ (tickTo (10 * secT) s).now)) ∧
    (let s := channel 1 { path0 with fifo := [], starved := 4 } { dest0 with playing := some ch1 }
     Calm s ∧ ch1 ∈ s.objs ∧ audioDestOf s ch1 = 1023 ∧ (destOf s 1023).playing = some ch1 ∧ (pathOf s ch1).under = false ∧
       (pathOf s ch1).fifo = [] ∧ 4 ≤ (pathOf s ch1).starved ∧ (srcOf s (audioSrcOf s ch1)).lost = false) ∧
    (let s := channel 4 { path0 with under := true } dest0
     Calm s ∧ ch1 ∈ s.objs ∧ (pathOf s ch1).under = true ∧ pathNominal s ch1 ≤ (pathOf s ch1).fifo.length) := by
  refine ⟨fun e h => ?_, ⟨runs_calm ?_, ?_⟩, ?_, ⟨runs_calm ?_, ?_⟩, ⟨runs_calm ?_, ?_⟩, runs_calm ?_, ?_⟩
  · simp only [List.mem_cons, List.not_mem_nil, or_false] at h
    rcases h with rfl | rfl | rfl <;> exact ⟨runs_calm (by decide +kernel), by decide +kernel⟩
  all_goals decide +kernel

/-! ### Triggers and captures -/

def trigger1 : ObjId := objId clsTrigger 31
def trig (enable : Nat) : State :=
  setTrig (setProp (setProp running trigger1 pTriggerEnable 0 enable) trigger1 pTriggerFilter 0 7) 31 { trig0 with edge := some (0, true) }
def collecting : State := { ringed with rings := ringed.rings.map fun e => (e.1, { e.2 with cap := .collecting, collectEnd := some 5 }) }
theorem witness_Triggers :
    ((∀ o ∈ running.objs, objCls o ≠ clsTrigger) ∧ ∀ n, n < 32 → (trigOf running n).edge = none) ∧
    (∀ e ∈ [0, 1], Calm (trig e) ∧ (trigOf (trig e) 31).edge = some (0, true) ∧ (trigOf (trig e) 31).lastFired = none ∧ (trig e).rings = [] ∧
      getProp (trig e) trigger1 pTriggerEnable = (e : Int) ∧ 0 + getPropN (trig e) trigger1 pTriggerFilter * nsT ≤ (tickTo (7 * nsT) (trig e)).now ∧
      ∀ k, k < 32 → k ≠ 31 → acceptAt (trig e) k ≠ acceptAt (trig e) 31) ∧
    (Calm collecting ∧ ((ringOf collecting ring1).map fun r => (r.cap, r.collectEnd)) = some (.collecting, some 5) ∧ 5 ≤ (tickTo 5 collecting).now) ∧
    (Calm (withCap .frozen) ∧ ((ringOf (withCap .frozen) ring1).map fun r => (r.cap, r.cepra)) = some (.frozen, [])) := by
  refine ⟨?_, fun e h => ?_, ⟨runs_calm ?_, ?_⟩, runs_calm ?_, ?_⟩
  case refine_2 =>
    simp only [List.mem_cons, List.not_mem_nil, or_false] at h
    rcases h with rfl | rfl <;> exact ⟨runs_calm (by decide +kernel), by decide +kernel⟩
  all_goals decide +kernel

/-! ### References, timebase, cadence and RTC -/

def refIn (kind state : Nat) (x : RefRt) : State :=
  setRefRt (setProp (setProp running (refObj 16) pRefKind 0 kind) (refObj 16) pRefState 0 state) 16 x
theorem witness_References :
    (∀ k ∈ [1, 5, 6], let s := refIn k 1 ref0
      Calm s ∧ mapSorted s.props = true ∧ getPropN s (refObj 16) pRefKind = k ∧ getProp s (refObj 16) pRefEnable ≠ 0 ∧ qualified s = []) ∧
    (let s := refIn 1 2 { ref0 with since := some 0 }
     Calm s ∧ refState s 16 = 2 ∧ (refRt s 16).since = some 0 ∧
       (tickTo 0 s).now < 0 + getPropN s (refObj 16) pRefQualTime * secT ∧
       0 + getPropN s (refObj 16) pRefQualTime * secT ≤ (tickTo (getPropN s (refObj 16) pRefQualTime * secT) s).now ∧
       (0 : Int).natAbs ≤ getPropN s (refObj 16) pRefLimitPpm * 1000) ∧
    (Calm (refIn 1 3 ref0) ∧ qualified (refIn 1 3 ref0) = [16]) ∧
    (let x := { ref0 with ptp := { ref0.ptp with master := some (1, 2), pending := some 0 } }
     let s := setProp (portOf 3 2 (refIn 6 1 x)) (refObj 16) pRefPort 0 port1
     Calm s ∧ getPropN s (refObj 16) pRefKind = 6 ∧ getPropN s (refObj 16) pRefPtpDomain = 127 ∧ (refRt s 16).ptp.master ≠ none ∧
       (refRt s 16).ptp.pending = some 0 ∧ (refRt s 16).ptp.path = none ∧ ptpHears s (refObj 16) = true ∧ (refRt (refIn 6 1 ref0) 16).ptp.master = none) := by
  refine ⟨fun k h => ?_, ⟨runs_calm ?_, ?_⟩, ⟨runs_calm ?_, ?_⟩, runs_calm ?_, ?_⟩
  · simp only [List.mem_cons, List.not_mem_nil, or_false] at h
    rcases h with rfl | rfl | rfl <;> exact ⟨runs_calm (by decide +kernel), by decide +kernel⟩
  all_goals decide +kernel

def pulled (d : Int) (allow : Int) : State :=
  let s := setProp running sysObj pSystemTbStepAllow 0 allow
  { s with tb := { s.tb with pull := d } }
def disciplined (st : Int) (last : Option Ticks) : State :=
  let s := setProp (setProp (setProp running sysObj pSystemTbState 0 3) sysObj pSystemRefSelected 0 (refObj 0 : Nat)) (refObj 0) pRefKind 0 6
  let s := setProp s sysObj pSystemRtcState 0 st
  { s with tb := { s.tb with lastDisc := last, dwell := some 0 } }
theorem witness_Timebase :
    (let s := pulled 1 0
     Calm s ∧ mapSorted s.props = true ∧ s.tb.pull ≠ 0 ∧ tbRemaining (tickTo secT s) = 0) ∧
    (∀ a ∈ [0, 1, 2], let s := pulled (2 * secT) a
      Calm s ∧ getProp s sysObj pSystemTbStepAllow = a ∧ headsBusy s = false ∧
      decide (getPropN s sysObj pSystemTbStepThreshold * nsT < (tbRemaining (tickTo 0 s)).natAbs) = true) ∧
    (let s := disciplined 2 (some 0)
     Calm s ∧ s.tb.dwell = some 0 ∧ getProp s sysObj pSystemRefSelected ≠ 0 ∧ lastStage s = false ∧
       0 + (stageLimit (getPropN s sysObj pSystemDpllStage)).2 ≤ (tickTo (10 * secT) s).now ∧ getProp s sysObj pSystemTbState = 3 ∧
       rtcSource s = true ∧ 0 + 64 * secT ≤ (tickTo (64 * secT) s).now ∧ getProp s sysObj pSystemRtcState = 2 ∧
       0 + 86400 * secT ≤ (tickTo (86400 * secT) s).now ∧ (tickTo 0 s).now < 0 + 86400 * secT) ∧
    (Calm running ∧ running.tb.gloved = none) := by
  refine ⟨⟨runs_calm ?_, ?_⟩, fun a h => ?_, ⟨runs_calm ?_, ?_⟩, runs_calm ?_, ?_⟩
  case refine_3 =>
    simp only [List.mem_cons, List.not_mem_nil, or_false] at h
    rcases h with rfl | rfl | rfl <;> exact ⟨runs_calm (by decide +kernel), by decide +kernel⟩
  all_goals decide +kernel

/-! ### The Hinge Link -/

/-- A message of a type, with its check. -/
def hlMsg (typ ack seq : Nat) (payload : List Nat) : List Word :=
  let b := (payload.length * 65536 + typ * 256 + 0xA7) :: (ack * 65536 + seq) :: payload
  (b ++ [crc32c (wordBytes b)]).map (BitVec.ofNat 32)
/-- Link `n` in a state of Table 15.4, this device in a state of Table 15.1. -/
def linked (n st dom : Nat) (h : HlLink) : State :=
  setHl (setProp (setProp running sysObj pSystemHlState n st) sysObj pSystemHlDomain 3 dom) n h
/-- What `hlTake` finds: 0 nothing to do, 1 a message. -/
def takes (s : State) (n typ : Nat) (sequenced : Bool) (m : List Word) : Bool := (hlTake (tickTo 0 s) n typ sequenced (wordsOf m)).isRight
def took (s : State) (n typ : Nat) (sequenced : Bool) (m : List Word) : State :=
  match hlTake (tickTo 0 s) n typ sequenced (wordsOf m) with | .inr x => x.2 | .inl x => x
theorem witness_HingeLinkMessages :
    (∀ q ∈ [0, 1, 32767, 32768, 65535], let m := hlMsg 0x20 0 q [1, 0, 0]
      let s := linked 4 3 0 hl0
      let ws := wordsOf m
      let len := bitsOf (atD ws 0 0) 31 16
      Calm s ∧ 2 ≤ hlState s 4 ∧ bitsOf (atD ws 0 0) 7 0 = 0xA7 ∧
      decide (len ≤ 252 ∧ ws.length = len + 3 ∧ atD ws (len + 2) 0 = crc32c (wordBytes (ws.take (len + 2))) ∧
        bitsOf (atD ws 0 0) 15 8 ∈ [0x01, 0x02, 0x10, 0x11, 0x12, 0x20, 0x21, 0x22, 0x30, 0x31, 0x32, 0x33]) = true ∧
      bitsOf (atD ws 0 0) 15 8 = 0x20 ∧ hlState s 4 = 3 ∧ (bitsOf (atD ws 1 0) 15 0 + 65536 - (hlOf s 4).rxSeq) % 65536 = q) ∧
    (let ws := wordsOf ((hlMsg 0x20 0 0 [1, 0, 0]).set 5 0)
     bitsOf (atD ws 0 0) 7 0 = 0xA7 ∧ atD ws 5 0 ≠ crc32c (wordBytes (ws.take 5))) := by
  refine ⟨fun q h => ?_, ?_⟩
  · simp only [List.mem_cons, List.not_mem_nil, or_false] at h
    rcases h with rfl | rfl | rfl | rfl | rfl <;> exact ⟨runs_calm (by decide +kernel), by decide +kernel⟩
  · decide +kernel

def sent1 : HlSent := ⟨0, 0x20, [1], some 0, 5, 0⟩
theorem witness_HingeLinks :
    (∀ f ∈ [0, 1], let m := hlMsg 0x01 0 0 [f]
      let s := linked 4 2 0 hl0
      Calm s ∧ takes s 4 0x01 false m = true ∧ hlState (took s 4 0x01 false m) 4 = 2 ∧ bitsOf (atD (wordsOf m) 2 0) 0 0 = f) ∧
    (let s := linked 4 3 0 { hl0 with window := [sent1] }
     Calm s ∧ takes s 4 0x02 false (hlMsg 0x02 0 0 [0]) = true ∧ hlState (took s 4 0x02 false (hlMsg 0x02 0 0 [0])) 4 = 3 ∧
       (hlOf s 4).window = sent1 :: [] ∧ hlState s 4 = 3 ∧ sent1.sentAt + 4 * usT ≤ (tickTo (4 * usT) s).now ∧
       (tickTo 0 s).now < sent1.sentAt + 4 * usT ∧ (hlOf s 4).lastValid + 10 * usT ≤ (tickTo (10 * usT) s).now ∧
       (hlOf s 4).window.any (fun x => match x.firstRetry with
         | some r => decide (r + x.budget ≤ (tickTo 5 s).now) | none => false) = true ∧
       mapSorted s.props = true ∧ actsAsRoot s = true) ∧
    (let s := linked 0 3 2 { hl0 with waitSince := some 0 }
     Calm s ∧ domainState s = 2 ∧ (hlOf s 0).waitSince = some 0 ∧ 0 + secT ≤ (tickTo secT s).now ∧ (tickTo 0 s).now < 0 + secT) ∧
    (let s := linked 0 3 1 { hl0 with t1 := some 0, reqNo := 6 }
     Calm s ∧ takes s 0 0x10 false (hlMsg 0x10 0 0 [0, 0, 0, 0, 1]) = true ∧ (hlOf (took s 0 0x10 false (hlMsg 0x10 0 0 [0, 0, 0, 0, 1])) 0).delay = none ∧
       takes s 0 0x12 false (hlMsg 0x12 0 0 [6, 0, 0, 0, 0]) = true ∧ (hlOf (took s 0 0x12 false (hlMsg 0x12 0 0 [6, 0, 0, 0, 0])) 0).t1 = some 0 ∧
       (hlOf s 0).reqNo = 6 ∧ hlState s 0 = 3) ∧
    (takes (linked 4 3 0 hl0) 4 0x11 false (hlMsg 0x11 0 0 [6]) = true ∧ hlState (took (linked 4 3 0 hl0) 4 0x11 false (hlMsg 0x11 0 0 [6])) 4 = 3) := by
  refine ⟨fun f h => ?_, ⟨runs_calm ?_, ?_⟩, ⟨runs_calm ?_, ?_⟩, ⟨runs_calm ?_, ?_⟩, ?_⟩
  · simp only [List.mem_cons, List.not_mem_nil, or_false] at h
    rcases h with rfl | rfl <;> exact ⟨runs_calm (by decide +kernel), by decide +kernel⟩
  all_goals decide +kernel

theorem witness_DevicesJoin :
    (∀ d ∈ [0, 1], let m := hlMsg 0x20 0 0 [1, 0, 0x80000003]
      Calm (linked 4 3 d hl0) ∧ takes (linked 4 3 d hl0) 4 0x20 true m = true ∧ domainState (took (linked 4 3 d hl0) 4 0x20 true m) = d ∧
      bitOf (atD (wordsOf m) 4 0) 31 = true) ∧
    (let s := setProp running sysObj pSystemHlMap 511 8
     numberTaken s 1 511 = true ∧ numberTaken s 1 510 = false) ∧
    (∀ frag ∈ [0, 0x8000], let s := linked 0 3 1 hl0
      let m := hlMsg 0x22 0 0 [frag, 0x00800008]
      let v := took s 0 0x22 true m
      Calm s ∧ takes s 0 0x22 true m = true ∧ domainState v = 1 ∧ downLinks v = [] ∧
      (collect v 0 0x22 0 [] frag [0x00800008]).1.isSome = (frag != 0)) := by
  refine ⟨fun d h => ?_, ?_, fun d h => ?_⟩
  case refine_2 => decide +kernel
  all_goals
    simp only [List.mem_cons, List.not_mem_nil, or_false] at h
    rcases h with rfl | rfl <;> exact ⟨runs_calm (by decide +kernel), by decide +kernel⟩

/-- The first ten words of a group message. -/
def groupHead (gid frag : Nat) : List Nat := [gid, 0, 0, 9, 0, 0, 0, 0, 0, frag]
theorem witness_Groups :
    (∀ e ∈ [(1, 0), (0, 0), (0, 0x8000)], let s := linked 4 3 e.1 hl0
      let m := hlMsg 0x30 0 0 (groupHead 0x10001 e.2 ++ [0x07000000, 1])
      Calm s ∧ takes s 4 0x30 true m = true ∧ domainState (took s 4 0x30 true m) = e.1 ∧
      (collect (took s 4 0x30 true m) 4 0x30 0x10001 [] e.2 [0x07000000, 1]).1.isSome = (e.2 != 0)) ∧
    (∀ f ∈ [0, 0x8000], let s := linked 0 3 1 hl0
      let m := hlMsg 0x31 0 0 (groupHead 0x10001 f ++ [0x07000000, 0])
      let v := took s 0 0x31 true m
      Calm s ∧ takes s 0 0x31 true m = true ∧ domainState v ≠ 2 ∧ downLinks v = [] ∧ v.hif.handover = false ∧ groupOf v 0x10001 = none ∧
      (collect v 0 0x31 0x10001 [] f [0x07000000, 0]).1.isSome = (f != 0)) ∧
    (∀ g ∈ [0x10001, 0x00001], let s := linked 4 3 0 hl0
      let m := hlMsg 0x32 0 0 [g, 0x8000, 0x07000000, 0, 4, 9]
      let v := took s 4 0x32 true m
      Calm s ∧ takes s 4 0x32 true m = true ∧ domainState v ≠ 2 ∧ groupOf v g = none ∧ ownNumber v = 0 ∧ (wordsOf m).length = 9) ∧
    (∀ d ∈ [0, 1], let s := linked 4 3 d hl0
      Calm s ∧ takes s 4 0x33 true (hlMsg 0x33 0 0 [0x10001]) = true ∧ domainState (took s 4 0x33 true (hlMsg 0x33 0 0 [0x10001])) = d) := by
  refine ⟨fun d h => ?_, fun d h => ?_, fun d h => ?_, fun d h => ?_⟩
  case refine_1 =>
    simp only [List.mem_cons, List.not_mem_nil, or_false] at h
    rcases h with rfl | rfl | rfl <;> exact ⟨runs_calm (by decide +kernel), by decide +kernel⟩
  all_goals
    simp only [List.mem_cons, List.not_mem_nil, or_false] at h
    rcases h with rfl | rfl <;> exact ⟨runs_calm (by decide +kernel), by decide +kernel⟩

/-! ### The frame store -/

def fsReq (write : Bool) : FsRequest := ⟨7, write, 4095, [9], 0, 0, 100, 0, false⟩
def fsOp (write : Bool) : FsOp := ⟨fsReq write, 0, 0, 0⟩
def queued (x : PcRt) : State := setPcRt running 0 x
theorem witness_FrameStore :
    (Calm (setFsState running 0 2) ∧ fsFrozen (setFsState running 0 2) 0 = true) ∧
    (∀ wr, let s := queued { pcRt0 with reads := [fsOp wr] }
      Calm s ∧ fsFrozen s 0 = false ∧ (pcRt s 0).stalled = [] ∧ chooseOp (tickTo 0 s) (pcRt s 0) = some (fsOp wr)) ∧
    (Calm running ∧ fsFrozen running 0 = false ∧ pcRt running 0 = pcRt0 ∧ (fsDecode running (fsReq true).addr).pc = 0 ∧
      lpcDead running (fsDecode running (fsReq true).addr).lpc = false ∧
      (fsReq true).addr < 144955146240 ∧ portStalled running 0 (fsReq true).port none = false ∧ fsState running 0 ≤ 1 ∧
      bitOf (getPropN running sysObj pSystemFsHot) 3 = false ∧ bitOf (getPropN (setProp running sysObj pSystemFsHot 0 8) sysObj pSystemFsHot) 3 = true) ∧
    (let s := queued { pcRt0 with dead := [9], failing := [fsOp false], fails := 2, trained := some 0 }
     Calm s ∧ (pcRt s 0).dead.contains 9 = true ∧ (pcRt s 0).dead.contains 7 = false ∧ opByTag (pcRt s 0) 7 = some (fsOp false) ∧
       (pcRt s 0).fails < 3 ∧ (pcRt s 0).failing.find? (fun q => q.req.tag == 7) = some (fsOp false) ∧
       (tickTo 24 s).now < (fsOp false).arrived + ((fsOp false).req.deadline - (fsOp false).req.issue) / 4 ∧
       (fsOp false).arrived + ((fsOp false).req.deadline - (fsOp false).req.issue) / 4 ≤ (tickTo 25 s).now ∧
       (tickTo 0 s).now < 0 + 2 * msT) := by
  refine ⟨⟨runs_calm ?_, ?_⟩, ?_, ⟨runs_calm ?_, ?_⟩, runs_calm ?_, ?_⟩
  case refine_3 => intro wr; cases wr <;> exact ⟨runs_calm (by decide +kernel), by decide +kernel⟩
  all_goals decide +kernel

def moving (v : FsMove) : State := { setFsState (setFsState ringed 0 2) 30 1 with fsMoves := [v] }
theorem witness_FailingChannels :
    (let s := queued { pcRt0 with failing := [fsOp false], fails := 3 }
     servedB s = true ∧ s.fsMoves = [] ∧ fsState s 0 = 0 ∧ lpcOf s 0 = some 0 ∧ (pcRt s 0).dead.contains 7 = false ∧
       opByTag (pcRt s 0) 7 = some (fsOp false) ∧ 3 ≤ (pcRt s 0).fails ∧ mapSorted s.props = true ∧ s.snaps.length < 8) ∧
    (∀ v ∈ [(⟨0, 0, some 30, false, false, false, 1, true⟩ : FsMove), ⟨0, 0, some 30, true, false, true, 1, true⟩, ⟨0, 0, some 30, false, true, false, 0, false⟩],
      let s := moving v
      servedB s = true ∧ s.waiting = [] ∧ s.delayLines = [] ∧ noFrees s = true ∧ mapSorted s.props = true ∧ s.fsMoves = [v] ∧ v.old = 0 ∧
      v.lpc < 120 ∧ v.spare = some 30 ∧ fsState s 30 = 1 ∧ s.hif.brace = false ∧ 30 ≠ v.old) ∧
    (∃ e ∈ (moving ⟨0, 0, some 30, false, false, false, 1, true⟩).surfs,
      surfInPc (moving ⟨0, 0, some 30, false, false, false, 1, true⟩) e.2 ((e.2.base / 4096 % 120 - e.2.base / 4096 % 4) / 4) = true) := by
  refine ⟨by decide +kernel, by decide +kernel, ?_⟩
  exact ⟨_, List.head_mem (l := (moving ⟨0, 0, some 30, false, false, false, 1, true⟩).surfs) (by decide +kernel), by decide +kernel⟩

/-! ### The control complex, boot and the keyring -/

def withCc (f : Ctl → Ctl) : State := setCc running f
def withKeys (f : Keyring → Keyring) : State := setKeys running f
def withPower (f : Power → Power) : State := setPower running f
def underWay : Handover := ⟨0, true, some (3, 0), 1⟩
theorem witness_Pairs :
    (awake running = true ∧ stillB running = true ∧ servedB running = true ∧ running.power.handover = none ∧
      (running.cc.aFault || running.cc.haltedA) = false ∧ (running.cc.bFault || running.cc.bHold || running.cc.haltedB) = false ∧
      running.cc.recovering = none ∧ running.cc.faults = []) ∧
    (let s := withCc fun c => { c with wdtEn := true }
     awake s = true ∧ stillB s = true ∧ firmwareRuns s = true ∧ s.cc.wdtEn = true ∧ s.power.handover = none ∧
       (s.cc.bFault = false ∧ s.cc.bHold = false ∧ s.cc.haltedB = false) ∧ s.cc.aFault = false ∧ s.cc.haltedA = false) ∧
    (let s := { (withKeys fun k => { k with unlocked := true }) with cc := { running.cc with haltedA := true } }
     awake s = true ∧ stillB s = true ∧ firmwareRuns s = true ∧ s.keys.unlocked = true ∧ s.cc.haltedA = true) ∧
    (∀ k ∈ [(3, (3599 : Nat), 4), (3, 3600, 1), (2, 0, 3)], let s := withCc fun c => { c with faults := List.replicate k.1 0 }
      awake s = true ∧ stillB s = true ∧ firmwareRuns s = true ∧
      ((tickTo (k.2.1 * secT) s).now :: s.cc.faults.filter fun f => decide ((tickTo (k.2.1 * secT) s).now < f + 3600 * secT)).length = k.2.2) ∧
    (∀ b, let s := withCc fun c => { c with recovering := some (b, .watchdog) }
      awake s = true ∧ stillB s = true ∧ firmwareRuns s = true ∧ s.cc.recovering = some (b, .watchdog) ∧ s.flights = [] ∧ s.groups = []) ∧
    (let s := withCc fun c => { c with stage := 3 }
     awake s = true ∧ stillB s = true ∧ s.cc.stage ≠ 4 ∧ s.cc.stopped = false ∧ s.cc.booted = true) ∧
    (∀ b, let s := withKeys fun k => { k with unlocked := b }
      awake s = true ∧ stillB s = true ∧ s.keys.unlocked = b) ∧
    (let s := withPower fun p => { p with handover := some underWay }
     awake s = true ∧ stillB s = true ∧ servedB s = true ∧ s.power.handover = some underWay ∧ s.groups = [] ∧ s.cc.recovering = none ∧
       underWay.begun + 45 * msT ≤ (tickTo (45 * msT) s).now ∧ (tickTo (45 * msT - 1) s).now < underWay.begun + 45 * msT) := by
  decide +kernel

theorem witness_ControlRegisters :
    (Calm running ∧ running.cc.booted = true ∧ running.cc.aFault = false ∧ running.keys.unlocked = false ∧ running.cc.matrix = [] ∧
      .pairA ∉ running.cc.draining ∧ .service ∉ running.cc.draining) ∧
    (let s := setCc running fun c => { c with draining := [.pairA] }
     Calm s ∧ s.cc.matrix = [] ∧ .pairA ∈ s.cc.draining) ∧
    (Calm (withKeys fun k => { k with unlocked := true }) ∧ (withKeys fun k => { k with unlocked := true }).keys.unlocked = true) ∧
    (0xFFFFFFC + 4 ≤ 0x10000000 ∧ 0x7FFF00 + 256 ≤ 0x800000 ∧ (List.replicate 256 (1 : Byte)).length = 256) := by
  refine ⟨⟨runs_calm ?_, ?_⟩, ⟨runs_calm ?_, ?_⟩, ⟨runs_calm ?_, ?_⟩, ?_⟩ <;> decide +kernel

/-- A device in reset whose flash holds bytes that are no image, in slot A. -/
def badFlash : State := setCc State.reset fun c => { c with flash := [(0x100000, 1)] }
def pushR := asks 0x70 1 sysObj 0 0 (toLe 8 0x1000 ++ toLe 4 2048 ++ toLe 4 5)
/-- The ROM waits for a push, which stands at the head of mailbox 0. -/
def pushing : State :=
  let s := withCc fun c => { c with stage := 1, pushWait := true }
  setMb { s with bar0 := memWrite s.bar0 (reqSlotAddr 0 0) pushR.slot } 0 { mbOf s 0 with reqTail := 1 }
theorem witness_DevicesBoot :
    (State.reset.power.tripped = false ∧ State.reset.power.mode = 0 ∧ State.reset.cc.booted = false ∧
      flashBlank State.reset.cc.flash = true) ∧
    (let check (slot : Nat) := verifyImage badFlash (imageAt badFlash.cc.flash slot).1 (imageAt badFlash.cc.flash slot).2
     badFlash.power.tripped = false ∧ badFlash.power.mode = 0 ∧ badFlash.cc.booted = false ∧ flashBlank badFlash.cc.flash = false ∧
       check (preferredSlot badFlash.cc.flash) = .inl 2 ∧ check (1 - preferredSlot badFlash.cc.flash) = .inl 2) ∧
    (awake pushing = true ∧ pushing.cc.pushWait = true ∧ (headRequest (tickTo 0 pushing) 0).isSome = true ∧
      (∀ r, headRequest (tickTo 0 pushing) 0 = some r → reqOpcode r = 0x70 ∧ reqIndirect r = true ∧ reqObj r = sysObj) ∧
      verifyImage pushing (padTo 1024 []) [] = .inl 2) := by
  refine ⟨?_, ?_, ?_, ?_, ?_, ?_, ?_⟩
  case refine_6 =>
    intro r h
    have e : headRequest (tickTo 0 pushing) 0 = some ⟨0, 0, pushR.slot, 0, 0, false⟩ := by decide +kernel
    cases e.symm.trans h
    decide +kernel
  all_goals decide +kernel

theorem witness_Keyring :
    (∀ d ∈ [0, 1], let s := withKeys fun k => { k with slots := [(31, { slotOf running 31 with due := d })] }
      Calm s ∧ mapSorted s.props = true ∧ decide ((slotOf s (31 : Fin 32).val).due ≤ (tickTo 0 s).now) = (d == 0)) ∧
    (Calm running ∧ mapSorted running.props = true ∧ running.keys.degraded = false ∧ getPropN running sysObj pSystemKeyringState ≤ 1 ∧
      running.hif.brace = false) ∧
    (∀ n ∈ [1022, 1023], let s := withKeys fun k => { k with degraded := true, passes := n }
      Calm s ∧ mapSorted s.props = true ∧ s.keys.degraded = true ∧ getPropN s sysObj pSystemKeyringState ≤ 1 ∧ s.keys.passes = n) ∧
    (let s := { running with hif := { running.hif with brace := true } }
     Calm s ∧ mapSorted s.props = true ∧ s.hif.brace = true) ∧
    (let f := flightWith .long .reenrol reenrolR
     let s := flying f (withKeys fun k => { k with reenrolling := true })
     Calm s ∧ mapSorted s.props = true ∧ s.keys.reenrolling = true ∧ s.hif.brace = false ∧
       s.flights.find? (fun g => decide (g.waits = .reenrol)) = some f) := by
  refine ⟨fun d h => ?_, ⟨runs_calm ?_, ?_⟩, fun d h => ?_, ⟨runs_calm ?_, ?_⟩, runs_calm ?_, ?_⟩
  case refine_1 | refine_4 =>
    simp only [List.mem_cons, List.not_mem_nil, or_false] at h
    rcases h with rfl | rfl <;> exact ⟨runs_calm (by decide +kernel), by decide +kernel⟩
  all_goals decide +kernel

/-! ### Illumination -/

/-- Chain 7 with one driver and a cadence as its source, in another hidden state. -/
def chained (x : ChainRt) : State :=
  let s := setProp (setProp running (chainObj 7) pChainSource 0 (objId clsCadence 0 : Nat)) (chainObj 7) pChainState 0 1
  setChainRt (setProp (setProp s (chainObj 7) pChainDrivers 0 1) (objId clsCadence 0) pCadenceRate 0 240) 7 x
/-- Zeros leave the CRC-8 register at 0. -/
theorem crc8_zeros (n : Nat) : (List.replicate n (0 : Byte)).foldl crc8Byte 0#8 = 0#8 := by
  induction n with
  | zero => rfl
  | succ n ih =>
    have h : crc8Byte 0#8 0 = 0#8 := by decide
    rw [List.replicate_succ, List.foldl_cons, h, ih]
/-- A status header whose first three bytes leave the register at 0, so that its CRC is 0. -/
def goodHead : Nat := 0x40C00000 + crc8 [0x40, 0xC0] * 256
def goodStatus : List Word := BitVec.ofNat 32 goodHead :: List.replicate 24 0
theorem good_crc : chainCrc goodHead (List.replicate 24 0) = 0 := by
  have e : (List.replicate 24 0).flatMap wordBe = List.replicate 96 0 := by decide +kernel
  have e' : ((wordBe goodHead).take 3).foldl crc8Byte 0#8 = 0#8 := by decide +kernel
  rw [chainCrc, crc8, List.foldl_append, e, e', crc8_zeros]
  rfl
theorem good_status : statusOk (goodStatus.map (·.toNat)) = true := by
  have e : goodStatus.map (·.toNat) = goodHead :: List.replicate 24 0 := by decide +kernel
  have e' : atD (goodHead :: List.replicate 24 0) 0 0 = goodHead := rfl
  rw [e, statusOk, e', List.drop_succ_cons, List.drop_zero, good_crc]
  decide +kernel
theorem witness_Chains :
    (let s := chained { chainRt0 with srcCount := latchEvery (chained chainRt0) 7 }
     Calm s ∧ mapSorted s.props = true ∧ latchDue (tickTo 0 s) (7 : Fin 8).val = true ∧ latchHeld (tickTo 0 s) (7 : Fin 8).val = false) ∧
    (let s := chained { chainRt0 with srcCount := latchEvery (chained chainRt0) 7, resumeAt := some 1 }
     Calm s ∧ mapSorted s.props = true ∧ latchDue (tickTo 0 s) (7 : Fin 8).val = true ∧ latchHeld (tickTo 0 s) (7 : Fin 8).val = true) ∧
    (Calm running ∧ latchDue (tickTo 0 running) 7 = false ∧ (chainRt running 7).shiftFrom = none) ∧
    (∀ n ∈ [25, 24], let s := chained { chainRt0 with shiftFrom := some 0, counting := true }
      Calm s ∧ mapSorted s.props = true ∧ (chainRt s 7).shiftFrom = some 0 ∧ (chainRt s 7).counting = true ∧
      (min 64 ((List.replicate n (0 : Word)).length / 25) = getPropN s (chainObj 7) pChainDrivers ↔ n = 25)) ∧
    (let s := chained { chainRt0 with shiftFrom := some 0 }
     Calm s ∧ mapSorted s.props = true ∧ (chainRt s 7).shiftFrom = some 0 ∧ (chainRt s 7).counting = false ∧
       getPropN s (chainObj 7) pChainDrivers = 1 ∧ goodStatus.length = 25 ∧
       bitOf (atD goodStatus 0 0).toNat 23 = true ∧ (List.replicate 25 (0 : Word)).length = 25 ∧
       statusOk ((List.replicate 25 (0 : Word)).map (·.toNat)) = false) ∧
    (let s := chained { chainRt0 with pulsed := true }
     Calm s ∧ mapSorted s.props = true ∧ (chainRt s 7).pulsed = true) ∧
    (let s := setProp (portOf 1 2 (chained { chainRt0 with lastLatch := some 0, gaps := [0, 9], latched := [[23 * 2 ^ 18]] }))
        (chainObj 7) pChainExposurePort 0 port1
     Calm s ∧ mapSorted s.props = true ∧ (chainRt s 7).pulsed = false ∧ s.hif.brace = false ∧ getProp s (chainObj 7) pChainState = 1 ∧
       diagLamps s 7 ≠ [] ∧ (chainRt s 7).lastLatch = some 0 ∧ exposureRuns s 7 = true ∧
       (chainRt s 7).gaps.any (fun g => decide (0 ≤ g ∧ g ≤ (tickTo 0 s).now)) = true) ∧
    (∀ b ∈ [0, 1], let s := setStrobeRt running 7 { strobeRt running 7 with plan := [(b, 9)] }
      Calm s ∧ mapSorted s.props = true ∧ (strobeRt s 7).plan = (b, 9) :: [] ∧ decide (b ≤ (tickTo 0 s).now) = (b == 0)) := by
  refine ⟨⟨runs_calm ?_, ?_⟩, ⟨runs_calm ?_, ?_⟩, ⟨runs_calm ?_, ?_⟩, ?_, ⟨runs_calm ?_, ?_⟩, ⟨runs_calm ?_, ?_⟩, ⟨runs_calm ?_, ?_⟩, ?_⟩
  case refine_7 | refine_14 =>
    intro n h
    simp only [List.mem_cons, List.not_mem_nil, or_false] at h
    rcases h with rfl | rfl <;> exact ⟨runs_calm (by decide +kernel), by decide +kernel⟩
  all_goals decide +kernel

/-! ### Power and repair -/

theorem witness_Power :
    (∀ m ∈ [0, 1, 2], let s := withPower fun p => { p with mode := m, resetAt := some 5 }
      mapSorted s.props = true ∧ s.power.inReset = false ∧ s.power.tripped = false ∧ s.power.braceAt = none ∧ s.works = [] ∧ s.stored = [] ∧
      s.power.mode = m ∧ s.power.resetAt = some 5 ∧ (m = 0 → 5 ≤ (tickTo 5 s).now)) ∧
    (∀ e ∈ [1, 2, 3], let s := withPower fun p => { p with entry := some (e, 5) }
      Calm s ∧ mapSorted s.props = true ∧ s.power.entry = some (e, 5) ∧ s.hif.handover = false ∧ s.cc.recovering = none ∧
      (tickTo 4 s).now < 5 ∧ 5 ≤ (tickTo 5 s).now ∧ s.hif.brace = false) ∧
    (Still running ∧ running.power.mode ≠ 3 ∧ wakes (tickTo 0 running) .perstRelease = false) ∧
    (let s := setProp (withPower fun p => { p with mode := 1 }) sysObj pSystemWakeSources 0 15
     mapSorted s.props = true ∧ Still s ∧ wakes (tickTo 0 s) .wakeN = true ∧ wakes (tickTo 0 s) .doorbell = true ∧ s.power.mode = 1 ∧
       s.power.resume = [] ∧ s.heads = [] ∧ s.objs = [] ∧ (∀ h, h < 24 → getProp s (headObj h) pHeadRun = 0) ∧
       (∀ h, h < 24 → getProp s (headObj h) pHeadRasterState = 0)) ∧
    (let s := setProp (setCc (withPower fun p => { p with mode := 2 }) fun c => { c with mode := 1 }) sysObj pSystemWakeSources 0 15
     mapSorted s.props = true ∧ wakes (tickTo 0 s) .perstRelease = true ∧ s.power.mode = 2 ∧ s.cc.mode = 1) ∧
    (Calm running ∧ running.power.braceAt = none) ∧
    (let s := withPower fun p => { p with braceAt := some 0 }
     Calm s ∧ s.power.braceAt = some 0) ∧
    (let s := withPower fun p => { p with braceAt := some 0 }
     let c := { commit1 with held := true }
     (headRt (sealedOn c s) 0).commits.any (fun c => c.held) = true) := by
  refine ⟨by decide +kernel, fun e h => ?_, ⟨still_of ?_, ?_⟩, ⟨?_, still_of ?_, ?_⟩, ?_, ⟨runs_calm ?_, ?_⟩, ⟨runs_calm ?_, ?_⟩, ?_⟩
  case refine_1 =>
    simp only [List.mem_cons, List.not_mem_nil, or_false] at h
    rcases h with rfl | rfl | rfl <;> exact ⟨runs_calm (by decide +kernel), by decide +kernel⟩
  all_goals decide +kernel

def worked (k : UnitWork) : State := setKindRole (putWork running k) k.kind k.index 2
/-- Every spare of a kind retired, so that none is free. -/
def spareless (s : State) (kind : Nat) : State :=
  ((spareChoices kind 0).filter (· != 0)).foldl (fun s n => setKindRole s kind n 3) s
theorem witness_Faulty :
    (∀ e ∈ [(2, 0, 0), (6, 71, 1), (5, 0, 0)], let s := running
      Calm s ∧ mapSorted s.props = true ∧ 2 ≤ e.1 ∧ e.2.1 < unitCount e.1 ∧ s.works = [] ∧ kindRole s e.1 e.2.1 = e.2.2) ∧
    (let s := setKindRole running 2 33 3
     Calm s ∧ mapSorted s.props = true ∧ 33 < unitCount 2 ∧ s.works = [] ∧ 2 ≤ kindRole s 2 33) ∧
    (fsState running 0 = 0 ∧ lpcOf running 0 ≠ none ∧ fsState running 127 = 1 ∧ running.fsMoves = []) ∧
    (∀ kind ∈ [2, 5], let k : UnitWork := ⟨kind, 0, none, false, false, none, 0, 0, none⟩
      Calm (worked k) ∧ mapSorted (worked k).props = true ∧ workOf (worked k) kind 0 = some k ∧ k.spare = none ∧ k.test = false ∧
      firstFaults (worked k) kind 0 = [] ∧ (freeSpare (worked k) kind 0).isSome = true ∧ freeSpare (spareless (worked k) kind) kind 0 = none) ∧
    (running.places = [] ∧ running.works = [] ∧ unitRole running (unitIdx 6 (0 : Fin 64).val) = 0 ∧ portsOfEngine running 6 (unitIdx 6 0) = [] ∧
      (freeSpare (unitFault (tickTo 0 running) 6 0 3) 6 0).isSome = true ∧
      (let s := spareless running 6
       Calm s ∧ s.places = [] ∧ s.works = [] ∧ unitRole s (unitIdx 6 0) = 0 ∧ portsOfEngine s 6 (unitIdx 6 0) = [] ∧
       freeSpare (unitFault (tickTo 0 s) 6 0 3) 6 0 = none)) ∧
    (let k : UnitWork := ⟨4, 25, none, false, true, none, 0, 0, none⟩
     Calm (worked k) ∧ mapSorted (worked k).props = true ∧ 25 < unitCount 4 ∧ kindRole (worked k) 4 25 = 2 ∧
       workOf (worked k) 4 25 = some k ∧ k.test = true ∧ k.req = none) ∧
    (let s := setProp (setProp running sysObj pSystemAgeLimit 0 65535) sysObj pSystemRepairAuto 0 1
     Calm s ∧ mapSorted s.props = true ∧ getPropN s sysObj pSystemAgeing (39 : Fin 40).val < getPropN s sysObj pSystemAgeLimit ∧
       getPropN s sysObj pSystemAgeLimit ≤ min 70000 65535 ∧ min 65534 65535 < getPropN s sysObj pSystemAgeLimit ∧
       getProp s sysObj pSystemRepairAuto = 1 ∧ s.hif.brace = false ∧ fsState s 0 = 0 ∧ lpcOf s 0 = some 0 ∧
       (sparePc s 0).isSome = true ∧ unitBusy s 1 0 = false ∧ (planLane (tickTo 0 s) 0 none).isSome = true) ∧
    ((List.replicate 40 (124 : Int)).all (fun v => decide (v < 125)) = true ∧
      ((List.replicate 39 (124 : Int) ++ [125]).take 40).any (fun v => decide (125 ≤ v)) = true) := by
  refine ⟨fun e h => ?_, ⟨runs_calm ?_, ?_⟩, ?_, fun k h => ?_, ?_, ⟨runs_calm ?_, ?_⟩, ⟨runs_calm ?_, ?_⟩, ?_⟩
  case refine_1 =>
    simp only [List.mem_cons, List.not_mem_nil, or_false] at h
    rcases h with rfl | rfl | rfl <;> exact ⟨runs_calm (by decide +kernel), by decide +kernel⟩
  case refine_5 =>
    simp only [List.mem_cons, List.not_mem_nil, or_false] at h
    rcases h with rfl | rfl <;> exact ⟨runs_calm (by decide +kernel), by decide +kernel⟩
  case refine_6 =>
    refine ⟨?_, ?_, ?_, ?_, ?_, runs_calm ?_, ?_⟩ <;> decide +kernel
  all_goals decide +kernel

/-! ### Tiles and frames -/

theorem witness_Tiles : (List.replicate 256 4095).length = 256 ∧ ∀ v ∈ List.replicate 256 4095, v < 4096 := by
  refine ⟨List.length_replicate, fun v h => ?_⟩
  have := List.eq_of_mem_replicate h
  omega

/-- Every shape of command that the statement groups answers a next state from `running`. -/
def answers (c : Instr) (s : State) : Bool := match exec c s with | .next _ => true | _ => false
theorem witness_Rest : Calm running ∧ ∀ c ∈ [Instr.fsRefresh 0 0, .fsTempRead 0 0 30, .fsParityBudgetEnd 0 0 0, .fsParityFail 0 0 0,
    .fsUncorrectable 0 0 0 [], .refEvent 0 0 1 1, .refLoss 0 0, .dpllStageAdvance 0, .audioSamplePeriod 0 0, .audioChangeTimeout 0 0,
    .postTimeout 0 ring1, .cepraReady 0 ring1, .chainLatch 0 0, .chainShiftComplete 0 0 [], .diagPulse 0 0, .healthTest 0 true,
    .operatingDay 0, .sramScrub 0 [], .lockstepFault 0 true .comparator, .braceBegin 0 0 0, .convertCutoff (objId clsRoute 0), .hinge 0 [],
    .headStartH0 0], answers c running = true := ⟨runs_calm (by decide +kernel), by decide +kernel⟩

/-! ### Values that the spec works out -/

/-- The nine ASCII bytes "123456789". -/
def nine : List Byte := [0x31, 0x32, 0x33, 0x34, 0x35, 0x36, 0x37, 0x38, 0x39]
/-- R32: the check value of CRC-32C. -/
theorem test_crc32c : crc32c nine = 0xE3069283 := by decide +kernel
/-- R408: the check value of CRC-8. -/
theorem test_crc8 : crc8 nine = 0xF4 := by decide +kernel
/-- Chapter 16's worked example: one address. -/
theorem test_one_address : fsDecode State.reset 0x010F0800 = ⟨16, 4, 0, 2, 3, 9, 0⟩ := by decide +kernel
/-- Chapter 5's worked example: the size of a linear surface. -/
theorem test_linear_surface : (surfaceLayout 0x11 18432 13824 0).2 = 382205952 := by decide +kernel
/-- Chapter 5's worked example: the size of a compressed surface. -/
theorem test_compressed_surface : (surfaceLayout (0x8000 + 0x20) 3840 2160 0).2 = 37527552 := by decide +kernel

/-! ### Ill-formed commands: one for each check -/

theorem test_refuses_registerBytes : failedChecks (.registerWrite 0 2 (.write [0, 0, 0, 0])) = [.registerBytes] := by decide
theorem test_refuses_thousandths : failedChecks (.progress 0 0 0 1001) = [.thousandths] := by decide
theorem test_refuses_pcieTag : failedChecks (.dmaCompletionTimeout 0 512) = [.pcieTag] := by decide
theorem test_refuses_ringObject : failedChecks (.exportComplete 0 0x05000000) = [.ringObject] := by decide
theorem test_refuses_routeObject : failedChecks (.convertCutoff 0x04000000) = [.routeObject] := by decide
theorem test_refuses_surfaceObject : failedChecks (.tconvLateInput 0 0x05000000 0x04000000) = [.surfaceObject] := by decide
theorem test_refuses_channelObject : failedChecks (.achRejoin 0 0x05000000) = [.channelObject] := by decide
theorem test_refuses_mslLink : failedChecks (.mslFrameEnd 0 0 4 [[0, 0, 0, 0]]) = [.mslLink] := by decide
theorem test_refuses_mslLanes : failedChecks (.mslFrameStart 0 0 3 []) = [.mslLanes] := by decide
theorem test_refuses_markerGap : failedChecks (.alignmentMarker 0 0 0 0 ⟨16386, 2 ^ 58⟩ 0) = [.markerGap] := by decide
theorem test_refuses_sdiSamples : failedChecks (.sdiFrameStart 0 0 { sdi1 with bits := 11 }) = [.sdiSamples] := by decide
theorem test_refuses_rtpLeg : failedChecks (.rtpPacket 0 0 { rtp1 with leg := 2 }) = [.rtpLeg] := by decide
theorem test_refuses_readBackCopies : failedChecks (.laneMismatch 0 ⟨0, 0, 0, []⟩) = [.readBackCopies] := by decide
theorem test_refuses_referenceRate : failedChecks (.refEvent 0 0 1 0) = [.referenceRate] := by decide
theorem test_refuses_bootMode : failedChecks (.boot 0 4 none none true 0) = [.bootMode] := by decide
theorem test_refuses_serviceLength : failedChecks (.serviceRead 0 0 257 true) = [.serviceLength] := by decide
theorem test_refuses_unitIndex : failedChecks (.unitFault 0 6 72 0) = [.unitIndex] := by decide
theorem test_refuses_islandTemps : failedChecks (.thermalRead 0 []) = [.islandTemps] := by decide
theorem test_accepts : (([.registerWrite 0 4 (.write [0, 0, 0, 0]), .registerWrite 0 4 (.read 4), .progress 0 0 0 1000, .serviceRead 0 0 256 true, .unitFault 0 6 71 0] : List Instr).map
    wellFormed) = [true, true, true, true, true] := by decide
theorem test_refuses_dpSink : failedChecks (.dpLink 0 0 ⟨true, 3, 2, false, 0⟩) = [.dpSink] := by decide

end Sys2Proof.Tests
end

section
/-! PROOFS. The jobs of a route's stages: what the commands of a CONVERT stage do to its job (O37), and a state in which a
stopping route keeps a reservation (O36). -/

namespace Sys2Proof.RouteJobs
open Machine

/-! ### What the jobs of a route leave as it is -/

/-- The part of the state that a posted event leaves as it is. -/
structure WorkPart where
  now : Ticks
  props : Map Int
  media : MediaPart
  spine : Spine

/-- The work part of a state. -/
def workPart (s : State) : WorkPart := ⟨s.now, s.props, mediaPart s, spine s⟩

theorem workPart_signalVector (s : State) (v : Nat) : workPart (signalVector s v) = workPart s := by
  unfold signalVector
  split
  · rfl
  · split <;> rfl

theorem workPart_ringSignal (s : State) (r : Nat) : workPart (ringSignal s r) = workPart s := by
  unfold ringSignal
  refine (apply_ite workPart _ _ _).trans ?_
  rw [workPart_signalVector]
  exact ite_self (workPart s)

theorem workPart_writeEvent (s : State) (at' : Ticks) (c : Nat) (o : ObjId) (a : Nat) :
    workPart (writeEvent s at' c o a) = workPart s := by
  unfold writeEvent
  simp only
  generalize (if c = 0x1302 ∨ c = 0x1303 then 0 else (subFor s c o).ring) = r
  split
  · rfl
  · split
    · rfl
    · exact workPart_ringSignal _ _

theorem workPart_postEvent (s : State) (c : Nat) (o : ObjId) (a : Nat) : workPart (postEvent s c o a) = workPart s := by
  unfold postEvent
  split
  · rfl
  · split
    · rfl
    · exact workPart_writeEvent _ _ _ _ _

@[simp] theorem postEvent_now (s : State) (c : Nat) (o : ObjId) (a : Nat) : (postEvent s c o a).now = s.now :=
  congrArg WorkPart.now (workPart_postEvent s c o a)

@[simp] theorem postEvent_props (s : State) (c : Nat) (o : ObjId) (a : Nat) : (postEvent s c o a).props = s.props :=
  congrArg WorkPart.props (workPart_postEvent s c o a)

@[simp] theorem postEvent_routes (s : State) (c : Nat) (o : ObjId) (a : Nat) : (postEvent s c o a).routes = s.routes :=
  congrArg (·.media.routes) (workPart_postEvent s c o a)

theorem routeRt_setRouteRt (s : State) (r : ObjId) (x : RouteRt) : routeRt (setRouteRt s r x) r = x :=
  mapGetD_mapPut_same ..

theorem routeRt_setRouteRt_ne {r q : ObjId} (h : r ≠ q) (s : State) (x : RouteRt) : routeRt (setRouteRt s q x) r = routeRt s r :=
  mapGetD_mapPut_ne _ _ _ h

/-- Work on the stages of routes: the clock stands, nothing comes to wait, and route `r` keeps its number of stages. -/
structure Keeps (r : ObjId) (s u : State) : Prop where
  spine : spine u = spine s
  now : u.now = s.now
  stages : (routeRt u r).stages.length = (routeRt s r).stages.length

section
variable {r : ObjId} {s u v : State}

theorem Keeps.refl (r : ObjId) (s : State) : Keeps r s s := ⟨rfl, rfl, rfl⟩

theorem Keeps.trans (h : Keeps r s u) (k : Keeps r u v) : Keeps r s v :=
  ⟨k.spine.trans h.spine, k.now.trans h.now, k.stages.trans h.stages⟩

/-- An update that leaves the routes alone. -/
theorem Keeps.of_routes (hs : Machine.spine u = Machine.spine s) (hn : u.now = s.now) (hr : u.routes = s.routes) : Keeps r s u :=
  ⟨hs, hn, by simp only [routeRt, hr]⟩

theorem Keeps.ite {c : Prop} [Decidable c] (hu : Keeps r s u) (hv : Keeps r s v) : Keeps r s (if c then u else v) :=
  iteInduction (fun _ => hu) fun _ => hv

theorem Keeps.foldl {α : Type} {f : State → α → State} (hf : ∀ s a, Keeps r s (f s a)) (l : List α) (s : State) :
    Keeps r s (l.foldl f s) := by
  induction l generalizing s with
  | nil => exact .refl r s
  | cons a l ih => exact (hf s a).trans (ih _)

end

section
variable (r : ObjId) (s : State)

theorem keeps_setProp (o : ObjId) (p i : Nat) (v : Int) : Keeps r s (setProp s o p i v) := .of_routes rfl rfl rfl

theorem keeps_setSurf (o : ObjId) (f : Surf) : Keeps r s (setSurf s o f) := .of_routes rfl rfl rfl

theorem keeps_setRing (o : ObjId) (g : Ring) : Keeps r s (setRing s o g) := .of_routes rfl rfl rfl

theorem keeps_orders (n : Nat) : Keeps r s { s with orders := n } := .of_routes rfl rfl rfl

theorem keeps_frame (m : Mem) : Keeps r s { s with frame := m } := .of_routes rfl rfl rfl

theorem keeps_postEvent (c : Nat) (o : ObjId) (a : Nat) : Keeps r s (postEvent s c o a) :=
  .of_routes (spine_postEvent ..) (postEvent_now ..) (postEvent_routes ..)

theorem keeps_updSurf (o : ObjId) (f : Surf → Surf) : Keeps r s (updSurf s o f) := by
  unfold updSurf
  split
  · exact keeps_setSurf ..
  · exact .refl r s

theorem keeps_addLease (o : ObjId) (h : Holder) : Keeps r s (addLease s o h) := keeps_updSurf ..

theorem keeps_dropLease (o : ObjId) (h : Holder) : Keeps r s (dropLease s o h) := keeps_updSurf ..

theorem keeps_abandonSurface (o : ObjId) : Keeps r s (abandonSurface s o) := keeps_updSurf ..

theorem keeps_setStageRt (q : ObjId) (i : Nat) (x : StageRt) : Keeps r s (setStageRt s q i x) := by
  refine ⟨rfl, rfl, ?_⟩
  by_cases h : r = q
  · subst h
    rw [setStageRt, routeRt_setRouteRt, List.length_set]
  · rw [setStageRt, routeRt_setRouteRt_ne h]

theorem keeps_putJob (i : Nat) (j : ConvJob) : Keeps r s (putJob s r i j) := keeps_setStageRt ..

theorem keeps_dropWaiting (o : ObjId) : Keeps r s (dropWaiting s o) := by
  refine .foldl (fun s e => .foldl (fun s i => ?_) _ s) _ s
  simp only
  split
  · exact (keeps_setStageRt ..).trans (keeps_setProp ..)
  · exact .refl r s

theorem keeps_reportOverrun (ring : ObjId) (frame : Nat) : Keeps r s (reportOverrun s ring frame) := by
  have bump : Keeps r s (bumpProp s ring pRingOverruns) := keeps_setProp ..
  unfold reportOverrun
  simp only
  generalize bumpProp s ring pRingOverruns = u at bump ⊢
  cases ringOf u ring with
  | none => exact bump
  | some g =>
    have report : Keeps r u (postEvent (setRing u ring { g with lastOverrun := some u.now }) 0x0401 ring
        (getPropN u ring pRingOverruns + frame % 2 ^ 32 * 2 ^ 32)) :=
      (keeps_setRing ..).trans (keeps_postEvent ..)
    exact .ite (bump.trans report) bump

variable {r s}

theorem keeps_claimSurface {ring o : ObjId} {v : State} (h : claimSurface s ring = some (o, v)) : Keeps r s v := by
  unfold claimSurface at h
  split at h
  · cases h
  · split at h
    · cases h
    · cases h
      exact (keeps_orders ..).trans (keeps_updSurf ..)

theorem keeps_writerClaim {ring o : ObjId} {v : State} (h : writerClaim s ring = some (o, v)) : Keeps r s v := by
  obtain ⟨⟨o', v'⟩, hc, he⟩ := Option.map_eq_some_iff.1 h
  cases he
  exact (keeps_claimSurface hc).trans (keeps_dropWaiting ..)

end

/-! ### The runtime of a stage -/

section
variable {s u : State} {r : ObjId} {i : Nat}

/-- A stage that is set is read back. -/
theorem stageRt_setStageRt (x : StageRt) (hi : i < (routeRt s r).stages.length) : stageRt (setStageRt s r i x) r i = x := by
  rw [stageRt, setStageRt, routeRt_setRouteRt, atD, List.getElem?_set_self hi, Option.getD_some]

theorem stageRt_congr (h : u.routes = s.routes) (r : ObjId) (i : Nat) : stageRt u r i = stageRt s r i := by
  simp only [stageRt, routeRt, h]

/-- The job that a stage is given is its job, the finishing pass started or not. -/
theorem putJob_conv (j : ConvJob) (hi : i < (routeRt s r).stages.length) :
    ∃ b, (stageRt (putJob s r i j) r i).conv = some { j with finishing := b } := by
  unfold putJob
  rw [stageRt_setStageRt _ hi]
  split
  · exact ⟨true, rfl⟩
  · exact ⟨j.finishing, rfl⟩

end

/-! ### Inputs reach a job -/

/-- What the hinge that starts a job fixes for it, and that its cut-off has not come or has. -/
structure SameStart (j k : ConvJob) : Prop where
  tk : k.tk = j.tk
  tNext : k.tNext = j.tNext
  hinge : k.hinge = j.hinge
  cut : k.cut = j.cut

/-- A job and the state go on together, and what the job's start fixed stands. -/
structure JobStep (r : ObjId) (a b : ConvJob × State) : Prop where
  job : SameStart a.1 b.1
  state : Keeps r a.2 b.2

theorem SameStart.refl (j : ConvJob) : SameStart j j := ⟨rfl, rfl, rfl, rfl⟩

theorem SameStart.trans {j k l : ConvJob} (h : SameStart j k) (h' : SameStart k l) : SameStart j l :=
  ⟨h'.tk.trans h.tk, h'.tNext.trans h.tNext, h'.hinge.trans h.hinge, h'.cut.trans h.cut⟩

section
variable {r : ObjId}

theorem JobStep.refl (a : ConvJob × State) : JobStep r a a := ⟨.refl _, .refl r _⟩

theorem JobStep.trans {a b c : ConvJob × State} (h : JobStep r a b) (k : JobStep r b c) : JobStep r a c :=
  ⟨h.job.trans k.job, h.state.trans k.state⟩

theorem JobStep.foldl {α : Type} {f : ConvJob × State → α → ConvJob × State} (hf : ∀ a e, JobStep r a (f a e)) (l : List α)
    (a : ConvJob × State) : JobStep r a (l.foldl f a) := by
  induction l generalizing a with
  | nil => exact .refl a
  | cons e l ih => exact (hf a e).trans (ih _)

theorem JobStep.ite {p : Prop} [Decidable p] {a b c : ConvJob × State} (hb : JobStep r a b) (hc : JobStep r a c) :
    JobStep r a (if p then b else c) := iteInduction (fun _ => hb) fun _ => hc

variable (s : State) (i : Nat) (j : ConvJob)

theorem jobStep_holdDecide (n : Int) : JobStep r (j, s) (holdDecide j n, s) := ⟨⟨rfl, rfl, rfl, rfl⟩, .refl r s⟩

theorem keeps_dropLeases {α : Type} (l : List α) (surf : α → ObjId) (h : Holder) :
    Keeps r s (l.foldl (fun s x => dropLease s (surf x) h) s) := .foldl (fun _ _ => keeps_dropLease ..) l s

theorem jobStep_keepInputs (keep : ConvIn → Bool) : JobStep r (j, s) (keepInputs s r i j keep) :=
  ⟨⟨rfl, rfl, rfl, rfl⟩, keeps_dropLeases ..⟩

theorem jobStep_releaseInputs (gone : ConvIn → Bool) : JobStep r (j, s) (releaseInputs s r i j gone) :=
  ⟨⟨rfl, rfl, rfl, rfl⟩, keeps_dropLeases ..⟩

theorem jobStep_takeInput (o : ObjId) (f : Surf) (rc : FrameRec) : JobStep r (j, s) (takeInput s r i j o f rc) :=
  ⟨⟨rfl, rfl, rfl, rfl⟩, keeps_addLease ..⟩

theorem keeps_latchRate (u : ObjId) (hinge : Nat) (q : Nat × Nat) : Keeps r s (latchRate s r i u hinge q) := by
  have latched (x : StageRt) (v : Int) : Keeps r s (setProp (setStageRt s r i x) u pTconvInputPeriod 0 v) :=
    (keeps_setStageRt ..).trans (keeps_setProp ..)
  exact .ite (latched ..) ((latched ..).trans (keeps_postEvent ..))

theorem jobStep_jobRate (u : ObjId) (rc : FrameRec) : JobStep r (j, s) (jobRate s r i u j rc) := by
  unfold jobRate
  split
  · exact .refl _
  · exact ⟨⟨rfl, rfl, rfl, rfl⟩, keeps_latchRate ..⟩

theorem jobStep_jobInput (u o : ObjId) (f : Surf) (rc : FrameRec) : JobStep r (j, s) (jobInput s r i u j o f rc) := by
  have hrate : JobStep r (j, s) (jobRate s r i u j rc) := jobStep_jobRate ..
  unfold jobInput
  generalize jobRate s r i u j rc = a at hrate ⊢
  obtain ⟨k, v⟩ := a
  have take (j' : ConvJob) (v' : State) : JobStep r (j', v') (takeInput v' r i j' o f rc) := jobStep_takeInput ..
  have replace (j' : ConvJob) (keep : ConvIn → Bool) : JobStep r (j', v)
      (takeInput (keepInputs v r i j' keep).2 r i (keepInputs v r i j' keep).1 o f rc) :=
    (jobStep_keepInputs ..).trans (take ..)
  refine hrate.trans (.ite (.refl _) ?_)
  split
  case h_1 => -- ACCUMULATE
    exact .ite (.refl _) (.ite (.refl _) ((take k v).trans ⟨⟨rfl, rfl, rfl, rfl⟩, .refl r _⟩))
  case h_4 => -- NEAREST, BLEND and MCI
    have decided : JobStep r (k, v) ({ (takeInput v r i k o f rc).1 with decided := true }, (takeInput v r i k o f rc).2) :=
      (take k v).trans ⟨⟨rfl, rfl, rfl, rfl⟩, .refl r _⟩
    refine .ite (.refl _) (.ite ?_ (.ite (.refl _) (.ite (decided.trans (jobStep_releaseInputs ..)) decided)))
    split
    · exact .ite (replace ..) (.refl _)
    · exact take ..
  all_goals -- the two hold modes
    refine .ite (.refl _) (.ite (jobStep_holdDecide ..) ((jobStep_holdDecide v k (holdAt k rc.ts).1).trans (.ite (.refl _) ?_)))
    split
    · exact .ite (replace ..) (.refl _)
    · exact take ..

theorem keeps_countMissed (u : ObjId) : Keeps r s (countMissed s r i u j) :=
  .ite (.refl r s) ((keeps_setStageRt ..).trans (keeps_setProp ..))

end

/-! ### A job starts -/

/-- A job of a hinge, whose cut-off has not come: the hinge's time, that of the next, and its count. -/
structure JobOf (tk next : Ticks) (count : Nat) (j : ConvJob) : Prop where
  tk : j.tk = tk
  tNext : j.tNext = next
  hinge : j.hinge = count
  cut : j.cut = false

/-- From `s` a stage of a route comes to `u`, where it has a job of a hinge. -/
structure Starts (r : ObjId) (i : Nat) (tk next : Ticks) (count : Nat) (s u : State) : Prop where
  keeps : Keeps r s u
  job : ∃ j, (stageRt u r i).conv = some j ∧ JobOf tk next count j

section
variable {r : ObjId} {i : Nat} {tk next : Ticks} {count : Nat} {s u v : State}

theorem JobOf.of_sameStart {j k : ConvJob} (h : JobOf tk next count j) (e : SameStart j k) : JobOf tk next count k :=
  ⟨e.tk.trans h.tk, e.tNext.trans h.tNext, e.hinge.trans h.hinge, e.cut.trans h.cut⟩

theorem Starts.ite {p : Prop} [Decidable p] (hu : Starts r i tk next count s u) (hv : Starts r i tk next count s v) :
    Starts r i tk next count s (if p then u else v) := iteInduction (fun _ => hu) fun _ => hv

theorem wrapProps_routes (l : List ObjId) (p : Nat) (v : State) : (l.foldl (fun s u => wrapProp s u p) v).routes = v.routes := by
  induction l generalizing v with
  | nil => rfl
  | cons a l ih => exact ih _

variable (hk : Keeps r s v) (hi : i < (routeRt s r).stages.length)
include hk hi

/-- A job that may write no frame ends as it starts. -/
theorem starts_ended {x : StageRt} (units : List ObjId) (hx : ∃ j, x.conv = some j ∧ JobOf tk next count j) :
    Starts r i tk next count s (units.foldl (fun s u => wrapProp s u pTconvJobs) (setStageRt v r i x)) := by
  refine ⟨(hk.trans (keeps_setStageRt ..)).trans (.foldl (fun _ _ => keeps_setProp ..) _ _), ?_⟩
  rwa [stageRt_congr (wrapProps_routes ..), stageRt_setStageRt _ (hk.stages ▸ hi)]

/-- A job that takes the inputs which its rule selects. -/
theorem starts_taken {job : ConvJob} (hj : JobOf tk next count job) (u : ObjId) (x : StageRt) (ins : List (ObjId × Surf × FrameRec)) :
    let a := ins.foldl (fun a e => jobInput a.2 r i u a.1 e.1 e.2.1 e.2.2) (job, countMissed (setStageRt v r i x) r i u job)
    Starts r i tk next count s (putJob a.2 r i a.1) := by
  intro a
  have hstep : JobStep r (job, countMissed (setStageRt v r i x) r i u job) a := .foldl (fun _ _ => jobStep_jobInput ..) _ _
  have ha : Keeps r s a.2 := (hk.trans ((keeps_setStageRt ..).trans (keeps_countMissed ..))).trans hstep.state
  have hia : i < (routeRt a.2 r).stages.length := ha.stages ▸ hi
  obtain ⟨b, hb⟩ := putJob_conv a.1 hia
  exact ⟨ha.trans (keeps_putJob ..), _, hb, (hj.of_sameStart hstep.job).of_sameStart ⟨rfl, rfl, rfl, rfl⟩⟩

end

/-- A property of another number leaves the hinge count. -/
theorem headCount_setProp {p : Nat} (hp : p < 0x10000) (hne : p ≠ pHeadHingeCount) (s : State) (o h : ObjId) (v : Int) :
    headCount (setProp s o p 0 v) h = headCount s h := by
  unfold headCount getPropN
  rw [getProp_setProp_ne]
  intro hk
  exact hne (propKey_inj (by decide) hp (by decide) (by decide) hk).2.1.symm

theorem headCount_latchRate (s : State) (r : ObjId) (i : Nat) (u : ObjId) (c : Nat) (q : Nat × Nat) (h : ObjId) :
    headCount (latchRate s r i u c q) h = headCount s h := by
  have hset (x : StageRt) (v : Int) : headCount (setProp (setStageRt s r i x) u pTconvInputPeriod 0 v) h = headCount s h :=
    headCount_setProp (by decide) (by decide) (setStageRt s r i x) u h v
  have hpost (w : State) (e : Nat) (o : ObjId) (a : Nat) : headCount (postEvent w e o a) h = headCount w h := by
    simp only [headCount, getPropN, getProp, postEvent_props]
  unfold latchRate
  refine (apply_ite (headCount · h) _ _ _).trans ?_
  rw [hpost, hset]
  exact ite_self _

/-- A CONVERT stage of a running route with no job starts one at the hinge of its head (R139). -/
theorem convStart_starts {s : State} {r : ObjId} {i : Nat} {g : StageCfg} (hc : convStage s r = some (i, g))
    (hi : i < (routeRt s r).stages.length) {tk : Ticks} {out : Nat × Nat × Nat × Nat}
    (ht : (headRt s (objInst (getPropN s r pRouteHead))).lastHinge = some tk) (hp : picOf s g.ring = some out)
    (hr : getProp s r pRouteState = 1) (hh : getProp s (getPropN s r pRouteHead) pHeadRasterState ≠ 0)
    (hcv : (stageRt s r i).conv = none) (hj : (stageRt s r i).job = none) :
    Starts r i tk (tk + framePeriod s (getPropN s r pRouteHead)) (headCount s (getPropN s r pRouteHead))
      (tickTo (afterHinge s (objInst (getPropN s r pRouteHead))) s) (convStart s r) := by
  unfold convStart
  simp only [hc, ht, hp, hr, hh, hcv, hj, stageBusy]
  rw [if_neg (by simp)]
  generalize getPropN s r pRouteHead = h
  generalize seqInputs _ _ _ = ins
  generalize ins.getLast?.map (fun e : ObjId × Surf × FrameRec => (e.2.2.rateNum, e.2.2.rateDen)) = newest
  generalize hw : setProp (setProp _ (atD g.units 0 0) pTconvDelayApplied 0 _) (atD g.units 0 0) pTconvGuard 0 _ = w
  have latched : Keeps r (tickTo (afterHinge s (objInst h)) s) w ∧ headCount w h = headCount s h := by
    subst hw
    refine ⟨.trans ?_ ((keeps_setProp ..).trans (keeps_setProp ..)), ?_⟩
    · cases newest with
      | none => exact .refl ..
      | some q => exact keeps_latchRate ..
    · rw [headCount_setProp (by decide) (by decide), headCount_setProp (by decide) (by decide)]
      cases newest with
      | none => rfl
      | some q => exact headCount_latchRate ..
  obtain ⟨hk, hcount⟩ := latched
  refine .ite (starts_ended hk hi g.units ⟨_, rfl, rfl, rfl, hcount, rfl⟩) ?_
  generalize hcl : writerClaim w g.ring = claim
  cases claim with
  | none =>
    refine starts_taken (hk.trans (keeps_reportOverrun ..)) hi ?_ ..
    exact ⟨rfl, rfl, hcount, rfl⟩
  | some p =>
    refine starts_taken (hk.trans (keeps_writerClaim hcl)) hi ?_ ..
    exact ⟨rfl, rfl, hcount, rfl⟩

/-! ### Folds, the cut-off and late inputs -/

section
variable {s : State} {r : ObjId} {i : Nat} {g : StageCfg} {j : ConvJob}

theorem keeps_foldInto (r : ObjId) (s : State) (u : ObjId) (j : ConvJob) (q : ObjId × Nat × Nat) : Keeps r s (foldInto s u j q) := by
  unfold foldInto
  cases surfOf s q.1 with
  | none => exact .refl ..
  | some f =>
    refine .ite ?_ ?_
    · cases surfOf s (getPropN s u pTconvAccSurface) with
      | none => exact .refl ..
      | some a => exact .foldl (fun _ _ => keeps_frame ..) _ _
    · cases j.output.bind (surfOf s) with
      | none => exact .refl ..
      | some o => exact keeps_frame ..

/-- The fold that runs next starts. -/
theorem foldStart_eq (hc : convStage s r = some (i, g)) (hj : (stageRt s r i).conv = some j) (he : j.ended = false)
    (hf : j.foldingNow = none) (hcut : j.cut = false) (hq : j.queue ≠ []) :
    foldStart s r = putJob s r i { j with foldingNow := some 0 } := by
  simp [foldStart, hc, hj, he, hf, hcut, hq]

/-- A fold that ends is among those done, and the queue goes on unless the cut-off has come. -/
theorem foldEnd_eq {k : Nat} {q : ObjId × Nat × Nat} {qs : List (ObjId × Nat × Nat)} (hc : convStage s r = some (i, g))
    (hj : (stageRt s r i).conv = some j) (hf : j.foldingNow = some k) (hq : j.queue = q :: qs) :
    foldEnd s r = putJob (dropLease (if j.lost then s else foldInto s (atD g.units 0 0) j q) q.1 (.job r i)) r i { j with
      foldingNow := none, queue := if j.cut then [] else qs, folded := j.folded ++ [q], accSum := j.accSum + q.2.2
      inputs := j.inputs.map fun x => if x.surf = q.1 ∧ x.leased then { x with leased := false, used := true } else x } := by
  simp only [foldEnd, hc, hj, hf, hq]

/-- What the end of a fold makes of the job. -/
theorem foldEnd_ends {k : Nat} {q : ObjId × Nat × Nat} {qs : List (ObjId × Nat × Nat)} (hc : convStage s r = some (i, g))
    (hi : i < (routeRt s r).stages.length) (hj : (stageRt s r i).conv = some j) (hf : j.foldingNow = some k) (hq : j.queue = q :: qs) :
    Keeps r s (foldEnd s r) ∧ ∃ l, (stageRt (foldEnd s r) r i).conv = some l ∧ l.folded = j.folded ++ [q] ∧
      l.accSum = j.accSum + q.2.2 ∧ l.foldingNow = none ∧ l.queue = if j.cut then [] else qs := by
  rw [foldEnd_eq hc hj hf hq]
  have hv : Keeps r s (dropLease (if j.lost then s else foldInto s (atD g.units 0 0) j q) q.1 (.job r i)) :=
    .trans (.ite (.refl ..) (keeps_foldInto ..)) (keeps_dropLease ..)
  obtain ⟨b, hb⟩ := putJob_conv _ (hv.stages ▸ hi)
  exact ⟨hv.trans (keeps_putJob ..), _, hb, rfl, rfl, rfl, rfl⟩

theorem keeps_countLate (r : ObjId) (s : State) (i : Nat) (u : ObjId) (c n : Nat) : Keeps r s (countLate s r i u c n) :=
  have counted (x : StageRt) : Keeps r s (setStageRt (bumpProp s u pTconvLateInputs 0 n) r i x) :=
    (keeps_setProp r s u pTconvLateInputs 0 _).trans (keeps_setStageRt ..)
  .ite (.refl ..) (.ite ((counted _).trans (keeps_postEvent ..)) (counted _))

/-- Late inputs are counted beside the job. -/
theorem countLate_conv (hi : i < (routeRt s r).stages.length) (u : ObjId) (c n : Nat) :
    (stageRt (countLate s r i u c n) r i).conv = (stageRt s r i).conv := by
  have counted {x : StageRt} (hx : x.conv = (stageRt s r i).conv) :
      (stageRt (setStageRt (bumpProp s u pTconvLateInputs 0 n) r i x) r i).conv = (stageRt s r i).conv := by
    have hset : stageRt (setStageRt (bumpProp s u pTconvLateInputs 0 n) r i x) r i = x := stageRt_setStageRt x hi
    rw [hset, hx]
  unfold countLate
  simp only
  split
  · rfl
  · refine iteInduction (motive := fun v => (stageRt v r i).conv = (stageRt s r i).conv) (fun _ => ?_) fun _ => counted rfl
    rw [stageRt_congr (postEvent_routes ..)]
    exact counted rfl

/-- The cut-off ends the decisions: one fold at most still runs, and the others are given up and counted as late. -/
theorem convCut_eq (hc : convStage s r = some (i, g)) (hj : (stageRt s r i).conv = some j) (hcut : j.cut = false)
    (he : j.ended = false) (h3 : j.mode ≠ 3) (h4 : j.mode ≠ 4) :
    convCut s r = countLate (putJob ((j.queue.drop 1).foldl (fun s q => dropLease s q.1 (.job r i)) (tickTo j.tCut.toNat s)) r i
      { j with
        cut := true, decided := true, queue := j.queue.take 1
        foldingNow := if (j.queue.take 1).isEmpty then none else some 0
        inputs := j.inputs.map fun x => if (j.queue.drop 1).any (fun q => q.1 == x.surf) then { x with leased := false } else x })
      r i (atD g.units 0 0) j.hinge (j.queue.drop 1).length := by
  have hold : ¬ (j.mode = 3 ∨ j.mode = 4) := not_or.2 ⟨h3, h4⟩
  have undecided : ¬ (j.cut = true ∨ j.ended = true) := by simp [hcut, he]
  simp only [convCut, hc, hj, if_neg undecided, if_neg hold]

/-- What the cut-off makes of the job. -/
theorem convCut_ends (hc : convStage s r = some (i, g)) (hi : i < (routeRt s r).stages.length)
    (hj : (stageRt s r i).conv = some j) (hcut : j.cut = false) (he : j.ended = false) (h3 : j.mode ≠ 3) (h4 : j.mode ≠ 4) :
    Keeps r (tickTo j.tCut.toNat s) (convCut s r) ∧ ∃ k, (stageRt (convCut s r) r i).conv = some k ∧ k.cut = true ∧
      k.decided = true ∧ k.queue = j.queue.take 1 := by
  rw [convCut_eq hc hj hcut he h3 h4]
  have hv : Keeps r (tickTo j.tCut.toNat s)
      ((j.queue.drop 1).foldl (fun s q => dropLease s q.1 (.job r i)) (tickTo j.tCut.toNat s)) := keeps_dropLeases ..
  obtain ⟨b, hb⟩ := putJob_conv _ (hv.stages ▸ hi)
  have hput (k : ConvJob) := hv.trans (keeps_putJob r _ i k)
  exact ⟨(hput _).trans (keeps_countLate ..), _, (countLate_conv ((hput _).stages ▸ hi) ..).trans hb, rfl, rfl, rfl⟩

/-- An input that completes after the cut-off of the one job is counted where that job would have used it. -/
theorem lateInput_eq {o : ObjId} {f : Surf} {rc : FrameRec} (hc : convStage s r = some (i, g)) (hp : (stageRt s r i).past = [])
    (hj : (stageRt s r i).conv = some j) (ho : surfOf s o = some f) (hf : surfFrame f = some rc) (hr : j.ring = f.ring)
    (hcut : j.cut = true) (ht : j.tCut < (f.doneAt : Int)) (hu : lateUse j rc f.done = true) :
    lateInput s r o = countLate s r i (atD g.units 0 0) j.hinge 1 := by
  simp [lateInput, hc, hp, hj, ho, hf, hr, hcut, ht, hu]

end

/-! ### The finishing pass -/

/-- The record that a writer has issued for a surface and that is not yet there, where the surface exists. -/
def pendOf (s : State) (o : ObjId) : Option (Option FrameRec) := (surfOf s o).map (·.pend)

theorem surfOf_updSurf_same {s : State} {o : ObjId} {f : Surf} (h : surfOf s o = some f) (g : Surf → Surf) :
    surfOf (updSurf s o g) o = some (g f) := by
  rw [updSurf, h]
  exact mapGet_mapPut_same ..

theorem surfOf_updSurf_ne {s : State} {o a : ObjId} (h : o ≠ a) (g : Surf → Surf) : surfOf (updSurf s a g) o = surfOf s o := by
  unfold updSurf
  split
  · exact mapGet_mapPut_ne _ _ h
  · rfl

theorem pendOf_dropLease (s : State) (a : ObjId) (h : Holder) (o : ObjId) : pendOf (dropLease s a h) o = pendOf s o := by
  by_cases hao : o = a
  · subst hao
    cases hs : surfOf s o with
    | none => rw [dropLease, updSurf, hs]
    | some f => simp only [pendOf, dropLease, surfOf_updSurf_same hs, hs, Option.map_some]
  · simp only [pendOf, dropLease, surfOf_updSurf_ne hao]

theorem pendOf_issueRecord {s : State} {o : ObjId} {f : Surf} (h : surfOf s o = some f) (rc : FrameRec) :
    pendOf (issueRecord s o rc) o = some (some { rc with surface := o, position := f.position }) := by
  simp only [pendOf, issueRecord, surfOf_updSurf_same h, Option.map_some]

theorem pendOf_setProp (s : State) (u : ObjId) (p k : Nat) (v : Int) (o : ObjId) : pendOf (setProp s u p k v) o = pendOf s o := rfl

theorem pendOf_setTimeProp (s : State) (u : ObjId) (p : Nat) (t : Ticks) (o : ObjId) :
    pendOf (setTimeProp s u p t) o = pendOf s o := rfl

theorem pendOf_congr {s u : State} (h : u.surfs = s.surfs) (o : ObjId) : pendOf u o = pendOf s o := by
  simp only [pendOf, surfOf, h]

theorem pendOf_dropLeases {α : Type} (l : List α) (surf : α → ObjId) (h : Holder) (s : State) (o : ObjId) :
    pendOf (l.foldl (fun s x => dropLease s (surf x) h) s) o = pendOf s o := by
  induction l generalizing s with
  | nil => rfl
  | cons a l ih => exact (ih _).trans (pendOf_dropLease ..)

theorem wrapProps_surfs (l : List ObjId) (p : Nat) (s : State) : (l.foldl (fun s u => wrapProp s u p) s).surfs = s.surfs := by
  induction l generalizing s with
  | nil => rfl
  | cons a l ih => exact ih _

/-- What the end of a job does beside its stage: its inputs are released, its units count it, and a hold mode reports its
coverage. -/
def endWork (s : State) (r : ObjId) (i : Nat) (u : ObjId) (j : ConvJob) : State :=
  let s := (keepInputs s r i j fun _ => false).2
  let s := (atD (routeRt s r).units i []).foldl (fun s u => wrapProp s u pTconvJobs) s
  if j.mode = 3 ∨ j.mode = 4 then
    let n := ((stageRt s r i).seen.filter fun e => decide (j.w0 ≤ (e.ts : Int) ∧ (e.ts : Int) < j.tOut)).length
    setProp s u pTconvCoverage 0 (if n = 0 then 0 else j.folded.length * 1000 / n : Nat)
  else s

/-- A job ends in a state in which what it wrote stands. -/
def endJob (s : State) (r : ObjId) (i : Nat) (u : ObjId) (j : ConvJob) : State :=
  let v := endWork s r i u j
  setStageRt v r i { stageRt v r i with conv := some { (keepInputs s r i j fun _ => false).1 with ended := true } }

section
variable (r : ObjId) (s : State) (i : Nat) (u : ObjId) (j : ConvJob)

theorem keeps_setTimeProp (o : ObjId) (p : Nat) (t : Ticks) : Keeps r s (setTimeProp s o p t) := .of_routes rfl rfl rfl

theorem keeps_endWork : Keeps r s (endWork s r i u j) :=
  have released : JobStep r (j, s) (keepInputs s r i j fun _ => false) := jobStep_keepInputs ..
  released.state.trans (.trans (.foldl (fun _ _ => keeps_setProp ..) _ _) (.ite (keeps_setProp ..) (.refl ..)))

theorem keeps_endJob : Keeps r s (endJob s r i u j) := (keeps_endWork ..).trans (keeps_setStageRt ..)

theorem endJob_conv (hi : i < (routeRt s r).stages.length) :
    ∃ k, (stageRt (endJob s r i u j) r i).conv = some k ∧ k.ended = true ∧ k.inputs = [] := by
  unfold endJob
  rw [stageRt_setStageRt _ ((keeps_endWork r s i u j).stages ▸ hi)]
  exact ⟨_, rfl, rfl, List.filter_eq_nil_iff.2 fun _ _ => Bool.false_ne_true⟩

theorem pendOf_endJob (o : ObjId) : pendOf (endJob s r i u j) o = pendOf s o := by
  have hkeep : pendOf (keepInputs s r i j fun _ => false).2 o = pendOf s o := pendOf_dropLeases ..
  refine Eq.trans (pendOf_congr ?_ o) hkeep
  exact iteInduction (motive := fun v : State => v.surfs = (keepInputs s r i j fun _ => false).2.surfs)
    (fun _ => wrapProps_surfs ..) fun _ => wrapProps_surfs ..

theorem keeps_convWrite (o : ObjId) (planes : Option (List (List (List Nat)))) (used : List ConvIn) :
    Keeps r s (convWrite s r u j o planes used) := by
  unfold convWrite
  cases surfOf s o with
  | none => exact .refl ..
  | some f =>
    refine .trans (.trans (.trans (.trans (.trans ?_ (keeps_updSurf ..)) (keeps_setTimeProp ..)) (keeps_setProp ..))
      (keeps_setProp ..)) (keeps_setProp ..)
    cases planes with
    | none => exact .refl ..
    | some p => exact keeps_frame ..

/-- The record of a job's frame goes with its output surface. -/
theorem pendOf_convWrite {o : ObjId} {f : Surf} (ho : surfOf s o = some f) (p : List (List (List Nat))) (used : List ConvIn) :
    pendOf (convWrite s r u j o (some p) used) o =
      some (some { convRecord s r j (latestFrame used) with surface := o, position := f.position }) := by
  simp only [convWrite, ho, pendOf_setProp, pendOf_setTimeProp]
  have hwritten : surfOf { s with frame := writeSurf s.frame f p } o = some f := ho
  exact pendOf_issueRecord hwritten _

variable {r s i j} {g : StageCfg}

/-- The finishing pass ends the job in a state in which its frame is written or given up. -/
theorem convFinish_ends (hc : convStage s r = some (i, g)) (hj : (stageRt s r i).conv = some j) (he : j.ended = false)
    (hf : j.finishing = true) {motive : State → Prop} (hend : ∀ v, Keeps r s v → motive (endJob v r i (atD g.units 0 0) j)) :
    motive (convFinish s r) := by
  have running : ¬ (j.ended = true ∨ (!j.finishing) = true) := by simp [he, hf]
  unfold convFinish
  rw [hc]
  dsimp -zeta only
  rw [hj]
  dsimp -zeta only
  rw [if_neg running]
  extract_lets u done
  have hdone (v : State) (h : Keeps r s v) : motive (done v) := hend v h
  clear_value done
  have given (o : ObjId) : motive (done (abandonSurface s o)) := hdone _ (keeps_abandonSurface ..)
  have written (v : State) (h : Keeps r s v) (o : ObjId) (planes : Option (List (List (List Nat)))) (used : List ConvIn) :
      motive (done (convWrite v r u j o planes used)) := hdone _ (h.trans (keeps_convWrite ..))
  cases j.output with
  | none => exact hdone s (.refl ..)
  | some o =>
    dsimp only
    cases surfOf s o with
    | none => exact hdone s (.refl ..)
    | some f =>
      refine iteInduction (fun _ => given o) fun _ => iteInduction (fun _ => ?_) fun _ => iteInduction (fun _ => ?_) fun _ => ?_
      · refine iteInduction (fun _ => given o) fun _ => ?_
        split
        · exact written s (.refl ..) ..
        · exact given o
      · exact iteInduction (fun _ => given o) fun _ => written s (.refl ..) ..
      · cases mixFrames s j f.format f.width f.height with
        | none => exact given o
        | some m =>
          refine written _ (.trans (.ite (keeps_setProp ..) (.refl ..)) (.ite ?_ (.refl ..))) ..
          exact (keeps_setProp ..).trans (keeps_postEvent ..)

/-- What the end of the finishing pass makes of the job. -/
theorem convFinish_ended (hc : convStage s r = some (i, g)) (hi : i < (routeRt s r).stages.length)
    (hj : (stageRt s r i).conv = some j) (he : j.ended = false) (hf : j.finishing = true) :
    Keeps r s (convFinish s r) ∧ ∃ k, (stageRt (convFinish s r) r i).conv = some k ∧ k.ended = true ∧ k.inputs = [] :=
  convFinish_ends hc hj he hf
    (motive := fun u => Keeps r s u ∧ ∃ k, (stageRt u r i).conv = some k ∧ k.ended = true ∧ k.inputs = [])
    fun v hv => ⟨hv.trans (keeps_endJob ..), endJob_conv r v i _ j (hv.stages ▸ hi)⟩

/-- NEAREST writes the frame that it uses, and ends. -/
theorem convFinish_nearest {o : ObjId} {f : Surf} {m : List (List (List Nat)) × Nat × Bool × List ConvIn}
    (hc : convStage s r = some (i, g)) (hj : (stageRt s r i).conv = some j) (he : j.ended = false) (hf : j.finishing = true)
    (hmode : j.mode = 0) (hl : j.lost = false) (ho : j.output = some o) (hs : surfOf s o = some f)
    (hm : mixFrames s j f.format f.width f.height = some m) (hcut : m.2.2.1 = false) :
    convFinish s r = endJob (convWrite s r (atD g.units 0 0) j o (some m.1) m.2.2.2) r i (atD g.units 0 0) j := by
  have running : ¬ (j.ended = true ∨ (!j.finishing) = true) := by simp [he, hf]
  simp only [convFinish, hc, hj, if_neg running, ho, hs, hl, hmode, hm, hcut]
  rfl
end

/-! ### The commands -/

section
variable {s : State} {r : ObjId} {i : Nat} {g : StageCfg} {j : ConvJob}

theorem exec_convertJobStart (h : Calm s) (e : spine (convStart s r) = spine s) :
    exec (.convertJobStart r) s = .next (convStart s r) := actNow_still h.still h.served.awake e

theorem exec_convertFold (t : Ticks) (h : Calm s) (e : spine (foldStart (tickTo t s) r) = spine s) :
    exec (.convertFold t r) s = .next (foldStart (tickTo t s) r) := act_still h.still h.served.awake e

theorem exec_convertFoldEnd (t : Ticks) (h : Calm s) (e : spine (foldEnd (tickTo t s) r) = spine s) :
    exec (.convertFoldEnd t r) s = .next (foldEnd (tickTo t s) r) := act_still h.still h.served.awake e

theorem exec_convertCutoff (h : Calm s) (e : spine (convCut s r) = spine s) :
    exec (.convertCutoff r) s = .next (convCut s r) := actNow_still h.still h.served.awake e

theorem exec_convertFinishEnd (t : Ticks) (h : Calm s) (e : spine (convFinish (tickTo t s) r) = spine s) :
    exec (.convertFinishEnd t r) s = .next (convFinish (tickTo t s) r) := act_still h.still h.served.awake e

theorem exec_tconvLateInput (t : Ticks) (o : ObjId) (h : Calm s) (e : spine (lateInput (tickTo t s) r o) = spine s) :
    exec (.tconvLateInput t r o) s = .next (lateInput (tickTo t s) r o) := act_still h.still h.served.awake e

end

/-- Settles O37: each command of a CONVERT stage is its body, which leaves waiting work as it is; the lemmas above say what
each body does to the stage's job. -/
theorem convertJobsRun : Obligations.ConvertJobsRun := by
  unfold Obligations.ConvertJobsRun
  intro t r i g s calm hc hi w x h
  have hcw : convStage w r = some (i, g) := hc
  refine ⟨?_, ?_, ?_, ?_, ?_, ?_⟩
  case refine_1 =>
    intro tk out ht hp hr hh hcv hj
    have st := convStart_starts hc hi ht hp hr hh hcv hj
    obtain ⟨j, hconv, of⟩ := st.job
    exact ⟨_, j, exec_convertJobStart calm st.keeps.spine, hconv, of.tk, of.tNext, of.hinge, of.cut, st.keeps.now⟩
  case refine_2 =>
    intro j hj he hf hcut hq
    have eq : foldStart w r = _ := foldStart_eq hc hj he hf hcut hq
    rw [exec_convertFold t calm (eq ▸ (keeps_putJob ..).spine)]
    exact congrArg _ eq
  case refine_3 =>
    intro j k q qs hj hf hq
    obtain ⟨hk, l, hl⟩ := foldEnd_ends hcw hi hj hf hq
    exact ⟨_, l, exec_convertFoldEnd t calm hk.spine, hl⟩
  case refine_4 =>
    intro j hj hcut he h3 h4
    obtain ⟨hk, k, hconv, hkcut, hdecided, hqueue⟩ := convCut_ends hc hi hj hcut he h3 h4
    exact ⟨_, k, exec_convertCutoff calm hk.spine, hconv, hkcut, hdecided, hqueue, hk.now⟩
  case refine_5 =>
    intro j hj he hf
    obtain ⟨hk, k, hconv, hended, hinputs⟩ := convFinish_ended hcw hi hj he hf
    refine ⟨_, k, exec_convertFinishEnd t calm hk.spine, hconv, hended, hinputs, fun o f m hmode hl ho hs hm hcut => ?_⟩
    have hpend : pendOf (convFinish w r) o =
        some (some { convRecord s r j (latestFrame m.2.2.2) with surface := o, position := f.position }) := by
      rw [convFinish_nearest hcw hj he hf hmode hl ho hs hm hcut, pendOf_endJob]
      exact pendOf_convWrite r w _ j hs m.1 m.2.2.2
    exact Option.map_eq_some_iff.1 hpend
  case refine_6 =>
    intro j o f rc hp hj ho hf hr hcut ht hu
    have eq : lateInput w r o = _ := lateInput_eq hc hp hj ho hf hr hcut ht hu
    rw [exec_tconvLateInput t o calm (eq ▸ (keeps_countLate ..).spine)]
    exact congrArg _ eq

/-! ### A route whose ID names a surface

A route that enters IDLE frees the accumulators of its TCONV units, and `freeSurface` drops the properties of the object that
it frees. Where a unit's accumulator has the route's own ID, that is `route.head`, and with it the head whose commits decide
whether a reservation still waits. -/

/-- The device with firmware running. -/
def awakeDevice : State :=
  { State.reset with
    cc := { ccReset with stage := 4, booted := true, bHold := false }
    power := { powerReset with inReset := false } }

def idlingRoute : ObjId := objId clsRoute 0
def accUnit : ObjId := objId clsTconv 0

/-- A commit that waits on head 0. -/
def headZeroCommit : Commit := ⟨5, .request 3 0 7 0, [], [], 0, none, 0, none, none, false, none, [], false, []⟩

/-- A reservation of the route for a commit that its head does not have. -/
def goneReservation : SliceRes := ⟨idlingRoute, 0, 1, 0, some 5, 2, 2, 0, false, []⟩

/-- A stopping route of head 5, whose TCONV unit has the route's ID as its accumulator; a surface has that ID. -/
def misnamedDevice : State :=
  let s := setProp (setProp awakeDevice idlingRoute pRouteState 0 2) idlingRoute pRouteHead 0 (headObj 5 : Nat)
  let s := setProp s accUnit pTconvAccSurface 0 (idlingRoute : Nat)
  let s := setSurf s idlingRoute (freshSurf idlingRoute 0x100000 0x4000 0x12 64 16 0 0 0 0 .host)
  let s := setRouteRt s idlingRoute { routeRt0 with units := [[accUnit]] }
  let s := setHeadRt s 0 { headRt0 with commits := [headZeroCommit] }
  { s with slices := [goneReservation] }

theorem misnamedDevice_calm : Calm misnamedDevice := by
  refine ⟨⟨?_, ?_, ?_, ?_, ?_⟩, ?_, ?_, ?_⟩ <;> decide +kernel

/-- The route is stopping, has no job, and meets what the statement asks of it. -/
theorem misnamedDevice_stopping : getProp misnamedDevice idlingRoute pRouteState = 2 ∧
    routeBusy misnamedDevice idlingRoute = false ∧ (routeRt misnamedDevice idlingRoute).removed = false ∧
    (∀ o ∈ (routeRt misnamedDevice idlingRoute).units.flatten, o ≠ idlingRoute) ∧ mapSorted misnamedDevice.props = true := by
  decide +kernel

/-- No commit of the route's head brings the reservation into effect. -/
theorem goneReservation_not_waits : resWaits misnamedDevice goneReservation = false := by decide +kernel

/-- The slices that a command leaves reserved. -/
def slicesAfter : Result → List SliceRes
  | .next u => u.slices
  | _ => []

/-- The end of the route's last job keeps the reservation. -/
theorem slicesAfter_routeLastJobEnd : slicesAfter (exec (.routeLastJobEnd 0 idlingRoute) misnamedDevice) = [goneReservation] := by
  decide +kernel

/-- Refutes O36: where a surface with the route's own ID is the accumulator of a unit of the route, freeing it drops `route.head`,
and a reservation of the route is kept for a commit that waits on another head. Allocation names surfaces by SURFACE IDs; the
statement has no premise that excludes a surface with the ID of the route. -/
theorem not_routesOfferShapeAndStop : ¬ Obligations.RoutesOfferShapeAndStop := by
  unfold Obligations.RoutesOfferShapeAndStop
  rintro ⟨-, h⟩
  obtain ⟨hstate, hbusy, hremoved, hunits, hsorted⟩ := misnamedDevice_stopping
  obtain ⟨u, hu, -, hwaits, -⟩ := (h 0 idlingRoute misnamedDevice misnamedDevice_calm).2 hstate hbusy hremoved hunits hsorted
  have hslices : u.slices = [goneReservation] := by
    have := slicesAfter_routeLastJobEnd
    rwa [hu] at this
  have hwait : resWaits misnamedDevice goneReservation = true := hwaits _ (by simp [hslices]) rfl
  rw [goneReservation_not_waits] at hwait
  exact Bool.false_ne_true hwait

end Sys2Proof.RouteJobs
end

section
/-! PROOFS. What display shows of the raster of a head: its events of a line, of a frame's end and of an underrun, the end of
retiming, and prefetch (O31). -/

namespace Sys2Proof.RasterEvents
open Machine RouteJobs

/-! ### What an event of the raster leaves as it is -/

/-- An event with a raster instant brings the clock to that instant, and does no other work. -/
theorem workPart_postAt (s : State) (t : Ticks) (c : Nat) (o : ObjId) (a : Nat) :
    workPart (postAt s t c o a) = { workPart s with now := max s.now t } :=
  congrArg (fun w : WorkPart => { w with now := max s.now t }) (workPart_postEvent { s with now := t } c o a)

@[simp] theorem spine_postAt (s : State) (t : Ticks) (c : Nat) (o : ObjId) (a : Nat) : spine (postAt s t c o a) = spine s :=
  congrArg WorkPart.spine (workPart_postAt s t c o a)

@[simp] theorem spine_updHead (s : State) (h : Nat) (f : HeadRt → HeadRt) : spine (updHead s h f) = spine s := rfl

@[simp] theorem headRt_updHead (s : State) (h : Nat) (f : HeadRt → HeadRt) : headRt (updHead s h f) h = f (headRt s h) :=
  mapGetD_mapPut_same ..

theorem lineAt_congr {s u : State} (e : u.props = s.props) (o : ObjId) (f : Ticks) (n : Nat) : lineAt u o f n = lineAt s o f n :=
  (show lineAt u o f n = lineAt { s with props := u.props } o f n from rfl).trans (by rw [e])

theorem headPorts_congr {s u : State} (e : u.props = s.props) (o : ObjId) : headPorts u o = headPorts s o := by
  simp only [headPorts, getPropN, getProp, e]

/-- Whether a head raises display events is read from the values and the places of the units alone. -/
theorem headShows_congr {s u : State} (ep : u.props = s.props) (eq : u.places = s.places) (h : Nat) :
    headShows u h = headShows s h := by
  simp only [headShows, placeGloved, unitRole, unitAt, getPropN, getProp, ep, eq]

@[simp] theorem headPorts_tickTo (t : Ticks) (s : State) (o : ObjId) : headPorts (tickTo t s) o = headPorts s o :=
  headPorts_congr rfl o

@[simp] theorem headPorts_updHead (s : State) (h : Nat) (f : HeadRt → HeadRt) (o : ObjId) :
    headPorts (updHead s h f) o = headPorts s o := headPorts_congr rfl o

@[simp] theorem headShows_tickTo (t : Ticks) (s : State) (h : Nat) : headShows (tickTo t s) h = headShows s h :=
  headShows_congr rfl rfl h

@[simp] theorem headShows_updHead (s : State) (h k : Nat) (f : HeadRt → HeadRt) : headShows (updHead s h f) k = headShows s k :=
  headShows_congr rfl rfl k

/-- Head `h` stands as before, but for what it noted of the lines of its events. -/
structure SameRaster (h : Nat) (s u : State) : Prop where
  props : u.props = s.props
  places : u.places = s.places
  head : ∃ ls, headRt u h = { headRt s h with lines := ls }

/-- On the same raster, once the clock has come to the instant of a line, that is still the line's instant. -/
theorem nextLine_of_sameRaster {h n : Nat} {s u : State} (r : SameRaster h s u) (e : u.now = max s.now (nextLine s h n).1) :
    nextLine u h n = nextLine s h n := by
  obtain ⟨ls, hhead⟩ := r.head
  simp only [nextLine, hhead, lineAt_congr r.props] at e ⊢
  cases hz : (headRt s h).prevZero with
  | none => rfl
  | some f =>
    simp only [hz] at e ⊢
    by_cases hc : s.now ≤ lineAt s (headObj h) f n
    · have hu : u.now ≤ lineAt s (headObj h) f n := by
        rw [e, if_pos hc]
        exact Nat.max_le.2 ⟨hc, Nat.le_refl _⟩
      simp only [hc, hu, if_true]
    · have hu : ¬ u.now ≤ lineAt s (headObj h) f n := fun hu => hc (Nat.le_trans (e ▸ Nat.le_max_left ..) hu)
      simp only [hc, hu, if_false]

/-! ### BLANK_START and LINE_MATCH -/

section
variable {s : State} {h n code bit low : Nat}

/-- A line event that is on and not yet raised at the line's instant is raised there, and noted. -/
theorem lineEvent_raised (hs : headShows s h = true) (hon : bitOf (getPropN s (headObj h) pHeadDisplayEvents) bit = true)
    (hnew : mapGet (headRt s h).lines bit ≠ some (nextLine s h n).1) :
    lineEvent s h n code bit low =
      postAt (updHead s h fun x => { x with lines := mapPut x.lines bit (nextLine s h n).1 }) (nextLine s h n).1 code (headObj h)
        ((nextLine s h n).2 % 2 ^ 32 * 2 ^ 32 + low) := by
  simp [lineEvent, hs, hon, hnew]

/-- A line event that is off, or that has been raised at the line's instant, takes time alone. -/
theorem lineEvent_passed (hs : headShows s h = true) (hoff : bitOf (getPropN s (headObj h) pHeadDisplayEvents) bit = false ∨
    mapGet (headRt s h).lines bit = some (nextLine s h n).1) :
    lineEvent s h n code bit low = tickTo (nextLine s h n).1 s := by
  rcases hoff with hoff | hold
  · simp [lineEvent, hs, hoff]
  · simp [lineEvent, hs, hold]

theorem spine_lineEvent : spine (lineEvent s h n code bit low) = spine s := by
  unfold lineEvent
  split
  · rfl
  · simp only
    split
    · rw [spine_postAt, spine_updHead]
    · rfl

/-- What a line event leaves: the clock at the line's instant, the raster, and what the head noted of other events. -/
structure LineEventLeft (h bit : Nat) (e : Ticks) (s u : State) : Prop where
  now : u.now = max s.now e
  raster : SameRaster h s u
  lines : ∀ k, k ≠ bit → mapGet (headRt u h).lines k = mapGet (headRt s h).lines k

theorem lineEvent_left (hs : headShows s h = true) :
    LineEventLeft h bit (nextLine s h n).1 s (lineEvent s h n code bit low) := by
  by_cases hoff : bitOf (getPropN s (headObj h) pHeadDisplayEvents) bit = false ∨
      mapGet (headRt s h).lines bit = some (nextLine s h n).1
  · rw [lineEvent_passed hs hoff]
    exact ⟨rfl, ⟨rfl, rfl, (headRt s h).lines, rfl⟩, fun _ _ => rfl⟩
  · obtain ⟨hon, hnew⟩ := not_or.1 hoff
    rw [lineEvent_raised hs (eq_true_of_ne_false hon) hnew]
    generalize (nextLine s h n).1 = e, (nextLine s h n).2 % 2 ^ 32 * 2 ^ 32 + low = arg
    let v := updHead s h fun x => { x with lines := mapPut x.lines bit e }
    have hw := workPart_postAt v e code (headObj h) arg
    have hv : headRt v h = { headRt s h with lines := mapPut (headRt s h).lines bit e } := headRt_updHead ..
    have hheads : headRt (postAt v e code (headObj h) arg) h = { headRt s h with lines := mapPut (headRt s h).lines bit e } :=
      (congrArg (fun w : WorkPart => mapGetD w.media.heads h headRt0) hw).trans hv
    refine ⟨congrArg WorkPart.now hw, ⟨congrArg WorkPart.props hw, congrArg (·.media.places) hw, _, hheads⟩, fun k hk => ?_⟩
    rw [hheads]
    exact mapGet_mapPut_ne _ _ hk

end

/-- The state on which LINE_MATCH comes: BLANK_START has come first where it has the same instant (R240). -/
def blankFirst (s : State) (h : Nat) : State := if matchAt s h = blankAt s h then blankStep s h else s

theorem matchStep_eq (s : State) (h : Nat) :
    matchStep s h = lineEvent (blankFirst s h) h (getPropN s (headObj h) pHeadMatchLine) 0x0703 1
      (getPropN s (headObj h) pHeadMatchLine) := rfl

theorem spine_matchStep (s : State) (h : Nat) : spine (matchStep s h) = spine s := by
  rw [matchStep_eq, spine_lineEvent, blankFirst]
  split
  · exact spine_lineEvent
  · rfl

/-- A BLANK_START of the same instant leaves what LINE_MATCH reads. -/
theorem blankFirst_left {s : State} {h : Nat} (hs : headShows s h = true) :
    headShows (blankFirst s h) h = true ∧
    getPropN (blankFirst s h) (headObj h) pHeadDisplayEvents = getPropN s (headObj h) pHeadDisplayEvents ∧
    nextLine (blankFirst s h) h (getPropN s (headObj h) pHeadMatchLine) = nextLine s h (getPropN s (headObj h) pHeadMatchLine) ∧
    mapGet (headRt (blankFirst s h) h).lines 1 = mapGet (headRt s h).lines 1 := by
  unfold blankFirst
  split
  next he =>
    have left : LineEventLeft h 0 (blankAt s h) s (blankStep s h) := lineEvent_left hs
    refine ⟨(headShows_congr left.raster.props left.raster.places h).trans hs, ?_, ?_, left.lines 1 (by decide)⟩
    · simp only [getPropN, getProp_congr left.raster.props]
    · exact nextLine_of_sameRaster left.raster (by rw [left.now, ← he]; rfl)
  next => exact ⟨hs, rfl, rfl, rfl⟩

/-- LINE_MATCH is raised after a BLANK_START of the same instant. -/
theorem matchStep_raised {s : State} {h : Nat} (hs : headShows s h = true)
    (hon : bitOf (getPropN s (headObj h) pHeadDisplayEvents) 1 = true) (hnew : mapGet (headRt s h).lines 1 ≠ some (matchAt s h)) :
    matchStep s h =
      postAt (updHead (blankFirst s h) h fun x => { x with lines := mapPut x.lines 1 (matchAt s h) }) (matchAt s h) 0x0703 (headObj h)
        ((nextLine s h (getPropN s (headObj h) pHeadMatchLine)).2 % 2 ^ 32 * 2 ^ 32 + getPropN s (headObj h) pHeadMatchLine) := by
  obtain ⟨hsb, honb, hnext, hlines⟩ := blankFirst_left hs
  rw [matchStep_eq, lineEvent_raised hsb (by rw [honb]; exact hon) (by rw [hlines, hnext]; exact hnew), hnext]
  rfl

/-- A LINE_MATCH that is off, or that has been raised at its instant, takes time alone, after a BLANK_START of that instant. -/
theorem matchStep_passed {s : State} {h : Nat} (hs : headShows s h = true)
    (hoff : bitOf (getPropN s (headObj h) pHeadDisplayEvents) 1 = false ∨ mapGet (headRt s h).lines 1 = some (matchAt s h)) :
    matchStep s h = tickTo (matchAt s h) (blankFirst s h) := by
  obtain ⟨hsb, honb, hnext, hlines⟩ := blankFirst_left hs
  rw [matchStep_eq, lineEvent_passed hsb (by rw [honb, hlines, hnext]; exact hoff), hnext]
  rfl

/-! ### The end of a frame, and underruns -/

/-- A frame reaches no port where no port names the head. -/
theorem sendFrame_of_no_ports {s : State} {h : Nat} (hp : headPorts s (headObj h) = []) (gs : List Grid) (us : List (Nat × Nat)) :
    sendFrame s h gs us = s := by
  simp [sendFrame, hp]

/-- At the last active pixel of a frame that nothing captures and no port sends, the head keeps the picture, and FRAME_DONE is
raised where it is on. -/
theorem frameDoneStep_eq {s : State} {h : Nat} (hs : headShows s h = true) (hc : (headRt s h).capturing = false)
    (hp : headPorts s (headObj h) = []) :
    frameDoneStep s h =
      let x := headRt s h
      let e := pixelAt s (headObj h) x.lineZero (getPropN s (headObj h) pHeadRaster 1 - 1) (getPropN s (headObj h) pHeadRaster 0)
      let v := updHead (tickTo e s) h fun y => { y with picture := frameGrids s h, pictureUnder := y.underAt }
      if bitOf (getPropN s (headObj h) pHeadDisplayEvents) 2 then
        postAt v e 0x0704 (headObj h) (x.frameHinge % 2 ^ 32 * 2 ^ 32 + x.underLines % 65536 + bit01 x.fromHold * 65536)
      else tickTo e v := by
  have hrun : getProp s (headObj h) pHeadRasterState = 2 := by
    simp only [headShows, Bool.and_eq_true, beq_iff_eq] at hs
    exact hs.1
  simp only [frameDoneStep, hrun, hc, ne_eq, not_true_eq_false, if_false, Bool.false_and, Bool.false_eq_true]
  rw [sendFrame_of_no_ports (by rw [headPorts_updHead, headPorts_tickTo, hp])]
  simp only [headShows_updHead, headShows_tickTo, hs, Bool.true_and]
  rfl

theorem spine_frameDoneStep {s : State} {h : Nat} (hs : headShows s h = true) (hc : (headRt s h).capturing = false)
    (hp : headPorts s (headObj h) = []) : spine (frameDoneStep s h) = spine s := by
  rw [frameDoneStep_eq hs hc hp]
  refine (apply_ite spine _ _ _).trans ?_
  rw [spine_postAt, spine_tickTo, spine_updHead, spine_tickTo]
  exact ite_self _

/-- The first underrun of a frame: scan-out lacks a pixel that head `h` fetches for the layer `l` at a position. -/
structure FirstUnderrun (s : State) (h line pixel position : Nat) (l : ObjId) : Prop where
  shows : headShows s h = true
  layer : (headLayers s h)[position]? = some l
  visible : getProp s l pLayerVisible = 1
  uncovered : getProp s l pLayerCovered = 0
  frame : showsFrame s l = true
  live : (headRt s h).fromHold = false
  line : line < getPropN s (headObj h) pHeadRaster 1
  pixel : pixel < getPropN s (headObj h) pHeadRaster 0
  area : rectEmpty (layerRects s h l).1 = false
  clean : (headRt s h).underAt = []
  unreported : (headRt s h).underLines = 0

/-- The first underrun of a frame is counted on the head and on the layer, noted, and reported with its line and pixel. -/
theorem underrunStep_first {s : State} {h line pixel position : Nat} {l : ObjId} (u : FirstUnderrun s h line pixel position l) :
    underrunStep s h line pixel position =
      postAt (updHead (bumpProp (bumpProp s (headObj h) pHeadUnderrunCount) l pLayerUnderruns) h fun y =>
          { y with underAt := y.underAt ++ [(line, pixel)], underLines := y.underLines + 1, captureUnder := y.captureUnder || y.capturing })
        (pixelAt s (headObj h) (headRt s h).lineZero line pixel) 0x0705 (headObj h)
        ((headRt s h).frameHinge % 2 ^ 32 * 2 ^ 32 + line % 2 ^ 14 + pixel % 2 ^ 14 * 2 ^ 14 + position % 16 * 2 ^ 28) := by
  have hline : ¬ getPropN s (headObj h) pHeadRaster 1 ≤ line := Nat.not_le.2 u.line
  have hpixel : ¬ getPropN s (headObj h) pHeadRaster 0 ≤ pixel := Nat.not_le.2 u.pixel
  simp [underrunStep, u.shows, u.layer, u.visible, u.uncovered, u.frame, u.live, u.area, u.clean, u.unreported, hline, hpixel]

/-! ### Retiming and prefetch -/

/-- Setting a head's raster state leaves the ports of the heads. -/
theorem headPorts_setRaster (s : State) (o q : ObjId) (v : Int) :
    headPorts (setProp s o pHeadRasterState 0 v) q = headPorts s q := by
  have hne (p : ObjId) (pid : Nat) (hp : pid < 0x10000) (hd : pid ≠ pHeadRasterState) :
      propKey p pid 0 ≠ propKey o pHeadRasterState 0 :=
    fun hk => hd (propKey_inj hp (by decide) (by decide) (by decide) hk).2.1
  simp only [headPorts, getPropN, getProp_setProp_ne _ _ _ _ _ _ _ _ (hne _ pPortOutHead (by decide) (by decide)),
    getProp_setProp_ne _ _ _ _ _ _ _ _ (hne _ pPortOutKind (by decide) (by decide))]

/-- On a head of no port, a new raster state is the property and RASTER_STATE. -/
theorem setRasterState_of_no_ports {s : State} {h v : Nat} (hp : headPorts s (headObj h) = [])
    (hv : getPropN s (headObj h) pHeadRasterState ≠ v) :
    setRasterState s h v = postEvent (setProp s (headObj h) pHeadRasterState 0 v) 0x0707 (headObj h)
      (getPropN s (headObj h) pHeadHingeCount % 2 ^ 32 * 2 ^ 32 + v) := by
  have hcount : getPropN (setProp s (headObj h) pHeadRasterState 0 v) (headObj h) pHeadHingeCount =
      getPropN s (headObj h) pHeadHingeCount := headCount_setProp (by decide) (by decide) s _ _ _
  simp only [setRasterState, hv, if_false, hcount]
  rw [headPorts_congr (postEvent_props ..), headPorts_setRaster, hp, List.foldl_nil]

/-- Resuming the streams of Panel Replay ends leaves waiting work and the heads. -/
theorem replayResume_left (s : State) (h : Nat) :
    spine (replayResume s h) = spine s ∧ (replayResume s h).heads = s.heads := by
  refine List.foldlRecOn (motive := fun u => spine u = spine s ∧ u.heads = s.heads) _ _ ⟨rfl, rfl⟩ fun u hu p _ => ?_
  split <;> exact hu

/-- Requests leave by the log alone. -/
theorem spine_fetchFrame (s : State) (h : Nat) : spine (fetchFrame s h) = spine s := by
  refine List.foldlRecOn (motive := fun u => spine u = spine s) _ _ rfl fun u hu y _ => ?_
  refine List.foldlRecOn (motive := fun u => spine u = spine s) _ _ hu fun u hu f _ => ?_
  exact List.foldlRecOn (motive := fun u => spine u = spine s) _ _ hu fun u hu e _ => hu

/-- At H+1L a running head requests what the next frame needs, unless it has done so. -/
theorem prefetchStep_running {s : State} {h : Nat}
    (hr : getProp s (headObj h) pHeadRasterState = 2 ∨ getProp s (headObj h) pHeadRasterState = 3) :
    prefetchStep s h =
      let a := replayResume (tickTo (afterHinge s h) s) h
      if (headRt s h).prefetched then a else fetchFrame (updHead a h fun x => { x with prefetched := true }) h := by
  have hhead : headRt (replayResume (tickTo (afterHinge s h) s) h) h = headRt s h :=
    congrArg (mapGetD · h headRt0) (replayResume_left ..).2
  have hrun : ¬ (getProp s (headObj h) pHeadRasterState ≠ 2 ∧ getProp s (headObj h) pHeadRasterState ≠ 3) :=
    fun hn => hr.elim hn.1 hn.2
  simp only [prefetchStep, hrun, if_false, hhead]

theorem spine_prefetchStep (s : State) (h : Nat) : spine (prefetchStep s h) = spine s := by
  have hresume : spine (replayResume (tickTo (afterHinge s h) s) h) = spine s := (replayResume_left ..).1
  simp only [prefetchStep]
  split
  · rfl
  · split
    · exact hresume
    · rw [spine_fetchFrame, spine_updHead, hresume]

/-! ### The commands -/

section
variable {s : State}

theorem exec_blankStart (h : Fin 24) (c : Calm s) : exec (.blankStart h) s = .next (blankStep s h.val) :=
  actNow_still c.still c.served.awake spine_lineEvent

theorem exec_lineMatch (h : Fin 24) (c : Calm s) : exec (.lineMatch h) s = .next (matchStep s h.val) :=
  actNow_still c.still c.served.awake (spine_matchStep s h.val)

theorem exec_frameDone (h : Fin 24) (c : Calm s) (e : spine (frameDoneStep s h.val) = spine s) :
    exec (.frameDone h) s = .next (frameDoneStep s h.val) := actNow_still c.still c.served.awake e

theorem exec_underrun (h : Fin 24) (line pixel position : Nat) (c : Calm s)
    (e : spine (underrunStep s h.val line pixel position) = spine s) :
    exec (.underrun h line pixel position) s = .next (underrunStep s h.val line pixel position) :=
  actNow_still c.still c.served.awake e

theorem exec_retimeLineZero (h : Fin 24) (c : Calm s) (e : spine (lineZeroStep s h.val) = spine s) :
    exec (.retimeLineZero h) s = .next (lineZeroStep s h.val) := actNow_still c.still c.served.awake e

theorem exec_prefetchStart (h : Fin 24) (c : Calm s) : exec (.prefetchStart h) s = .next (prefetchStep s h.val) :=
  actNow_still c.still c.served.awake (spine_prefetchStep s h.val)

end

/-- Settles O31: each command of the raster is its body, which leaves waiting work as it is; the lemmas above say what each body
does, and that a BLANK_START of the same instant leaves what LINE_MATCH reads. -/
theorem displayFollowsTheRaster : Obligations.DisplayFollowsTheRaster := by
  unfold Obligations.DisplayFollowsTheRaster
  constructor
  case left =>
    intro h s calm hs o x on low eb m em raised b
    refine ⟨?_, ?_, ?_, ?_, ?_, ?_⟩
    case refine_1 =>
      intro h0 hnew
      rw [exec_blankStart h calm, blankStep, lineEvent_raised hs h0 hnew, Nat.add_zero]
    case refine_2 =>
      intro h0
      rw [exec_blankStart h calm]
      exact congrArg _ (lineEvent_passed hs h0)
    case refine_3 =>
      intro h1 hnew
      rw [exec_lineMatch h calm]
      exact congrArg _ (matchStep_raised hs h1 hnew)
    case refine_4 =>
      intro h1
      rw [exec_lineMatch h calm]
      exact congrArg _ (matchStep_passed hs h1)
    case refine_5 =>
      intro hc hp e v
      rw [exec_frameDone h calm (spine_frameDoneStep hs hc hp), frameDoneStep_eq hs hc hp]
      exact ⟨fun h2 => congrArg _ (if_pos h2), fun h2 => congrArg _ (if_neg (ne_true_of_eq_false h2))⟩
    case refine_6 =>
      intro line pixel position l hl hv hcov hf hhold hline hpixel hr ha hn v
      have eq := underrunStep_first ⟨hs, hl, hv, hcov, hf, hhold, hline, hpixel, hr, ha, hn⟩
      rw [exec_underrun h line pixel position calm (by rw [eq, spine_postAt, spine_updHead, spine_bumpProp, spine_bumpProp])]
      exact congrArg _ eq
  case right =>
    intro h s calm o w v
    constructor
    case left =>
      intro h3 hp _
      have eq : lineZeroStep s h.val = postEvent v 0x0707 o (getPropN s o pHeadHingeCount % 2 ^ 32 * 2 ^ 32 + 2) := by
        have hne : getPropN w o pHeadRasterState ≠ 2 := by
          show (getProp s o pHeadRasterState).toNat ≠ 2
          rw [h3]
          decide
        simp only [lineZeroStep, o] at h3 ⊢
        rw [if_neg (fun hn => hn h3)]
        exact setRasterState_of_no_ports ((headPorts_tickTo ..).trans hp) hne
      rw [exec_retimeLineZero h calm (by rw [eq, spine_postEvent, spine_setProp, spine_tickTo]), eq]
    case right =>
      intro hr a
      rw [exec_prefetchStart h calm, prefetchStep_running hr]
      exact ⟨fun hp => congrArg _ (if_pos hp), fun hp => congrArg _ (if_neg (ne_true_of_eq_false hp))⟩

end Sys2Proof.RasterEvents
end

section
/-! PROOFS. Egress: what ANC_COPY and a packet of ST 2110 do, how a line of an SDI stream begins (O38), how the DisplayPort
link of a pin set is trained (O39), and a switchover of a lane whose core has a number that no core has (O40). -/

namespace Sys2Proof.EgressPorts
open Machine RouteJobs

/-! ### What egress ports leave as it is -/

theorem spine_foldl {α : Type} {f : State → α → State} (hf : ∀ s a, spine (f s a) = spine s) (l : List α) (s : State) :
    spine (l.foldl f s) = spine s := by
  induction l generalizing s with
  | nil => rfl
  | cons a l ih => exact (ih _).trans (hf s a)

@[simp] theorem spine_setDpPins (s : State) (n : Nat) (x : DpPins) : spine (setDpPins s n x) = spine s := rfl

@[simp] theorem spine_updOut (s : State) (p : ObjId) (f : PortOut → PortOut) : spine (updOut s p f) = spine s := rfl

/-- A posted event leaves what the egress ports hold. -/
theorem outOf_postEvent (s : State) (code : Nat) (o : ObjId) (arg : Nat) (p : ObjId) :
    outOf (postEvent s code o arg) p = outOf s p :=
  congrArg (fun w : WorkPart => mapGetD w.media.outs (objInst p) out0) (workPart_postEvent s code o arg)

@[simp] theorem spine_setPrState (s : State) (p : ObjId) (v : Nat) : spine (setPrState s p v) = spine s := by
  unfold setPrState
  split
  · rfl
  · rw [spine_postEvent, spine_setProp]

@[simp] theorem spine_setOutState (s : State) (p : ObjId) (v cause : Nat) : spine (setOutState s p v cause) = spine s := by
  unfold setOutState
  split
  · rfl
  · simp only
    split <;> simp

@[simp] theorem spine_dpTrain (s : State) (p : ObjId) (cause : Nat) : spine (dpTrain s p cause) = spine s :=
  spine_setOutState ..

/-- Whatever its head, its sink and its link give, a port keeps its state, starts training or takes another state. -/
@[simp] theorem spine_evalOut (s : State) (p : ObjId) (cause : Nat) : spine (evalOut s p cause) = spine s := by
  unfold evalOut
  simp only
  repeat' split
  all_goals simp

@[simp] theorem spine_trainPort (s : State) (p : ObjId) : spine (trainPort s p) = spine s := by
  unfold trainPort
  split
  · exact spine_dpTrain ..
  · exact spine_evalOut ..

@[simp] theorem spine_sendLegs (s : State) (p : ObjId) (ts : Nat) (marker : Bool) (payload : Nat → List Byte) :
    spine (sendLegs s p ts marker payload) = spine s := by
  unfold sendLegs
  rw [spine_updOut]
  refine spine_foldl (fun u leg => ?_) _ _
  dsimp only
  split <;> rfl

theorem spine_takeAudio (s : State) (p : ObjId) (n : Nat) : spine (takeAudio s p n).2 = spine s :=
  spine_foldl (f := fun s d => setDest s d { destOf s d with sent := (destOf s d).sent.drop n }) (fun _ _ => rfl) _ _

/-- Every end of ANC_COPY changes the port's packets or its count, or nothing. -/
theorem spine_ancCopy (s : State) (p : ObjId) (same : Bool) : spine (ancCopy s p same) = spine s := by
  unfold ancCopy
  simp only
  repeat' split
  all_goals rfl

/-- A packet of each kind leaves by its legs, and audio first leaves the channels that hold it. -/
theorem spine_packetSend (s : State) (p : ObjId) (f : SentFrame) (y k : Nat) : spine (packetSend s p f y k) = spine s := by
  unfold packetSend
  simp only
  repeat' split
  all_goals simp [spine_takeAudio]

/-! ### Ancillary packets (R252) -/

/-- A running port that inserts ancillary packets, and the newest complete frame of the ring that it takes them from. -/
structure AncOffered (s : State) (p : ObjId) (r : Ring) (o : ObjId) (f : Surf) (rc : FrameRec) : Prop where
  running : getProp s p pPortOutState = 2
  kind : getProp s p pPortOutKind = 1 ∨ getProp s p pPortOutKind = 4
  named : (outOf s p).ancRing ≠ 0
  ring : ringOf s (outOf s p).ancRing = some r
  newest : ringNewest s r = some (o, f, rc)

section
variable {s : State} {p o : ObjId} {r : Ring} {f : Surf} {rc : FrameRec}

/-- The packets of a frame that fit, and how many do not. -/
def ancFound (s : State) (p : ObjId) (f : Surf) : List AncPacket × Nat :=
  let bytes := memRead s.frame f.base (min f.size 65544)
  ancFit (lineRaster s p)
    (ancRecords (min (fieldAt bytes 4 4 % 2 ^ 31) 8192) ((bytes.drop 8).take (min (fieldAt bytes 0 4) 65536))) []

/-- What ANC_COPY does with a frame that it finds. -/
theorem ancCopy_offered (h : AncOffered s p r o f rc) (same : Bool) :
    ancCopy s p same =
      let x := outOf s p
      if !same then bumpProp (setOut s p { x with anc := [] }) p pPortOutAncSkipped
      else if x.lastAnc = some rc.frame then setOut s p { x with anc := [] }
      else bumpProp (setOut s p { x with anc := (ancFound s p f).1, lastAnc := some rc.frame }) p pPortOutAncSkipped 0
        (ancFound s p f).2 := by
  obtain ⟨hrun, hkind, hnamed, hring, hnewest⟩ := h
  have hgo : ¬ ((getProp s p pPortOutKind ≠ 1 ∧ getProp s p pPortOutKind ≠ 4) ∨ (outOf s p).ancRing = 0 ∨
      getProp s p pPortOutState ≠ 2) := by
    rintro (⟨h1, h4⟩ | hn | hr)
    · exact hkind.elim h1 h4
    · exact hnamed hn
    · exact hr hrun
  unfold ancCopy
  rw [if_neg hgo, hring]
  dsimp only
  rw [hnewest]
  rfl

end

/-! ### Packets of ST 2110 (R254 to R256) -/

section
variable {s : State} {p : ObjId} {f : SentFrame} {line k : Nat}

/-- A running port that is not silent sends. -/
theorem sends_of_running (hrun : getProp s p pPortOutState = 2) (hs : (outOf s p).silentTo ≤ s.now) :
    ¬ (getProp s p pPortOutState ≠ 2 ∨ s.now < (outOf s p).silentTo) :=
  fun h => h.elim (fun hn => hn hrun) (Nat.not_lt.2 hs)

/-- A packet of the lines of a frame: one of the `n` of an active line leaves at its instant, and nothing else does. -/
theorem packetSend_video (hrun : getProp s p pPortOutState = 2) (hs : (outOf s p).silentTo ≤ s.now)
    (hkind : getProp s p pPortOutKind = 2) :
    packetSend s p f line k =
      let n := linePackets s p
      let v := (portRaster s p).1.2.1
      let sampling := getPropN s p pPortOutSampling
      let m := samplingOf sampling
      if n ≤ k ∨ v ≤ line then s
      else sendLegs (tickTo (packetAt s p f.zero n line k) s) p (rtpTime f.hinge) (decide (line + 1 = v ∧ k + 1 = n)) fun seq =>
        videoPayload seq line m.2.2 n k (pixelGroup sampling)
          (lineSamples m.1 m.2.1 (portPlanes s p f.grids (portGaps s p f.zero f.under)) line) := by
  have hk : getPropN s p pPortOutKind = 2 := congrArg Int.toNat hkind
  unfold packetSend
  rw [if_neg (sends_of_running hrun hs), hk]
  rfl

/-- A packet of a port's one run of ancillary packets per frame. -/
theorem packetSend_anc {as : List AncPacket} (hrun : getProp s p pPortOutState = 2) (hs : (outOf s p).silentTo ≤ s.now)
    (hkind : getProp s p pPortOutKind = 4)
    (has : (ancGroups (getPropN s p pPortOutPacketSize - 20) (frameAnc s p) 0 [])[k]? = some as) :
    packetSend s p f line k =
      sendLegs s p (rtpTime (outOf s p).hinge)
        (decide (k + 1 = (ancGroups (getPropN s p pPortOutPacketSize - 20) (frameAnc s p) 0 []).length))
        fun seq => ancFlowPayload seq as := by
  have hk : getPropN s p pPortOutKind = 4 := congrArg Int.toNat hkind
  unfold packetSend
  rw [if_neg (sends_of_running hrun hs), hk]
  simp only [has]

end

/-- A port of one leg: its packet leaves where the leg's interface is up, and is numbered either way. -/
theorem sendLegs_one_leg {s : State} {p : ObjId} (h1 : getPropN s p pPortOutParent 1 = 0) (ts : Nat) (marker : Bool)
    (payload : Nat → List Byte) :
    sendLegs s p ts marker payload =
      let x := outOf s p
      let e := getPropN s p pPortOutParent 0
      let u := if e ≠ 0 ∧ getProp s e pPortInState ≠ 0 then
          emit s (.packet p 0 (netHeader s p 0) (x.seq % 65536) ts marker (payload x.seq)) else s
      setOut u p { x with seq := (x.seq + 1) % 2 ^ 32 } := by
  unfold sendLegs
  simp only [List.foldl_cons, List.foldl_nil]
  split
  next =>
    rw [if_neg fun h => h.1 h1]
    rfl
  next =>
    rw [if_neg fun h => h.1 h1]
    rfl

/-! ### A line of an SDI stream (R251) -/

/-- The words of a line before its CRC: the timing reference and the line number. -/
def lineHead (g : SdiPicture) (line : Nat) : List Nat :=
  trsWords (g.psf && decide (564 ≤ line)) (activeOn g.psf g.vAct g.vTot line).isNone true ++ lineNumberWords line

/-- A line is its head, the CRC that goes on over the head, and the rest. -/
theorem streamLine_words (g : SdiPicture) (line j crc : Nat) :
    ∃ rest, (streamLine g line j crc).1 = lineHead g line ++ (crcWords (crc18 crc (lineHead g line)) ++ rest) :=
  ⟨_, by simp only [streamLine, lineHead, List.append_assoc]; rfl⟩

/-! ### DisplayPort links (R257, R258) -/

theorem spine_dpHpdRise (s : State) (n : Nat) : spine (dpHpdRise s n) = spine s :=
  spine_foldl spine_trainPort _ _

theorem spine_dpHpdLow (s : State) (n : Nat) : spine (dpHpdLow s n) = spine s :=
  spine_foldl (f := fun s p => setOutState (setProp (setProp s p pPortOutDpLink 0 0) p pPortOutDpLink 1 255) p 5 5)
    (fun _ _ => spine_setOutState ..) _ _

theorem spine_dpIrqHpd (s : State) (n : Nat) : spine (dpIrqHpd s n) = spine s := by
  unfold dpIrqHpd
  split
  · exact spine_foldl (fun _ _ => spine_dpTrain ..) _ _
  · rfl

/-- The one port of a pin set is a DP port on that set. -/
theorem isDp_of_pinPorts {s : State} {n : Nat} {p : ObjId} (h : pinPorts s n = [p]) :
    isDp s p = true ∧ getPropN s p pPortOutAux = n := by
  have hp : p ∈ pinPorts s n := h ▸ List.mem_singleton_self p
  simpa only [Bool.and_eq_true, beq_iff_eq] using (List.mem_filter.1 hp).2

/-- Training runs on the one port of a pin set where a configuration qualifies. -/
theorem dpHpdRise_one {s : State} {n : Nat} {p : ObjId} (h : pinPorts s n = [p]) :
    dpHpdRise s n = trainPort (setDpPins s n { dpPinsOf s n with hpd := true }) p := by
  simp only [dpHpdRise, h, List.foldl_cons, List.foldl_nil]

theorem dpHpdLow_one {s : State} {n : Nat} {p : ObjId} (h : pinPorts s n = [p]) :
    dpHpdLow s n =
      setOutState (setProp (setProp (setDpPins s n dpPins0) p pPortOutDpLink 0 0) p pPortOutDpLink 1 255) p 5 5 := by
  simp only [dpHpdLow, h, List.foldl_cons, List.foldl_nil]

/-- IRQ_HPD trains the one port of a pin set that is plugged. -/
theorem dpIrqHpd_one {s : State} {n : Nat} {p : ObjId} (h : pinPorts s n = [p]) (hpd : (dpPinsOf s n).hpd = true)
    (hc : (dpChoose s p).isSome = true) : dpIrqHpd s n = dpTrain s p 5 := by
  simp only [dpIrqHpd, hpd, if_true, h, List.filter_cons, hc, List.filter_nil, List.foldl_cons, List.foldl_nil]

theorem dpIrqHpd_unplugged {s : State} {n : Nat} (hpd : (dpPinsOf s n).hpd = false) : dpIrqHpd s n = s :=
  if_neg (ne_true_of_eq_false hpd)

/-- What the sink reported when training ended. -/
def sinkSeen (s : State) (p : ObjId) (r : DpResult) : State :=
  setDpPins s (getPropN s p pPortOutAux)
    { portPins s p with sink := some (r.lanes, r.rate), sinkReplay := r.panelReplay, resync := r.resync }

/-- A link that came up on a configuration. -/
def linkUp (s : State) (p : ObjId) (c : Nat × Nat) : State :=
  postEvent (setProp (setProp s p pPortOutDpLink 0 c.1) p pPortOutDpLink 1 c.2) 0x0202 p (c.1 + c.2 * 16 + 256)

section
variable {s : State} {p : ObjId} {r : DpResult}

/-- A DP port in TRAINING. -/
structure Training (s : State) (p : ObjId) : Prop where
  dp : isDp s p = true
  state : getProp s p pPortOutState = 4

/-- The end of training, by the configuration that the sink and the stream leave. -/
theorem dpLinkDone_training (h : Training s p) :
    dpLinkDone s p r =
      let v := sinkSeen s p r
      match dpChoose v p with
      | none => setOutState v p 3 4
      | some c =>
        if r.success then
          let u := linkUp v p c
          let u := if r.panelReplay ∧ getProp u p pPortOutPrState = 0 then setPrState u p 1 else u
          evalOut u p (outOf u p).why
        else postEvent (updOut v p fun x => { x with failedAt := some v.now }) 0x0202 p (c.1 + c.2 * 16) := by
  have hgo : ¬ (!isDp s p || getProp s p pPortOutState != 4) = true := by simp [h.dp, h.state]
  unfold dpLinkDone
  rw [if_neg hgo]
  rfl

theorem dpLinkDone_mismatch (h : Training s p) (hc : dpChoose (sinkSeen s p r) p = none) :
    dpLinkDone s p r = setOutState (sinkSeen s p r) p 3 4 := by
  simp only [dpLinkDone_training h, hc]

theorem dpLinkDone_failed {c : Nat × Nat} (h : Training s p) (hc : dpChoose (sinkSeen s p r) p = some c) (hr : r.success = false) :
    dpLinkDone s p r =
      postEvent (updOut (sinkSeen s p r) p fun x => { x with failedAt := some s.now }) 0x0202 p (c.1 + c.2 * 16) := by
  simp only [dpLinkDone_training h, hc, hr, Bool.false_eq_true, if_false]
  rfl

theorem dpLinkDone_up {c : Nat × Nat} (h : Training s p) (hc : dpChoose (sinkSeen s p r) p = some c) (hr : r.success = true)
    (hp : r.panelReplay = false) : dpLinkDone s p r = evalOut (linkUp (sinkSeen s p r) p c) p (outOf s p).why := by
  have hwhy : outOf (linkUp (sinkSeen s p r) p c) p = outOf s p := outOf_postEvent ..
  simp only [dpLinkDone_training h, hc, hr, if_true, hp, Bool.false_eq_true, false_and, if_false, hwhy]

/-- However training ends, the link is reported and the port takes the state that follows. -/
theorem spine_dpLinkDone (s : State) (p : ObjId) (r : DpResult) : spine (dpLinkDone s p r) = spine s := by
  unfold dpLinkDone
  simp only
  repeat' split
  all_goals simp

/-- A link that could not be trained is trained again once 100 ms have passed. -/
theorem dpRetry_due {e : Ticks} (h : Training s p) (he : (outOf s p).failedAt = some e) (hdue : e + 100 * msT ≤ s.now)
    (hc : (dpChoose s p).isSome = true) : dpRetry s p = dpTrain s p (outOf s p).why := by
  obtain ⟨c, hc⟩ := Option.isSome_iff_exists.1 hc
  have hgo : ¬ (!isDp s p || getProp s p pPortOutState != 4 || decide (s.now < e + 100 * msT)) = true := by
    simp [h.dp, h.state, hdue]
  simp only [dpRetry, he, if_neg hgo, hc]

theorem dpRetry_early {e : Ticks} (he : (outOf s p).failedAt = some e) (hearly : s.now < e + 100 * msT) : dpRetry s p = s := by
  simp only [dpRetry, he, hearly, decide_true, Bool.or_true, if_true]

theorem spine_dpRetry (s : State) (p : ObjId) : spine (dpRetry s p) = spine s := by
  unfold dpRetry
  repeat' split
  all_goals simp

end

/-! ### The commands -/

section
variable {s : State}

theorem exec_ancCopy (t : Ticks) (copy : AncCopy) (c : Calm s) :
    exec (.ancCopy t copy) s = .next (ancCopy (tickTo t s) (objId clsPortOut copy.port.val) copy.unchanged) :=
  act_still c.still c.served.awake (spine_ancCopy ..)

theorem exec_st2110PacketSend (t : Ticks) (port : Fin 128) (line packet : Nat) (c : Calm s) :
    exec (.st2110PacketSend t port line packet) s = .next (packetSend (tickTo t s) (objId clsPortOut port.val)
      (sentFrame (tickTo t s) (objId clsPortOut port.val)) line packet) :=
  act_still c.still c.served.awake (spine_packetSend ..)

theorem exec_dpHpdRise (t : Ticks) (pins : Fin 16) (c : Calm s) :
    exec (.dpHpdRise t pins) s = .next (dpHpdRise (tickTo t s) pins.val) :=
  act_still c.still c.served.awake (spine_dpHpdRise ..)

theorem exec_dpHpdLow (t : Ticks) (pins : Fin 16) (c : Calm s) :
    exec (.dpHpdLow t pins) s = .next (dpHpdLow (tickTo t s) pins.val) :=
  act_still c.still c.served.awake (spine_dpHpdLow ..)

theorem exec_dpIrqHpd (t : Ticks) (pins : Fin 16) (c : Calm s) :
    exec (.dpIrqHpd t pins) s = .next (dpIrqHpd (tickTo t s) pins.val) :=
  act_still c.still c.served.awake (spine_dpIrqHpd ..)

theorem exec_dpLink (t : Ticks) (port : Fin 128) (r : DpResult) (c : Calm s) :
    exec (.dpLink t port r) s = .next (dpLinkDone (tickTo t s) (objId clsPortOut port.val) r) :=
  act_still c.still c.served.awake (spine_dpLinkDone ..)

theorem exec_dpTrainingRetry (t : Ticks) (port : Fin 128) (c : Calm s) :
    exec (.dpTrainingRetry t port) s = .next (dpRetry (tickTo t s) (objId clsPortOut port.val)) :=
  act_still c.still c.served.awake (spine_dpRetry ..)

end

/-- Settles O38: ANC_COPY and a packet are their bodies, a leg's packet leaves where its interface is up, and a line of a stream is
its head, the CRC of that head, and the rest. -/
theorem portsSendTheirFrames : Obligations.PortsSendTheirFrames := by
  unfold Obligations.PortsSendTheirFrames
  constructor
  case left =>
    intro t port s calm p w x hrun
    refine ⟨?_, ?_, ?_, ?_⟩
    case refine_1 =>
      intro r o f rc hkind hnamed hring hnewest bytes fit
      have h : AncOffered w p r o f rc := ⟨hrun, hkind, hnamed, hring, hnewest⟩
      have hexec (same : Bool) := (exec_ancCopy t ⟨port, same⟩ calm).trans (congrArg _ (ancCopy_offered h same))
      exact ⟨hexec false, fun hold => (hexec true).trans (congrArg _ (if_pos hold)),
        fun hnew => (hexec true).trans (congrArg _ (if_neg hnew))⟩
    case refine_2 =>
      intro line packet hs hkind f v n sampling m
      rw [exec_st2110PacketSend t port line packet calm, packetSend_video (s := w) hrun hs hkind]
      exact ⟨fun hk hl => congrArg _ (if_neg fun h => h.elim (Nat.not_le.2 hk) (Nat.not_le.2 hl)), fun h => congrArg _ (if_pos h)⟩
    case refine_3 =>
      intro line k as hs hkind runs has
      rw [exec_st2110PacketSend t port line k calm, packetSend_anc (s := w) hrun hs hkind has]
      rfl
    case refine_4 =>
      intro ts marker payload h1 e
      rw [sendLegs_one_leg (s := w) h1]
      refine ⟨fun hdown => ?_, fun he hup => ?_⟩
      · have : ¬ (e ≠ 0 ∧ getProp s e pPortInState ≠ 0) := fun h => hdown.elim h.1 h.2
        exact congrArg (setOut · p _) (if_neg this)
      · exact congrArg (setOut · p _) (if_pos ⟨he, hup⟩)
  case right =>
    intro g line j crc r
    obtain ⟨rest, hr⟩ := streamLine_words g line j crc
    rw [show r.1 = _ from hr]
    exact ⟨rfl, rfl, rfl⟩

/-- Settles O39: with one DP port on a pin set, each command is its body on that port. -/
theorem displayPortLinksTrain : Obligations.DisplayPortLinksTrain := by
  unfold Obligations.DisplayPortLinksTrain
  intro t port pins s calm p w x y hone
  obtain ⟨hdp, haux⟩ := isDp_of_pinPorts hone
  have hw : pinPorts w pins.val = [p] := hone
  refine ⟨?_, ?_, ?_, ?_, ?_, ?_, ?_⟩
  case refine_1 =>
    intro v
    rw [exec_dpHpdRise t pins calm, dpHpdRise_one hw]
    refine ⟨fun hc => congrArg _ (if_pos hc), fun hc => congrArg _ (if_neg fun hs => ?_)⟩
    exact Option.isSome_iff_ne_none.1 hs hc
  case refine_2 =>
    intro v
    rw [exec_dpHpdLow t pins calm, dpHpdLow_one hw]
  case refine_3 =>
    intro hpd hc
    rw [exec_dpIrqHpd t pins calm, dpIrqHpd_one hw hpd hc]
  case refine_4 =>
    intro hpd
    rw [exec_dpIrqHpd t pins calm]
    exact congrArg _ (dpIrqHpd_unplugged hpd)
  case refine_5 =>
    intro r hstate v
    have htrain : Training w p := ⟨hdp, hstate⟩
    have hv : sinkSeen w p r = v := by
      have haux : getPropN w p pPortOutAux = pins.val := haux
      simp only [sinkSeen, portPins, haux]
      rfl
    rw [exec_dpLink t port r calm]
    refine ⟨fun hc => ?_, fun c hc hr => ?_, fun c hc hr hp => ?_⟩
    · rw [dpLinkDone_mismatch htrain (hv ▸ hc), hv]
    · rw [dpLinkDone_failed htrain (hv ▸ hc) hr, hv]
      rfl
    · rw [dpLinkDone_up htrain (hv ▸ hc) hr hp, hv]
      rfl
  case refine_6 =>
    intro e he hdue hstate hc
    rw [exec_dpTrainingRetry t port calm]
    exact congrArg _ (dpRetry_due ⟨hdp, hstate⟩ he hdue hc)
  case refine_7 =>
    intro e he hearly
    rw [exec_dpTrainingRetry t port calm]
    exact congrArg _ (dpRetry_early he hearly)

/-! ### A lane whose core has a number that no core has

A state keeps all properties in one map, and an element of `system.core_state` with an index of 2²⁴ or more has the key of a
property of another object. -/

/-- An ID of the class SYSTEM that no object has. -/
def strayParent : ObjId := objId clsSystem 1

/-- The index at which `system.core_state` has the key of the stray parent's `port_in.state`. -/
def strayCore : Nat := propKey strayParent pPortInState 0 - propKey sysObj pSystemCoreState 0

def flowPort : ObjId := objId clsPortIn 0

/-- A frame whose lines are not written. -/
def openFrame : OpenFrame := ⟨0, none, none, [], 0, 0, [], 0, 0, 0, 0, 0, [], [], none, [], false, 0⟩

/-- Lane 0 is to move from the stray core to spare core 103. A running port has a frame open and the stray parent, which is of a kind
that receives on lane 0 and is STOPPED. -/
def strayDevice : State :=
  let s := setProp awakeDevice sysObj pSystemLaneCore 0 strayCore
  let s := setProp (setProp s flowPort pPortInKind 0 4) flowPort pPortInState 0 2
  let s := setProp s flowPort pPortInParent 0 strayParent
  let s := setProp (setProp s strayParent pPortInKind 0 1) strayParent pPortInLanes 0 0
  setLaneTx (setPortIn s flowPort { portIn0 with opened := some openFrame }) 0 { laneTx0 with sparing := some (103, 0) }

theorem strayDevice_calm : Calm strayDevice := by
  refine ⟨⟨?_, ?_, ?_, ?_, ?_⟩, ?_, ?_, ?_⟩ <;> decide +kernel

/-- The lane's switchover meets what the statement asks of it. -/
theorem strayDevice_switching : (laneTxOf strayDevice 0).sparing = some (103, 0) ∧
    workOf strayDevice 0 (coreOf strayDevice 0) = none ∧ portsOnLane strayDevice 0 = [] := by
  decide +kernel

/-- The frame that a command leaves open on the port. -/
def openAfter : Result → Option OpenFrame
  | .next u => (portIn u flowPort).opened
  | _ => none

/-- Reporting a switchover and noting its work leave what the port has open. -/
theorem openAfter_reported (s : State) (code : Nat) (o : ObjId) (arg : Nat) (k : UnitWork) :
    openAfter (.next (putWork (postEvent s code o arg) k)) = (portIn s flowPort).opened :=
  congrArg (fun w : WorkPart => (mapGetD w.media.ports (objInst flowPort) portIn0).opened) (workPart_postEvent s code o arg)

/-- Gloving the stray core starts the stray parent on lane 0, and the switchover cuts the frame short. -/
theorem openAfter_laneSpared : openAfter (exec (.laneSpared 0 0) strayDevice) = none := by
  decide +kernel

/-- Refutes O40: where the core of a lane has a number of 2²⁴ or more, gloving it changes a property of another object, here the
state of a port's parent, and the switchover cuts short the frame of a port that was not on the lane before. A device has 104 cores;
the statement has no premise that bounds the number of a lane's core. -/
theorem not_lanesAreSpared : ¬ Obligations.LanesAreSpared := by
  unfold Obligations.LanesAreSpared
  intro h
  obtain ⟨hsparing, hwork, hports⟩ := strayDevice_switching
  obtain ⟨-, -, -, -, -, hswitch⟩ := h 0 0 0 0 [] strayDevice strayDevice_calm
  have hspared := (hswitch 103 0 hsparing hwork).1 (by decide) hports
  have hopen := openAfter_laneSpared
  rw [hspared] at hopen
  rw [openAfter_reported] at hopen
  exact absurd hopen (by decide +kernel)

end Sys2Proof.EgressPorts
end

section
/-! PROOFS. Triggers and captures: an edge on a pin starts the filters of its triggers, a filter accepts its edge, a collection
times out, and the Cepra record of a frozen capture is built (O43). -/

namespace Sys2Proof.TriggersAndCaptures
open Machine RouteJobs

/-! ### What the updates leave of triggers and rings -/

/-- Of two values put under one key, the second stays. -/
theorem mapPut_mapPut_same {α : Type} (m : Map α) (j : Nat) (v w : α) : mapPut (mapPut m j v) j w = mapPut m j w := by
  induction m with
  | nil => simp only [mapPut, Nat.lt_irrefl, if_false, if_true]
  | cons e m ih =>
    simp only [mapPut]
    split
    · simp only [mapPut, Nat.lt_irrefl, if_false, if_true]
    · split
      · simp only [mapPut, Nat.lt_irrefl, if_false, if_true]
      · rename_i hlt hne
        simp only [mapPut, hlt, hne, if_false, ih]

theorem setTrig_setTrig (s : State) (n : Nat) (x y : TrigRt) : setTrig (setTrig s n x) n y = setTrig s n y :=
  congrArg (fun m => { s with trigs := m }) (mapPut_mapPut_same ..)

@[simp] theorem trigOf_setTrig (s : State) (n : Nat) (x : TrigRt) : trigOf (setTrig s n x) n = x := mapGetD_mapPut_same ..

theorem trigOf_setTrig_ne {i n : Nat} (h : i ≠ n) (s : State) (x : TrigRt) : trigOf (setTrig s n x) i = trigOf s i :=
  mapGetD_mapPut_ne _ _ _ h

theorem objInst_objId_trigger {n : Nat} (hn : n < 32) : objInst (objId clsTrigger n) = n := by
  unfold objInst objId
  omega

@[simp] theorem ringOf_setProp (s : State) (o q : ObjId) (p i : Nat) (v : Int) : ringOf (setProp s q p i v) o = ringOf s o := rfl

@[simp] theorem ringOf_setTrig (s : State) (n : Nat) (x : TrigRt) (o : ObjId) : ringOf (setTrig s n x) o = ringOf s o := rfl

@[simp] theorem ringOf_setRing (s : State) (o : ObjId) (r : Ring) : ringOf (setRing s o r) o = some r := mapGet_mapPut_same ..

@[simp] theorem ringOf_postEvent (s : State) (o q : ObjId) (code arg : Nat) : ringOf (postEvent s code q arg) o = ringOf s o :=
  congrArg (fun w : WorkPart => mapGet w.media.rings o) (workPart_postEvent s code q arg)

@[simp] theorem ringOf_capProps (s : State) (o q : ObjId) : ringOf (capProps s q) o = ringOf s o := by
  unfold capProps
  split <;> rfl

@[simp] theorem spine_capProps (s : State) (o : ObjId) : spine (capProps s o) = spine s := by
  unfold capProps
  split
  · rfl
  · rw [spine_setProp, spine_setProp, spine_setProp]

/-! ### An edge on a pin (R300) -/

theorem acceptAt_idle {s : State} {n : Nat} (h : (trigOf s n).edge = none) : acceptAt s n = none := by
  simp only [acceptAt, h, Option.map_none]

/-- A filter that does not run accepts nothing. -/
theorem filterAccept_idle {s : State} {o : ObjId} (h : (trigOf s (objInst o)).edge = none) : filterAccept s o = s := by
  simp only [filterAccept, acceptAt_idle h]

/-- The runtime of trigger `n` after an edge on a pin: its filter holds the edge where the pin is its own. -/
def trigAfterEdge (s : State) (pin : Nat) (rising : Bool) (n : Nat) : TrigRt :=
  if getProp s (objId clsTrigger n) pTriggerPin = (pin : Int) then
    { trigOf s n with edge := if edgeSelected s (objId clsTrigger n) rising then some (stampOf s.now, rising) else none }
  else trigOf s n

/-- What an edge on a pin does to one trigger: the body of `triggerEdge`. -/
def edgeAtTrigger (pin : Nat) (rising : Bool) (s : State) (o : ObjId) : State :=
  if getProp s o pTriggerPin ≠ pin then s
  else
    let s := filterAccept s o
    let x := trigOf s (objInst o)
    setTrig s (objInst o) { x with edge := if edgeSelected s o rising then some (stampOf s.now, rising) else none }

theorem triggerEdge_eq (s : State) (pin : Nat) (rising : Bool) :
    triggerEdge s pin rising = (objsOf s clsTrigger).foldl (edgeAtTrigger pin rising) s := rfl

/-- A trigger on another pin sees no edge. -/
theorem edgeAtTrigger_other {s : State} {pin : Nat} {rising : Bool} {o : ObjId} (h : getProp s o pTriggerPin ≠ (pin : Int)) :
    edgeAtTrigger pin rising s o = s := if_pos h

/-- A trigger on the pin, whose filter does not run, takes the edge into its filter. -/
theorem edgeAtTrigger_own {s : State} {pin n : Nat} {rising : Bool} (hn : n < 32)
    (hpin : getProp s (objId clsTrigger n) pTriggerPin = (pin : Int)) (hidle : (trigOf s n).edge = none) :
    edgeAtTrigger pin rising s (objId clsTrigger n) = setTrig s n (trigAfterEdge s pin rising n) := by
  have hinst := objInst_objId_trigger hn
  have hpass : filterAccept s (objId clsTrigger n) = s := filterAccept_idle (hinst.symm ▸ hidle)
  rw [edgeAtTrigger, if_neg (Classical.not_not.2 hpin), trigAfterEdge, if_pos hpin, hpass]
  simp only [hinst]

/-- State `u` is `s` after the first `k` triggers have seen an edge on a pin. -/
structure EdgeSeen (s : State) (pin : Nat) (rising : Bool) (k : Nat) (u : State) : Prop where
  frame : u = { s with trigs := u.trigs }
  trigs : ∀ n, trigOf u n = if n < k then trigAfterEdge s pin rising n else trigOf s n

section
variable {s u : State} {pin k : Nat} {rising : Bool}

theorem EdgeSeen.props (h : EdgeSeen s pin rising k u) (o : ObjId) (p : Nat) : getProp u o p = getProp s o p :=
  getProp_congr (congrArg State.props h.frame) o p 0

/-- What the triggers before it make of the edge does not matter to a trigger. -/
theorem EdgeSeen.trigAfterEdge_eq (h : EdgeSeen s pin rising k u) : trigAfterEdge u pin rising k = trigAfterEdge s pin rising k := by
  have hold : trigOf u k = trigOf s k := (h.trigs k).trans (if_neg (Nat.lt_irrefl k))
  obtain ⟨m, rfl⟩ : ∃ m, u = { s with trigs := m } := ⟨_, h.frame⟩
  simp only [trigAfterEdge, hold]
  rfl

/-- The next trigger sees the edge, where no edge waits in a filter on the pin. -/
theorem EdgeSeen.next (h : EdgeSeen s pin rising k u) (hk : k < 32)
    (hidle : getProp s (objId clsTrigger k) pTriggerPin = (pin : Int) → (trigOf s k).edge = none) :
    EdgeSeen s pin rising (k + 1) (edgeAtTrigger pin rising u (objId clsTrigger k)) := by
  have hold : trigOf u k = trigOf s k := (h.trigs k).trans (if_neg (Nat.lt_irrefl k))
  by_cases hpin : getProp s (objId clsTrigger k) pTriggerPin = (pin : Int)
  case pos =>
    rw [edgeAtTrigger_own hk ((h.props ..).trans hpin) (hold ▸ hidle hpin), h.trigAfterEdge_eq]
    refine ⟨congrArg (setTrig · k _) h.frame, fun n => ?_⟩
    by_cases hn : n = k
    · subst hn
      rw [trigOf_setTrig, if_pos (Nat.lt_succ_self n)]
    · rw [trigOf_setTrig_ne hn, h.trigs n]
      simp only [show n < k + 1 ↔ n < k by omega]
  case neg =>
    rw [edgeAtTrigger_other fun e => hpin ((h.props ..).symm.trans e)]
    refine ⟨h.frame, fun n => ?_⟩
    by_cases hn : n = k
    · subst hn
      rw [hold, if_pos (Nat.lt_succ_self n), trigAfterEdge, if_neg hpin]
    · rw [h.trigs n]
      simp only [show n < k + 1 ↔ n < k by omega]

/-- After the first `k` triggers, each of them has seen the edge. -/
theorem edgeSeen_range (hk : k ≤ 32)
    (hidle : ∀ n, n < 32 → getProp s (objId clsTrigger n) pTriggerPin = (pin : Int) → (trigOf s n).edge = none) :
    EdgeSeen s pin rising k (((List.range k).map (objId clsTrigger)).foldl (edgeAtTrigger pin rising) s) := by
  induction k with
  | zero => exact ⟨rfl, fun n => (if_neg (Nat.not_lt_zero n)).symm⟩
  | succ k ih =>
    rw [List.range_succ, List.map_append, List.foldl_append]
    exact (ih (by omega)).next hk (hidle k hk)

end

/-- Where no other object is of the class, the triggers are the 32 that exist from reset. -/
theorem objsOf_trigger {s : State} (h : ∀ o ∈ s.objs, objCls o ≠ clsTrigger) :
    objsOf s clsTrigger = (List.range 32).map (objId clsTrigger) := by
  have hnone : (s.objs.filter fun o => objCls o == clsTrigger) = [] :=
    List.filter_eq_nil_iff.2 fun o ho => fun e => h o ho (beq_iff_eq.1 e)
  unfold objsOf
  rw [hnone, List.append_nil]
  rfl

/-- An edge on a pin in whose filters no edge waits: every trigger sees it, and nothing else changes. -/
theorem triggerEdge_seen {s : State} {pin : Nat} {rising : Bool} (hobjs : ∀ o ∈ s.objs, objCls o ≠ clsTrigger)
    (hidle : ∀ n, n < 32 → getProp s (objId clsTrigger n) pTriggerPin = (pin : Int) → (trigOf s n).edge = none) :
    EdgeSeen s pin rising 32 (triggerEdge s pin rising) := by
  rw [triggerEdge_eq, objsOf_trigger hobjs]
  exact edgeSeen_range (Nat.le_refl 32) hidle

/-! ### A filter accepts its edge (R300, R301) -/

/-- The edge `te` waits in the filter of trigger `n`, the filter is to accept it by now, and no other filter accepts at that
instant. -/
structure AcceptsAlone (s : State) (n : Nat) (te : Ticks) (rising : Bool) : Prop where
  inRange : n < 32
  edge : (trigOf s n).edge = some (te, rising)
  due : te + getPropN s (objId clsTrigger n) pTriggerFilter * nsT ≤ s.now
  alone : ∀ k, k < 32 → k ≠ n → acceptAt s k ≠ acceptAt s n

section
variable {s : State} {n : Nat} {te : Ticks} {rising : Bool}

/-- The state in which the filter of trigger `n` has given its edge up. -/
def edgeTaken (s : State) (n : Nat) : State := setTrig s n { trigOf s n with edge := none }

theorem acceptAt_edge (h : (trigOf s n).edge = some (te, rising)) :
    acceptAt s n = some (te + getPropN s (objId clsTrigger n) pTriggerFilter * nsT) := by
  simp only [acceptAt, h, Option.map_some]

/-- The one filter that accepts at its instant. -/
theorem AcceptsAlone.filters (h : AcceptsAlone s n te rising) :
    ((List.range 32).filter fun k => acceptAt s k == acceptAt s n) = [n] := by
  have hsame : ∀ k ∈ List.range 32, (acceptAt s k == acceptAt s n) = (k == n) := fun k hk => by
    by_cases hkn : k = n
    · rw [hkn, beq_self_eq_true, beq_self_eq_true]
    · rw [beq_eq_false_iff_ne.2 hkn, beq_eq_false_iff_ne.2 (h.alone k (List.mem_range.1 hk) hkn)]
  rw [List.filter_congr hsame, List.filter_beq, List.nodup_range.count, if_pos (List.mem_range.2 h.inRange)]
  rfl

/-- A filter that accepts alone serves its trigger with the edge that waited. -/
theorem filterAccept_alone (h : AcceptsAlone s n te rising) :
    filterAccept s (objId clsTrigger n) = (fireTrigger (edgeTaken s n) (objId clsTrigger n) 0 te).2 := by
  have hat := acceptAt_edge h.edge
  have hone := h.filters
  rw [hat] at hone
  unfold filterAccept
  rw [objInst_objId_trigger h.inRange, hat]
  simp only [Nat.not_lt.2 h.due, if_false, hone, List.map_cons, List.map_nil, h.edge]
  rfl

end

section
variable {s : State} {o : ObjId} {kind : Nat} {ev : Ticks}

/-- A disabled trigger ignores its event. -/
theorem fireTrigger_disabled (h : getProp s o pTriggerEnable = 0) : fireTrigger s o kind ev = (none, trigIgnored s o) :=
  if_pos (Or.inl h)

/-- An enabled trigger that has not fired yet fires; with no rings none is served. -/
theorem fireTrigger_first (hen : getProp s o pTriggerEnable ≠ 0) (hlast : (trigOf s (objInst o)).lastFired = none)
    (hrings : s.rings = []) :
    (fireTrigger s o kind ev).2 =
      let at' := trigTimeOf s o ev
      postEvent (bumpProp (setTimeProp (setTrig s (objInst o) { trigOf s (objInst o) with lastFired := some ev })
        o pTriggerLast at') o pTriggerCount) 0x1001 o (kind * 65536 + nsOf at' % 2 ^ 32 * 2 ^ 32) := by
  have hnone (l : List ObjId) : (l.filter fun r => (ringOf s r).isSome) = [] :=
    List.filter_eq_nil_iff.2 fun r _ => by rw [ringOf, hrings]; exact Bool.false_ne_true
  simp only [fireTrigger, hen, hlast, Bool.not_true, Bool.false_eq_true, or_self, if_false, ringOf_setTrig, hnone,
    List.eraseDups_nil, List.foldl_nil, Nat.zero_mul, Nat.zero_add]

theorem spine_trigIgnored : spine (trigIgnored s o) = spine s := by
  unfold trigIgnored
  refine (apply_ite spine _ _ _).trans ?_
  rw [spine_postEvent]
  exact ite_self (spine s)

end

section
variable {s : State} {n : Nat} {te : Ticks} {rising : Bool}

/-- With no rings, an enabled trigger that has not fired yet fires on its edge. -/
theorem filterAccept_fires (h : AcceptsAlone s n te rising) (hen : getProp s (objId clsTrigger n) pTriggerEnable ≠ 0)
    (hlast : (trigOf s n).lastFired = none) (hrings : s.rings = []) :
    filterAccept s (objId clsTrigger n) =
      let o := objId clsTrigger n
      let at' := trigTimeOf s o te
      postEvent (bumpProp (setTimeProp (setTrig s n { trigOf s n with edge := none, lastFired := some te }) o pTriggerLast at')
        o pTriggerCount) 0x1001 o (nsOf at' % 2 ^ 32 * 2 ^ 32) := by
  have hx : trigOf (edgeTaken s n) n = { trigOf s n with edge := none } := trigOf_setTrig ..
  have hinst := objInst_objId_trigger h.inRange
  have hlast' : (trigOf (edgeTaken s n) (objInst (objId clsTrigger n))).lastFired = none := by rw [hinst, hx]; exact hlast
  rw [filterAccept_alone h, fireTrigger_first (s := edgeTaken s n) hen hlast' hrings, hinst, hx, edgeTaken, setTrig_setTrig]
  simp only [Nat.zero_mul, Nat.zero_add]
  rfl

/-- A disabled trigger ignores its edge. -/
theorem filterAccept_ignored (h : AcceptsAlone s n te rising) (hdis : getProp s (objId clsTrigger n) pTriggerEnable = 0) :
    filterAccept s (objId clsTrigger n) = trigIgnored (edgeTaken s n) (objId clsTrigger n) := by
  rw [filterAccept_alone h, fireTrigger_disabled (s := edgeTaken s n) hdis]

end

/-! ### A collection times out (R298) -/

section
variable {s : State} {o : ObjId} {r : Ring}

/-- The ring that a freeze leaves. -/
def frozenRing (s : State) (r : Ring) (timedOut : Bool) : Ring :=
  { r with
    cap := .frozen, collectEnd := none, frozenAt := s.now, timedOut := timedOut, frozenRtc := rtcNow s
    frozenFlags := 4 * bit01 ([0, 4].contains (getProp s sysObj pSystemTbState)) +
      8 * bit01 (getProp s sysObj pSystemRtcState != 2)
    table := [], cepra := [] }

/-- A ring that exists freezes: the freeze is shown and reported. -/
theorem freezeRing_eq (h : ringOf s o = some r) (timedOut : Bool) :
    freezeRing s o timedOut =
      postEvent (capProps (setRing s o (frozenRing s r timedOut)) o) 0x0403 o (r.post.length + 2 ^ 63 * bit01 timedOut) := by
  simp only [freezeRing, h]
  rfl

theorem ringOf_freezeRing (h : ringOf s o = some r) (timedOut : Bool) :
    ringOf (freezeRing s o timedOut) o = some (frozenRing s r timedOut) := by
  rw [freezeRing_eq h, ringOf_postEvent, ringOf_capProps, ringOf_setRing]

theorem spine_freezeRing (h : ringOf s o = some r) (timedOut : Bool) : spine (freezeRing s o timedOut) = spine s := by
  rw [freezeRing_eq h, spine_postEvent, spine_capProps, spine_setRing]

/-- A collection whose time is over freezes. -/
theorem postTimeout_due {T : Ticks} (h : ringOf s o = some r) (hcap : r.cap = .collecting) (hend : r.collectEnd = some T)
    (hT : T ≤ s.now) : postTimeout s o = freezeRing s o true := by
  simp only [postTimeout, h, hend]
  exact if_pos ⟨hcap, hT⟩

end

/-! ### The Cepra record (R309) -/

/-- An update that numbers a record or takes free values: rings stand, and nothing comes to wait. -/
structure KeepsRings (s u : State) : Prop where
  rings : u.rings = s.rings
  spine : spine u = spine s

theorem KeepsRings.trans {s u v : State} (h : KeepsRings s u) (k : KeepsRings u v) : KeepsRings s v :=
  ⟨k.rings.trans h.rings, k.spine.trans h.spine⟩

theorem keepsRings_cepraFrame (s : State) (o : Option ObjId) : KeepsRings s (cepraFrame s o).2 := by
  cases o <;> exact ⟨rfl, rfl⟩

theorem keepsRings_bumpIf (s : State) (c : Bool) (o : ObjId) (p : Nat) : KeepsRings s (if c then bumpProp s o p else s) := by
  cases c <;> exact ⟨rfl, rfl⟩

/-- The bytes that begin a Cepra record: its mark, its version and its size. -/
def cepraHead : List Byte := toLe 4 0x52504543 ++ toLe 2 1 ++ toLe 2 512

theorem take_of_cepraHead_prefix {record : List Byte} (h : cepraHead <+: record) : record.take 8 = cepraHead :=
  (List.prefix_iff_eq_take.1 h).symm

section
variable {s : State} {o : ObjId} {r : Ring}

/-- Whether the record of a ring's capture is signed: its key's slot has a key that signs records. -/
def cepraSigned (s : State) (o : ObjId) : Bool :=
  let k := getPropN s o pRingCepraKey
  let slot := if k = 0 then 2 else objInst k
  slotPolicy s slot == 2 && (slotPrivate s slot).isSome

/-- The state in which a record is written: a signed record is numbered, and its three frames are looked up. -/
def recordState (s : State) (r : Ring) (signed : Bool) : State :=
  let s := if signed then bumpProp s sysObj pSystemCepraCount else s
  let s := (cepraFrame s (heldFrames r).head?).2
  let s := (cepraFrame s r.post.head?).2
  (cepraFrame s (heldFrames r).getLast?).2

theorem keepsRings_recordState (s : State) (r : Ring) (signed : Bool) : KeepsRings s (recordState s r signed) :=
  (((keepsRings_bumpIf s signed sysObj pSystemCepraCount).trans (keepsRings_cepraFrame ..)).trans
    (keepsRings_cepraFrame ..)).trans (keepsRings_cepraFrame ..)

/-- The ring that holds a record and its table. -/
def recordedRing (s : State) (r : Ring) (record : List Byte) : Ring := { r with table := frameTable s r, cepra := record }

/-- The record of a frozen capture that has none is built with its table, and reported. -/
theorem cepraReady_frozen (h : ringOf s o = some r) (hcap : r.cap = .frozen) (hnone : r.cepra = []) :
    ∃ record arg, cepraHead <+: record ∧ cepraReady s o =
      postEvent (setRing (recordState s r (cepraSigned s o)) o (recordedRing s r record)) 0x0404 o arg := by
  have hgo : ¬ (r.cap ≠ .frozen ∨ (!r.cepra.isEmpty) = true) := by
    rw [hcap, hnone]
    decide
  have hupd (record : List Byte) :
      updRing (recordState s r (cepraSigned s o)) o (fun r' => { r' with table := frameTable s r, cepra := record }) =
        setRing (recordState s r (cepraSigned s o)) o (recordedRing s r record) := by
    have : ringOf (recordState s r (cepraSigned s o)) o = some r :=
      (congrArg (mapGet · o) (keepsRings_recordState ..).rings).trans h
    simp only [updRing, this]
    rfl
  unfold cepraReady
  simp only [h, if_neg hgo]
  refine ⟨_, _, ?_, congrArg (postEvent · 0x0404 o _) (hupd _)⟩
  simp only [cepraHead, List.append_assoc, List.prefix_append_right_inj, List.prefix_append]

end

/-! ### The obligation -/

/-- A command of a calm device is its body, where that leaves waiting work as it is. -/
theorem act_calm {s u : State} {t : Ticks} {ok : State → Bool} {f : State → State} (c : Calm s) (hok : ok (tickTo t s) = true)
    (hf : f (tickTo t s) = u) (hu : spine u = spine s) : act t ok f s = .next u := by
  subst hf
  exact act_still c.still hok hu

/-- Settles O43: every trigger on a pin sees its edge before the next one does; a filter that accepts alone fires or ignores its
trigger; a freeze and a record set their ring and report it. -/
theorem triggersFireAndCapturesFreeze : Obligations.TriggersFireAndCapturesFreeze := by
  unfold Obligations.TriggersFireAndCapturesFreeze
  intro t s calm w
  refine ⟨?_, ?_, ?_, ?_⟩
  case refine_1 =>
    intro pin rising hobjs hidle
    have h : EdgeSeen w pin.val rising 32 (triggerEdge w pin.val rising) := triggerEdge_seen hobjs hidle
    exact ⟨_, act_calm calm calm.served.awake h.frame rfl, fun n hn => (h.trigs n).trans (if_pos hn)⟩
  case refine_2 =>
    intro n te b o x at' hedge hdue halone
    have h : AcceptsAlone w n.val te b := ⟨n.isLt, hedge, hdue, halone⟩
    exact ⟨fun hen hlast hrings => act_calm calm calm.served.awake (filterAccept_fires h hen hlast hrings) (spine_postEvent ..),
      fun hdis => act_calm calm calm.served.awake (filterAccept_ignored h hdis) (spine_trigIgnored ..)⟩
  case refine_3 =>
    intro o r T h hcap hend hT
    exact ⟨_, _, act_calm calm calm.served.awake (postTimeout_due (s := w) h hcap hend hT) (spine_freezeRing (s := w) h true),
      ringOf_freezeRing (s := w) h true, rfl, rfl, rfl, rfl, rfl⟩
  case refine_4 =>
    intro o r h hcap hnone
    have hserved : served w = true := Bool.and_eq_true_iff.2 ⟨calm.served.awake, calm.served.runs⟩
    obtain ⟨record, arg, hhead, hbuilt⟩ := cepraReady_frozen (s := w) h hcap hnone
    have hspine : spine (cepraReady w o) = spine w := by
      rw [hbuilt, spine_postEvent, spine_setRing, (keepsRings_recordState ..).spine]
    exact ⟨_, _, act_calm calm hserved hbuilt (hbuilt ▸ hspine), (ringOf_postEvent ..).trans (ringOf_setRing ..), hcap, rfl,
      take_of_cepraHead_prefix hhead⟩

end Sys2Proof.TriggersAndCaptures
end

section
/-! PROOFS. References and the timebase: how references are measured and selected (O44), and how the timebase, its cadences and
the RTC follow the one selected (O45). -/

namespace Sys2Proof.ReferencesAndTimebase
open Machine
open RouteJobs (postEvent_props)
open EgressPorts (spine_foldl)
open TriggersAndCaptures (act_calm)

/-! ### What an event and a value leave as they are -/

/-- The clock, what the references and the timebase hold, and the spine: a posted event leaves all of it as it is. -/
structure ClockPart where
  now : Ticks
  time : TimePart
  spine : Spine

/-- The clock part of a state. -/
def clockPart (s : State) : ClockPart := ⟨s.now, timePart s, spine s⟩

theorem clockPart_signalVector (s : State) (v : Nat) : clockPart (signalVector s v) = clockPart s := by
  unfold signalVector
  split
  · rfl
  · split <;> rfl

theorem clockPart_ringSignal (s : State) (r : Nat) : clockPart (ringSignal s r) = clockPart s := by
  unfold ringSignal
  refine (apply_ite clockPart _ _ _).trans ?_
  rw [clockPart_signalVector]
  exact ite_self (clockPart s)

theorem clockPart_writeEvent (s : State) (at' : Ticks) (c : Nat) (o : ObjId) (a : Nat) :
    clockPart (writeEvent s at' c o a) = clockPart s := by
  unfold writeEvent
  simp only
  generalize (if c = 0x1302 ∨ c = 0x1303 then 0 else (subFor s c o).ring) = r
  split
  · rfl
  · split
    · rfl
    · exact clockPart_ringSignal _ _

@[simp] theorem clockPart_postEvent (s : State) (c : Nat) (o : ObjId) (a : Nat) : clockPart (postEvent s c o a) = clockPart s := by
  unfold postEvent
  split
  · rfl
  · split
    · rfl
    · exact clockPart_writeEvent _ _ _ _ _

@[simp] theorem postEvent_refs (s : State) (c : Nat) (o : ObjId) (a : Nat) : (postEvent s c o a).refs = s.refs :=
  congrArg (·.time.refs) (clockPart_postEvent s c o a)

@[simp] theorem postEvent_tb (s : State) (c : Nat) (o : ObjId) (a : Nat) : (postEvent s c o a).tb = s.tb :=
  congrArg (·.time.tb) (clockPart_postEvent s c o a)

@[simp] theorem getProp_postEvent (s : State) (c : Nat) (o q : ObjId) (a p i : Nat) :
    getProp (postEvent s c o a) q p i = getProp s q p i := getProp_congr (postEvent_props ..) q p i

@[simp] theorem clockPart_setProp (s : State) (o : ObjId) (p i : Nat) (v : Int) : clockPart (setProp s o p i v) = clockPart s := rfl

/-- A property set leaves the elements of every other property, of whatever object. -/
theorem getProp_setProp_pid {p p' i i' : Nat} (h : p' ≠ p) (s : State) (o o' : ObjId) (v : Int) (hp : p < 0x10000 := by decide)
    (hp' : p' < 0x10000 := by decide) (hi : i < 0x1000000 := by decide) (hi' : i' < 0x1000000 := by decide) :
    getProp (setProp s o p i v) o' p' i' = getProp s o' p' i' :=
  getProp_setProp_ne _ _ _ _ _ _ _ _ fun e => h (propKey_inj hp' hp hi' hi e).2.1

/-- A property set leaves every property of another object. -/
theorem getProp_setProp_obj {o o' : ObjId} (h : o' ≠ o) {p p' i i' : Nat} (s : State) (v : Int) (hp : p < 0x10000 := by decide)
    (hp' : p' < 0x10000 := by decide) (hi : i < 0x1000000 := by decide) (hi' : i' < 0x1000000 := by decide) :
    getProp (setProp s o p i v) o' p' i' = getProp s o' p' i' :=
  getProp_setProp_ne _ _ _ _ _ _ _ _ fun e => h (propKey_inj hp' hp hi' hi e).1

theorem refObj_ne_sysObj (n : Nat) : refObj n ≠ sysObj := by
  show (12 * 0x1000000 + n % 0x1000000 : Nat) ≠ 19 * 0x1000000 + 0
  omega

@[simp] theorem refRt_setRefRt (s : State) (n : Nat) (x : RefRt) : refRt (setRefRt s n x) n = x := mapGetD_mapPut_same ..

@[simp] theorem getProp_setRefRt (s : State) (n : Nat) (x : RefRt) (o : ObjId) (p i : Nat) :
    getProp (setRefRt s n x) o p i = getProp s o p i := rfl

theorem refRt_congr {s u : State} (h : u.refs = s.refs) (n : Nat) : refRt u n = refRt s n := congrArg (mapGetD · n ref0) h

section
variable {s : State} {o : ObjId} {p : Nat} (a b : Int)

/-- A pair that is set is read back. -/
theorem getProps_setProps_pair (hs : mapSorted s.props = true) (hp : p < 0x10000 := by decide) :
    getProps (setProps s o p 0 [a, b]) o p 0 2 = [a, b] := by
  have h0 : getProp (setProp (setProp s o p 0 a) o p 1 b) o p 0 = a :=
    (getProp_setProp_ne _ _ _ _ _ _ _ _ fun e => absurd (propKey_inj hp hp (by decide) (by decide) e).2.2 (by decide)).trans
      (getProp_setProp_same _ _ _ _ _ hs)
  have h1 : getProp (setProp (setProp s o p 0 a) o p 1 b) o p 1 = b :=
    getProp_setProp_same _ _ _ _ _ (setProp_sorted _ _ _ _ _ hs)
  simp only [getProps, setProps, h0, h1]

/-- A pair that is set leaves every other property. -/
theorem getProp_setProps_pair {p' i : Nat} (h : p' ≠ p) (o' : ObjId) (hp : p < 0x10000 := by decide) (hp' : p' < 0x10000 := by decide)
    (hi : i < 0x1000000 := by decide) : getProp (setProps s o p 0 [a, b]) o' p' i = getProp s o' p' i :=
  (getProp_setProp_pid h _ _ _ _ hp hp' (by decide) hi).trans (getProp_setProp_pid h _ _ _ _ hp hp' (by decide) hi)

theorem sorted_setProps_pair (hs : mapSorted s.props = true) : mapSorted (setProps s o p 0 [a, b]).props = true :=
  setProp_sorted _ _ _ _ _ (setProp_sorted _ _ _ _ _ hs)

end

/-! ### What selection leaves as it is (R317, R318) -/

/-- Work of selection, which gives another state only to references in `q`: nothing comes to wait, and what else is known of the
references stands. -/
structure Selects (q : ObjId → Prop) (s u : State) : Prop where
  spine : spine u = spine s
  refs : u.refs = s.refs
  values : ∀ n p i, p < 0x10000 → i < 0x1000000 → (p = pRefState → ¬ q (refObj n)) →
    getProp u (refObj n) p i = getProp s (refObj n) p i

section
variable {q : ObjId → Prop} {s u v : State}

theorem Selects.refl (q : ObjId → Prop) (s : State) : Selects q s s := ⟨rfl, rfl, fun _ _ _ _ _ _ => rfl⟩

theorem Selects.trans (h : Selects q s u) (k : Selects q u v) : Selects q s v :=
  ⟨k.spine.trans h.spine, k.refs.trans h.refs, fun n p i hp hi hq => (k.values n p i hp hi hq).trans (h.values n p i hp hi hq)⟩

theorem Selects.ite {c : Prop} [Decidable c] (hu : Selects q s u) (hv : Selects q s v) : Selects q s (if c then u else v) :=
  iteInduction (fun _ => hu) fun _ => hv

/-- A reference outside `q` keeps its state. -/
theorem Selects.refState_eq (h : Selects q s u) {n : Nat} (hn : ¬ q (refObj n)) : refState u n = refState s n :=
  congrArg Int.toNat (h.values n pRefState 0 (by decide) (by decide) fun _ => hn)

theorem Selects.detected_eq (h : Selects q s u) {n : Nat} :
    getProps u (refObj n) pRefDetected 0 2 = getProps s (refObj n) pRefDetected 0 2 := by
  simp only [getProps]
  rw [h.values n pRefDetected 0 (by decide) (by decide) fun e => absurd e (by decide),
    h.values n pRefDetected (0 + 1) (by decide) (by decide) fun e => absurd e (by decide)]

/-- Where all QUALIFIED references are in `q`, they still are. -/
theorem Selects.qualified_mem (h : Selects q s u) (hs : ∀ n, refState s n = 3 → q (refObj n)) (n : Nat) (hn : refState u n = 3) :
    q (refObj n) :=
  Classical.byContradiction fun hq => hq (hs n ((h.refState_eq hq).symm.trans hn))

/-- Where no reference changes its state, the same ones are QUALIFIED. -/
theorem Selects.qualified_eq (h : Selects (fun _ => False) s u) : qualified u = qualified s :=
  List.filter_congr fun n _ => by rw [h.refState_eq (n := n) id]

theorem selects_sysProp (s : State) (p : Nat) (v : Int) (hp : p < 0x10000 := by decide) : Selects q s (setProp s sysObj p 0 v) :=
  ⟨rfl, rfl, fun n _ _ hp' hi _ => getProp_setProp_obj (refObj_ne_sysObj n) s v hp hp' (by decide) hi⟩

theorem selects_tb (s : State) (x : Timebase) : Selects q s { s with tb := x } := ⟨rfl, rfl, fun _ _ _ _ _ _ => rfl⟩

theorem selects_postEvent (s : State) (c : Nat) (o : ObjId) (a : Nat) : Selects q s (postEvent s c o a) :=
  ⟨spine_postEvent .., postEvent_refs .., fun _ _ _ _ _ _ => getProp_postEvent ..⟩

theorem selects_settleTb (s : State) : Selects q s (settleTb s) := by
  unfold settleTb
  simp only
  split
  · exact .refl q s
  · exact (selects_sysProp ..).trans ((selects_tb ..).trans (selects_postEvent ..))

theorem selects_switchTo (s : State) (r : ObjId) : Selects q s (switchTo s r) := by
  unfold switchTo
  simp only
  split
  · exact .refl q s
  · have taken : Selects q s (setProp (setProp s sysObj pSystemRefSelected 0 r) sysObj pSystemDpllStage 0 0) :=
      (selects_sysProp ..).trans (selects_sysProp ..)
    exact taken.trans ((selects_tb ..).trans ((selects_tb ..).trans ((selects_postEvent ..).trans (selects_settleTb _))))

theorem selects_setRefState {n : Nat} (hn : q (refObj n)) (s : State) (st cause : Nat) : Selects q s (setRefState s n st cause) := by
  have given : Selects q s (setProp s (refObj n) pRefState 0 st) := by
    refine ⟨rfl, rfl, fun m p i hp hi hm => ?_⟩
    by_cases hpid : p = pRefState
    · exact getProp_setProp_obj (fun e : refObj m = refObj n => hm hpid (e ▸ hn)) s _ (by decide) hp (by decide) hi
    · exact getProp_setProp_pid hpid s _ _ _ (by decide) hp (by decide) hi
  unfold setRefState
  split
  · exact .refl q s
  · exact given.trans (selects_postEvent ..)

/-- A disagreement changes the state of the two references alone (Table 14.3). -/
theorem selects_judgePairs {inc : Nat} (hinc : q (refObj inc)) (ms : List Nat) (hms : ∀ m ∈ ms, q (refObj m)) (s : State) :
    Selects q s (judgePairs inc ms s) := by
  induction ms generalizing s with
  | nil => exact .refl q s
  | cons m ms ih =>
    have hm : q (refObj m) := hms m (List.mem_cons_self ..)
    have rest (u : State) : Selects q u (judgePairs inc ms u) := ih (fun k hk => hms k (List.mem_cons_of_mem _ hk)) u
    unfold judgePairs
    split
    · exact .refl q s
    · simp only
      split
      · exact (selects_tb ..).trans (rest _)
      · have reported {c : Prop} [Decidable c] (x : Timebase) (a : Nat) :
            Selects q s (if c then s else postEvent { s with tb := x } 0x0C03 (refObj inc) a) :=
          .ite (.refl q s) ((selects_tb ..).trans (selects_postEvent ..))
        refine .trans ?_ (rest _)
        split
        · exact (reported ..).trans (selects_switchTo ..)
        · exact (reported ..).trans ((selects_setRefState hinc ..).trans (selects_setRefState hm ..))
        · exact reported ..

theorem qualified_of_mem_topSet {n : Nat} (h : n ∈ topSet s) : refState s n = 3 := by
  have hq : n ∈ qualified s := by
    unfold topSet at h
    split at h
    · cases h
    · exact (List.mem_filter.1 h).1
  exact beq_iff_eq.1 (List.mem_filter.1 hq).2

theorem selects_selectOnce (hs : ∀ n, refState s n = 3 → q (refObj n)) : Selects q s (selectOnce s) := by
  have top (n : Nat) (h : n ∈ topSet s) : q (refObj n) := hs n (qualified_of_mem_topSet h)
  unfold selectOnce
  simp only
  split
  · exact selects_switchTo ..
  · split
    · next inc hinc =>
      exact selects_judgePairs (top inc (List.mem_of_find?_eq_some hinc)) _ (fun m hm => top m (List.mem_filter.1 hm).1) s
    · split
      · exact selects_switchTo ..
      · exact .refl q s

/-- Selection changes the states of QUALIFIED references alone. -/
theorem selects_selectEval (hs : ∀ n, refState s n = 3 → q (refObj n)) : Selects q s (selectEval s) :=
  have once := selects_selectOnce hs
  once.trans (selects_selectOnce (once.qualified_mem hs))

theorem selects_refChange (s : State) (n st cause : Nat) : Selects (fun _ => True) s (refChange s n st cause) := by
  unfold refChange
  split
  · exact .refl _ s
  · exact (selects_setRefState trivial ..).trans (selects_selectEval fun _ _ => trivial)

end

/-! ### The reference that selection takes (R317) -/

section
variable {s : State}

theorem getProp_settleTb {o : ObjId} {p : Nat} (h : p ≠ pSystemTbState) (hp : p < 0x10000 := by decide) :
    getProp (settleTb s) o p = getProp s o p := by
  unfold settleTb
  simp only
  split
  · rfl
  · rw [getProp_postEvent]
    exact getProp_setProp_pid h s _ _ _ (by decide) hp

/-- The reference switched to is the one selected. -/
theorem getPropN_switchTo (hs : mapSorted s.props = true) (r : ObjId) : getPropN (switchTo s r) sysObj pSystemRefSelected = r := by
  unfold switchTo
  simp only
  split
  · assumption
  · have taken : getProp (setProp (setProp s sysObj pSystemRefSelected 0 r) sysObj pSystemDpllStage 0 0) sysObj pSystemRefSelected
        = (r : Int) :=
      (getProp_setProp_pid (by decide) ..).trans (getProp_setProp_same _ _ _ _ _ hs)
    rw [getPropN, getProp_settleTb (by decide), getProp_postEvent]
    exact congrArg Int.toNat taken

theorem switchTo_selected {r : ObjId} (h : getPropN s sysObj pSystemRefSelected = r) : switchTo s r = s := if_pos h

theorem topSet_none (h : qualified s = []) : topSet s = [] := by
  simp only [topSet, h, bestRank, List.foldl_nil]

theorem topSet_one {m : Nat} (h : qualified s = [m]) : topSet s = [m] := by
  simp only [topSet, h, bestRank, List.foldl_cons, List.foldl_nil, List.filter_cons, beq_self_eq_true, if_true, List.filter_nil]

/-- A pass of selection where no reference is QUALIFIED. -/
theorem selectOnce_none (h : qualified s = []) : selectOnce s = switchTo s 0 := by
  simp only [selectOnce, topSet_none h]

/-- A pass of selection where one reference is QUALIFIED: it stays selected, or is switched to. -/
theorem selectOnce_one {m : Nat} (h : qualified s = [m]) : selectOnce s = switchTo s (refObj m) := by
  by_cases hsel : getPropN s sysObj pSystemRefSelected = refObj m
  · rw [switchTo_selected hsel]
    simp [selectOnce, topSet_one h, hsel, judgePairs]
  · simp [selectOnce, topSet_one h, hsel, mostAgreed]

/-- Where every pass that finds the same references QUALIFIED switches to `r`, the second pass finds `r` selected. -/
theorem selectEval_switchTo {r : ObjId} (hs : mapSorted s.props = true)
    (hpass : ∀ u, qualified u = qualified s → selectOnce u = switchTo u r) : selectEval s = switchTo s r := by
  rw [selectEval, hpass s rfl, hpass _ (selects_switchTo s r).qualified_eq, switchTo_selected (getPropN_switchTo hs r)]

end

/-! ### A reference is measured (R315, R316) -/

/-- State `u` has measured an event of reference `n` at `t` in `s`, with its phase error. -/
structure Measured (n : Nat) (t : Ticks) (e : Int) (s u : State) : Prop where
  spine : spine u = spine s
  event : (refRt u n).lastEvent = some t
  error : getProp u (refObj n) pRefPhaseError = e
  detected : getProps u (refObj n) pRefDetected 0 2 = getProps s (refObj n) pRefDetected 0 2

section
variable {n : Nat} {t : Ticks} {e : Int} {s u v : State}

/-- What follows a measurement for the reference's state leaves what was measured. -/
theorem Measured.selects (h : Measured n t e s u) (k : Selects (fun _ => True) u v) : Measured n t e s v where
  spine := k.spine.trans h.spine
  event := (congrArg RefRt.lastEvent (refRt_congr k.refs n)).trans h.event
  error := (k.values _ _ _ (by decide) (by decide) fun e => absurd e (by decide)).trans h.error
  detected := k.detected_eq.trans h.detected

theorem Measured.since (h : Measured n t e s u) (x : Option Ticks) :
    Measured n t e s (setRefRt u n { refRt u n with since := x }) :=
  ⟨h.spine, (congrArg RefRt.lastEvent (refRt_setRefRt ..)).trans h.event, h.error, h.detected⟩

/-- A reference whose timer of qualification is set goes to another state. -/
theorem Measured.change (h : Measured n t e s u) (x : Option Ticks) (st cause : Nat) :
    Measured n t e s (refChange (setRefRt u n { refRt u n with since := x }) n st cause) :=
  (h.since x).selects (selects_refChange ..)

/-- An enabled reference of a kind is measured. -/
theorem measured_measureRef (hen : getProp s (refObj n) pRefEnable ≠ 0) (hkind : getProp s (refObj n) pRefKind ≠ 0)
    (hs : mapSorted s.props = true) (period : Int) : Measured n t e s (measureRef s n t e period) := by
  have noted (x : RefRt) (hx : x.lastEvent = some t) :
      Measured n t e s (setRefRt (setProp s (refObj n) pRefPhaseError 0 e) n x) := by
    refine ⟨rfl, (congrArg RefRt.lastEvent (refRt_setRefRt ..)).trans hx, getProp_setProp_same _ _ _ _ _ hs, ?_⟩
    simp only [getProps, getProp_setRefRt]
    rw [getProp_setProp_pid (by decide), getProp_setProp_pid (by decide)]
  have judged {c : Prop} [Decidable c] (x : RefRt) (hx : x.lastEvent = some t) :
      Measured n t e s (if c then judgeDwell (setRefRt (setProp s (refObj n) pRefPhaseError 0 e) n x)
        else setRefRt (setProp s (refObj n) pRefPhaseError 0 e) n x) :=
    iteInduction (fun _ => (noted x hx).selects (selects_tb ..)) fun _ => noted x hx
  unfold measureRef
  rw [if_neg (not_or.2 ⟨hen, hkind⟩)]
  simp only
  split
  · exact (judged _ rfl).change ..
  · split
    · exact (judged _ rfl).change ..
    · split
      · exact judged _ rfl
      · exact (judged _ rfl).change ..

end

/-- The phase error of an event that comes now, of a reference with its detected rate. -/
def eventError (s : State) (n num den : Nat) : Int :=
  match alignPeriod (getPropN s (refObj n) pRefKind) num den with
  | some (a, b) => alignError a b s.now (getProp s (refObj n) pRefDelay * (nsT : Nat))
  | none => 0

section
variable {s : State} {n : Nat}

/-- An event of an enabled pin reference notes the detected rate and measures the reference. -/
theorem refEventStep_eq {num den : Nat} (hlo : 1 ≤ getPropN s (refObj n) pRefKind) (hhi : getPropN s (refObj n) pRefKind ≤ 5)
    (hen : getProp s (refObj n) pRefEnable ≠ 0) :
    ∃ period, refEventStep s n num den =
      measureRef (setProps s (refObj n) pRefDetected 0 [(num : Int), (den : Int)]) n s.now (eventError s n num den) period := by
  have hgo : ¬ (getPropN s (refObj n) pRefKind = 0 ∨ 6 ≤ getPropN s (refObj n) pRefKind ∨ getProp s (refObj n) pRefEnable = 0) := by
    rintro (h | h | h)
    · omega
    · omega
    · exact hen h
  have hdelay : getProp (setProps s (refObj n) pRefDetected 0 [(num : Int), (den : Int)]) (refObj n) pRefDelay =
      getProp s (refObj n) pRefDelay := getProp_setProps_pair _ _ (by decide) _
  unfold refEventStep eventError
  simp only [if_neg hgo, hdelay]
  cases alignPeriod (getPropN s (refObj n) pRefKind) num den with
  | none => exact ⟨0, rfl⟩
  | some a => exact ⟨_, rfl⟩

/-- The event of an enabled pin reference, with its rate, is measured. -/
theorem measured_refEventStep {num den : Nat} (hs : mapSorted s.props = true) (hlo : 1 ≤ getPropN s (refObj n) pRefKind)
    (hhi : getPropN s (refObj n) pRefKind ≤ 5) (hen : getProp s (refObj n) pRefEnable ≠ 0) :
    Measured n s.now (eventError s n num den) (setProps s (refObj n) pRefDetected 0 [(num : Int), (den : Int)])
      (refEventStep s n num den) := by
  obtain ⟨period, h⟩ := refEventStep_eq (num := num) (den := den) hlo hhi hen
  have hkind : getProp s (refObj n) pRefKind ≠ 0 := fun h0 => by
    rw [getPropN, h0] at hlo
    exact absurd hlo (by decide)
  have hread {p : Nat} (hp : p ≠ pRefDetected) (hp' : p < 0x10000 := by decide) :
      getProp (setProps s (refObj n) pRefDetected 0 [(num : Int), (den : Int)]) (refObj n) p = getProp s (refObj n) p :=
    getProp_setProps_pair _ _ hp _ (by decide) hp'
  rw [h]
  exact measured_measureRef (hread (p := pRefEnable) (by decide) ▸ hen) (hread (p := pRefKind) (by decide) ▸ hkind)
    (sorted_setProps_pair _ _ hs) period

/-! ### Loss, qualification and frequency (R315, R316) -/

/-- A reference that is given a state has it, selection done too, unless it is now QUALIFIED. -/
theorem refState_refChange {st cause : Nat} (hs : mapSorted s.props = true) (hst : st ≠ 3) :
    refState (refChange s n st cause) n = st := by
  unfold refChange
  split
  · assumption
  · next hne =>
    have given : refState (setRefState s n st cause) n = st := by
      rw [setRefState, if_neg hne, refState, getPropN, getProp_postEvent, getProp_setProp_same _ _ _ _ _ hs]
      rfl
    have hkept := selects_selectEval (q := fun o => ∃ m, refObj m = o ∧ refState (setRefState s n st cause) m = 3)
      fun m hm => ⟨m, rfl, hm⟩
    refine (hkept.refState_eq ?_).trans given
    rintro ⟨m, hmn, hm⟩
    exact hst (given.symm.trans ((congrArg (fun o => getPropN _ o pRefState) hmn).symm.trans hm))

/-- The state of a loss before selection: nothing is detected, and what was known of the reference is gone. -/
def lostRef (s : State) (n : Nat) : State := setRefRt (setProps s (refObj n) pRefDetected 0 [0, 0]) n ref0

theorem refLossStep_eq (h : 2 ≤ refState s n) : refLossStep s n = refChange (lostRef s n) n 1 1 := if_neg (Nat.not_lt.2 h)

/-- A reference whose time of qualification is over becomes QUALIFIED. -/
theorem refQualifiedStep_due {T : Ticks} (h : (refRt s n).since = some T) (hst : refState s n = 2)
    (hT : T + getPropN s (refObj n) pRefQualTime * secT ≤ s.now) : refQualifiedStep s n = refChange s n 3 4 := by
  simp only [refQualifiedStep, h]
  exact if_pos ⟨hst, hT⟩

theorem refQualifiedStep_early {T : Ticks} (h : (refRt s n).since = some T)
    (hT : s.now < T + getPropN s (refObj n) pRefQualTime * secT) : refQualifiedStep s n = s := by
  simp only [refQualifiedStep, h]
  exact if_neg fun hdue => Nat.not_lt.2 hdue.2 hT

theorem clampInt_of_natAbs_lt {a : Int} (h : a.natAbs < 2147483648) : clampInt (-2147483648) 2147483647 a = a := by
  rw [clampInt, if_neg (by omega), if_neg (by omega)]

/-- A frequency within the reference's limit is published as it is. -/
theorem refFreqStep_within {a b : Int} (hs : mapSorted s.props = true) (hst : 2 ≤ refState s n) (ha : a.natAbs < 2147483648)
    (hlimit : b.natAbs ≤ getPropN s (refObj n) pRefLimitPpm * 1000) (hb : b.natAbs < 2147483648) :
    refFreqStep s n a b = setProps s (refObj n) pRefFreqOffset 0 [a, b] := by
  have hread : refFreq (setProps s (refObj n) pRefFreqOffset 0 [a, b]) n = b :=
    getProp_setProp_same _ _ _ _ _ (setProp_sorted _ _ _ _ _ hs)
  have hppm : getPropN (setProps s (refObj n) pRefFreqOffset 0 [a, b]) (refObj n) pRefLimitPpm =
      getPropN s (refObj n) pRefLimitPpm := congrArg Int.toNat (getProp_setProps_pair _ _ (by decide) _)
  have hok : freqOk (setProps s (refObj n) pRefFreqOffset 0 [a, b]) n = true := by
    rw [freqOk, hread, hppm]
    exact decide_eq_true hlimit
  simp only [refFreqStep, if_neg (Nat.not_lt.2 hst), clampInt_of_natAbs_lt ha, clampInt_of_natAbs_lt hb, hok, Bool.not_true,
    Bool.false_eq_true, if_false]

end

/-! ### A PTP master is followed (R314) -/

/-- An enabled PTP reference whose port brings it its messages, and its domain. -/
structure Hears (s : State) (n domain : Nat) : Prop where
  kind : getPropN s (refObj n) pRefKind = 6
  enabled : getProp s (refObj n) pRefEnable ≠ 0
  domain : getPropN s (refObj n) pRefPtpDomain = domain
  port : ptpHears s (refObj n) = true

/-- What a reference knows of its master, set. -/
def setPtp (s : State) (n : Nat) (p : PtpClock) : State := setRefRt s n { refRt s n with ptp := p }

section
variable {s : State} {n domain : Nat}

theorem Hears.takes (h : Hears s n domain) :
    ¬ (getProp s (refObj n) pRefKind ≠ 6 ∨ getProp s (refObj n) pRefEnable = 0 ∨ getPropN s (refObj n) pRefPtpDomain ≠ domain ∨
      (!ptpHears s (refObj n)) = true) := by
  have hkind : getProp s (refObj n) pRefKind = 6 := by
    have := h.kind
    unfold getPropN at this
    omega
  simp only [hkind, h.enabled, h.domain, h.port, ne_eq, not_true_eq_false, Bool.not_true, Bool.false_eq_true, or_self,
    not_false_eq_true]

/-- The first master announced is followed, and its offset from UTC is taken. -/
theorem ptpStep_announce_first (h : Hears s n domain) (hm : (refRt s n).ptp.master = none) (prio gm : Nat) (utc : Int) :
    ptpStep s n domain (.announce prio gm utc) =
      setProp (setPtp s n { (refRt s n).ptp with master := some (prio, gm) }) sysObj pSystemUtcOffset 0 (clampInt (-1000) 1000 utc) := by
  simp only [ptpStep, if_neg h.takes, hm, if_true]
  rfl

/-- The arrival of a two-step Sync is noted, until its Follow_Up. -/
theorem ptpStep_sync_twoStep (h : Hears s n domain) (hm : (refRt s n).ptp.master ≠ none) (origin : Ticks) :
    ptpStep s n domain (.sync origin true) = setPtp s n { (refRt s n).ptp with pending := some s.now } := by
  have hsome : ¬ (refRt s n).ptp.master.isNone = true := fun e => hm (Option.isNone_iff_eq_none.1 e)
  simp only [ptpStep, if_neg h.takes, if_neg hsome, if_true]
  rfl

/-- A Follow_Up gives the origin of its Sync, and the path delay is asked for. -/
theorem ptpStep_followUp_first (h : Hears s n domain) {t2 : Ticks} (hp : (refRt s n).ptp.pending = some t2)
    (hpath : (refRt s n).ptp.path = none) (origin : Ticks) :
    ptpStep s n domain (.followUp origin) =
      setPtp (delayReq s (refObj n)) n { (refRt s n).ptp with t1 := origin, t2 := t2, t3 := s.now, pending := none } := by
  simp only [ptpStep, if_neg h.takes, hp, hpath]
  rfl

end

theorem ticking_of_awake {s : State} (h : awake s = true) : ticking s = true := by
  simp only [awake, Bool.and_eq_true, beq_iff_eq] at h
  simp [ticking, h]

/-! ### References are measured and selected -/

/-- Settles O44: an event is measured before selection, which changes the states of QUALIFIED references alone; where one or none
of them is QUALIFIED, the second pass of selection finds what the first has taken. -/
theorem referencesAreMeasuredAndSelected : Obligations.ReferencesAreMeasuredAndSelected := by
  unfold Obligations.ReferencesAreMeasuredAndSelected
  intro t n s calm hsorted o w x kind
  have hticks : ticking w = true := ticking_of_awake calm.served.awake
  have hserved : served w = true := Bool.and_eq_true_iff.2 ⟨calm.served.awake, calm.served.runs⟩
  refine ⟨?event, ?loss, ?qualified, ?frequency, ?none, ?one, ?ptp⟩
  case event =>
    intro num den hlo hhi hen
    have m : Measured n w.now (eventError w n num den) _ (refEventStep w n num den) := measured_refEventStep hsorted hlo hhi hen
    exact ⟨_, act_calm calm hticks rfl (m.spine.trans (spine_setProps ..)),
      m.detected.trans (getProps_setProps_pair _ _ hsorted), m.event, m.error⟩
  case loss =>
    intro hst
    have hlost : mapSorted (lostRef w n).props = true := sorted_setProps_pair _ _ hsorted
    have k := selects_refChange (lostRef w n) n 1 1
    exact ⟨_, act_calm calm hticks (refLossStep_eq (s := w) hst) (k.spine.trans (spine_setProps ..)),
      refState_refChange hlost (by decide), k.detected_eq.trans (getProps_setProps_pair _ _ hsorted),
      (refRt_congr k.refs n).trans (refRt_setRefRt ..)⟩
  case qualified =>
    intro T hsince hst
    exact ⟨fun hdue => act_calm calm hticks (refQualifiedStep_due (s := w) hsince hst hdue) (selects_refChange ..).spine,
      fun hearly => act_calm calm hticks (refQualifiedStep_early (s := w) hsince hearly) rfl⟩
  case frequency =>
    intro a b hst ha hlimit hb
    exact act_calm calm hticks (refFreqStep_within (s := w) hsorted hst ha hlimit hb) (spine_setProps ..)
  case none =>
    intro hnone
    exact act_calm calm hserved (selectEval_switchTo (s := w) hsorted fun u hu => selectOnce_none (hu.trans hnone))
      (selects_switchTo (q := fun _ => False) w 0).spine
  case one =>
    intro m hone
    exact act_calm calm hserved (selectEval_switchTo (s := w) hsorted fun u hu => selectOnce_one (hu.trans hone))
      (selects_switchTo (q := fun _ => False) w (refObj m)).spine
  case ptp =>
    intro domain hkind hen hdomain hport
    have h : Hears w n domain := ⟨hkind, hen, hdomain, hport⟩
    exact ⟨fun prio gm utc hm => act_calm calm calm.served.awake (ptpStep_announce_first h hm prio gm utc) rfl,
      fun origin hm => act_calm calm calm.served.awake (ptpStep_sync_twoStep h hm origin) rfl,
      fun origin t2 hp hpath => act_calm calm calm.served.awake (ptpStep_followUp_first h hp hpath origin) rfl⟩

/-! ### The timebase is pulled, stepped and takes the next stage (R319 to R321) -/

section
variable {s u : State}

@[simp] theorem spine_settleTb (s : State) : spine (settleTb s) = spine s := (selects_settleTb (q := fun _ => False) s).spine

/-- The clock part with what the timebase notes of having been locked. -/
def notedEver (c : ClockPart) (b : Bool) : ClockPart := { c with time := { c.time with tb := { c.time.tb with ever := b } } }

/-- At a change the timebase notes at most that it has been locked. -/
theorem clockPart_settleTb (s : State) : ∃ b, clockPart (settleTb s) = notedEver (clockPart s) b := by
  unfold settleTb
  simp only
  split
  · exact ⟨s.tb.ever, rfl⟩
  · exact ⟨_, clockPart_postEvent ..⟩

theorem clockPart_foldl {α : Type} {f : State → α → State} (hf : ∀ s a, clockPart (f s a) = clockPart s) (l : List α) (s : State) :
    clockPart (l.foldl f s) = clockPart s := by
  induction l generalizing s with
  | nil => rfl
  | cons a l ih => exact (ih _).trans (hf s a)

@[simp] theorem clockPart_updHead (s : State) (h : Nat) (f : HeadRt → HeadRt) : clockPart (updHead s h f) = clockPart s := rfl

@[simp] theorem clockPart_updOut (s : State) (p : ObjId) (f : PortOut → PortOut) : clockPart (updOut s p f) = clockPart s := rfl

@[simp] theorem clockPart_setPrState (s : State) (p : ObjId) (v : Nat) : clockPart (setPrState s p v) = clockPart s := by
  unfold setPrState
  split
  · rfl
  · rw [clockPart_postEvent, clockPart_setProp]

@[simp] theorem clockPart_setOutState (s : State) (p : ObjId) (v cause : Nat) : clockPart (setOutState s p v cause) = clockPart s := by
  unfold setOutState
  split
  · rfl
  · simp only
    split <;> simp

@[simp] theorem clockPart_dpTrain (s : State) (p : ObjId) (cause : Nat) : clockPart (dpTrain s p cause) = clockPart s := by
  unfold dpTrain
  rw [clockPart_setOutState, clockPart_updOut, clockPart_setProp, clockPart_setProp]

/-- Whatever its head, its sink and its link give, a port takes no time. -/
@[simp] theorem clockPart_evalOut (s : State) (p : ObjId) (cause : Nat) : clockPart (evalOut s p cause) = clockPart s := by
  unfold evalOut
  simp only
  repeat' split
  all_goals simp

@[simp] theorem clockPart_setRasterState (s : State) (h v : Nat) : clockPart (setRasterState s h v) = clockPart s := by
  unfold setRasterState
  simp only
  split
  · rfl
  · rw [clockPart_foldl (fun u p => clockPart_evalOut u p 1), clockPart_postEvent, clockPart_setProp]

/-- Retiming moves the raster of a head, and takes no time itself. -/
@[simp] theorem clockPart_retimeHead (s : State) (h : Nat) (th : Ticks) : clockPart (retimeHead s h th) = clockPart s := by
  unfold retimeHead
  rw [clockPart_updHead, clockPart_setRasterState]

/-- The timebase stepped by `d`: what is measured in elapsed time moves with it, nothing remains to pull, and heads retime. -/
def stepped (s : State) (d : Int) : State :=
  let s := setPull (shiftTimes { s with now := ((s.now : Nat) + d).toNat } d) 0
  { s with tb := { s.tb with retiming := some s.now } }

/-- What remains of the offset is beyond the threshold, and `system.tb_step_allow` permits a step (R320). -/
structure StepPermitted (s : State) : Prop where
  far : getPropN s sysObj pSystemTbStepThreshold * nsT < (tbRemaining s).natAbs
  allowed : getProp s sysObj pSystemTbStepAllow = 2 ∨ (getProp s sysObj pSystemTbStepAllow = 1 ∧ headsBusy s = false)

/-- A step that is permitted: what follows it for references and heads leaves the stepped clock. -/
theorem clockPart_stepTimebase (h : StepPermitted s) :
    ∃ b, clockPart (stepTimebase s) = notedEver (clockPart (stepped s (tbRemaining s))) b := by
  obtain ⟨far, allowed⟩ := h
  have hgo : ¬ ((tbRemaining s).natAbs ≤ getPropN s sysObj pSystemTbStepThreshold * nsT ∨
      getProp s sysObj pSystemTbStepAllow = 0 ∨ (getProp s sysObj pSystemTbStepAllow = 1 ∧ headsBusy s = true)) := by
    rcases allowed with h2 | ⟨h1, hidle⟩
    · simp [h2, far]
    · simp [h1, hidle, far]
  unfold stepTimebase
  simp only [if_neg hgo]
  obtain ⟨b, hb⟩ := clockPart_settleTb _
  refine ⟨b, hb.trans (congrArg (notedEver · b) ?_)⟩
  rw [clockPart_postEvent, clockPart_foldl ?heads, clockPart_foldl ?refs]
  case refs =>
    intro u n
    split <;> rfl
  case heads =>
    intro u h
    split
    · rfl
    · rfl
    · exact clockPart_retimeHead ..
  rfl

/-- A step that is not permitted, or within the threshold, is not taken. -/
theorem stepTimebase_refused (h : (tbRemaining s).natAbs ≤ getPropN s sysObj pSystemTbStepThreshold * nsT ∨
    getProp s sysObj pSystemTbStepAllow = 0 ∨ (getProp s sysObj pSystemTbStepAllow = 1 ∧ headsBusy s = true)) :
    stepTimebase s = s := if_pos h

/-- A step moves what a request in flight measures, and not what it waits for. -/
theorem still_stepped (h : Still s) (d : Int) : Still (stepped s d) where
  moves := h.moves
  fences := List.map_eq_nil_iff.2 h.fences
  delays := h.delays
  frees := List.all_map.trans h.frees
  reads := List.map_eq_nil_iff.2 h.reads

/-- A command that leaves nothing to be released is its body, and its end. -/
theorem act_of_still {t : Ticks} {ok : State → Bool} {f : State → State} (hok : ok (tickTo t s) = true)
    (h : Still (f (tickTo t s))) : act t ok f s = .next (finish s (f (tickTo t s))) := by
  simp only [act, follow, hok, if_true, settle_still _ h, ite_self]

/-- The end of a command takes no time where nothing is frozen. -/
theorem finish_clock (h : u.fsMoves = []) : (finish s u).now = u.now ∧ (finish s u).tb = u.tb := by
  have hdrop : dropFrozen u = u := by rw [dropFrozen, h, List.foldl_nil]
  simp only [finish, hdrop, and_self]

/-- A permitted step of a still device: the clock moves by what remained of the offset. -/
theorem act_stepTimebase {t : Ticks} (hs : Still s) (hok : served (tickTo t s) = true) (h : StepPermitted (tickTo t s)) :
    ∃ u, act t served stepTimebase s = .next u ∧
      (u.now : Int) = max 0 (((tickTo t s).now : Int) + tbRemaining (tickTo t s)) ∧
      u.tb.pull = 0 ∧ u.tb.pullAt = u.now ∧ u.tb.retiming = some u.now := by
  obtain ⟨b, hclock⟩ := clockPart_stepTimebase h
  have hstill : Still (stepTimebase (tickTo t s)) :=
    (still_stepped (hs.of_spine (u := tickTo t s) rfl) _).of_spine (congrArg ClockPart.spine hclock)
  have hnow : (stepTimebase (tickTo t s)).now = (((tickTo t s).now : Int) + tbRemaining (tickTo t s)).toNat :=
    congrArg ClockPart.now hclock
  have htb := congrArg (·.time.tb) hclock
  obtain ⟨hend, hendTb⟩ := finish_clock (s := s) hstill.moves
  refine ⟨_, act_of_still hok hstill, ?_⟩
  rw [hend, hendTb, hnow]
  exact ⟨(Int.toNat_eq_max _).trans (Int.max_comm ..), congrArg Timebase.pull htb, congrArg Timebase.pullAt htb, congrArg Timebase.retiming htb⟩

theorem pullDone_done (hpull : s.tb.pull ≠ 0) (hrest : tbRemaining s = 0) : pullDone s = settleTb (setPull s 0) :=
  if_neg (not_or.2 ⟨hpull, Classical.not_not.2 hrest⟩)

/-- The stage goes on after its dwell, where it is not the last. -/
theorem stageAdvance_due {T : Ticks} (h : s.tb.dwell = some T) (hsel : getProp s sysObj pSystemRefSelected ≠ 0)
    (hlast : lastStage s = false) (hT : T + (stageLimit (getPropN s sysObj pSystemDpllStage)).2 ≤ s.now)
    (hs : mapSorted s.props = true) :
    spine (stageAdvance s) = spine s ∧
      getProp (stageAdvance s) sysObj pSystemDpllStage = (getPropN s sysObj pSystemDpllStage + 1 : Nat) := by
  have hgo : ¬ (getProp s sysObj pSystemRefSelected = 0 ∨ lastStage s = true ∨
      s.now < T + (stageLimit (getPropN s sysObj pSystemDpllStage)).2) := by
    simp [hsel, hlast, hT]
  simp only [stageAdvance, h, if_neg hgo]
  have hset := getProp_setProp_same s sysObj pSystemDpllStage 0 (getPropN s sysObj pSystemDpllStage + 1 : Nat) hs
  exact ⟨spine_settleTb _, (getProp_settleTb (by decide)).trans hset⟩

end

/-! ### Cadence pulses, the RTC and the copies of the timebase (R326, R328, R438) -/

theorem spine_chainSource (s : State) (src : ObjId) : spine (chainSource s src) = spine s := by
  unfold chainSource
  refine spine_foldl (fun u c => ?_) _ _
  split <;> rfl

theorem spine_rtcState (s : State) (st : Nat) (c : Int) : spine (rtcState s st c) = spine s := by
  unfold rtcState
  split
  · rfl
  · rw [spine_postEvent, spine_setProp]

/-- The timebase is locked to a reference that disciplines the RTC, and the last comparison is 64 s old or more. -/
structure Disciplines (s : State) : Prop where
  locked : getProp s sysObj pSystemTbState = 3
  source : rtcSource s = true
  due : ∀ l, s.tb.lastDisc = some l → l + 64 * secT ≤ s.now

section
variable {s : State} {ticks : Nat} {drift : Int}

theorem Disciplines.compares (h : Disciplines s) :
    ¬ (getProp s sysObj pSystemTbState ≠ 3 ∨ (!rtcSource s) = true ∨
      (match s.tb.lastDisc with | some t => decide (s.now < t + 64 * secT) | none => false) = true) := by
  have hlate : (match s.tb.lastDisc with | some t => decide (s.now < t + 64 * secT) | none => false) = false := by
    cases hl : s.tb.lastDisc with
    | none => rfl
    | some l => exact decide_eq_false (Nat.not_lt.2 (h.due l hl))
  rintro (hs | hs | hs)
  · exact hs h.locked
  · rw [h.source] at hs
    exact Bool.false_ne_true hs
  · exact Bool.false_ne_true (hlate.symm.trans hs)

/-- The instant of a comparison is noted. -/
def compared (s : State) : State := { s with tb := { s.tb with lastDisc := some s.now } }

/-- What the RTC should read now. -/
def rtcWant (s : State) : Nat := s.now * 32768 / secT

/-- An RTC that is off by a millisecond or more is set. -/
theorem disciplineRtc_set (h : Disciplines s) (hfar : 32768 ≤ ((rtcWant s : Int) - (ticks : Int)).natAbs * 1000) :
    disciplineRtc s ticks drift = rtcState (putRtc (compared s) (rtcWant s)) 2 ((rtcWant s : Int) - (ticks : Int)) := by
  unfold disciplineRtc
  simp only
  exact (if_neg h.compares).trans (if_pos hfar)

/-- An RTC that is off by less keeps its reading and is trimmed. -/
theorem disciplineRtc_trim (h : Disciplines s) (hnear : ((rtcWant s : Int) - (ticks : Int)).natAbs * 1000 < 32768) :
    disciplineRtc s ticks drift = rtcState (setProp (putRtc (compared s) ticks) sysObj pSystemRtcTrim 0
      (clampInt (-512) 511 (getProp s sysObj pSystemRtcTrim + drift))) 2 0 := by
  unfold disciplineRtc
  simp only
  exact (if_neg h.compares).trans (if_neg (Nat.not_le.2 hnear))

variable {l : Ticks}

/-- A disciplined RTC that has not been compared for a day is free. -/
theorem freeRtc_due (hl : s.tb.lastDisc = some l) (hst : getProp s sysObj pSystemRtcState = 2) (hdue : l + 86400 * secT ≤ s.now) :
    freeRtc s = postEvent (setProp s sysObj pSystemRtcState 0 1) 0x1322 sysObj 1 := by
  have hold : getPropN s sysObj pSystemRtcState ≠ 1 := by
    rw [getPropN, hst]
    decide
  simp only [freeRtc, hl, if_pos (And.intro hst hdue), rtcState, hold, false_and, if_false]
  rfl

theorem freeRtc_early (hl : s.tb.lastDisc = some l) (hearly : s.now < l + 86400 * secT) : freeRtc s = s := by
  simp only [freeRtc, hl]
  exact if_neg fun hdue => Nat.not_lt.2 hdue.2 hearly

/-- The first copy of the timebase that disagrees is gloved. -/
theorem copyMismatch_first (h : s.tb.gloved = none) (copy : Nat) :
    copyMismatch s copy = { s with tb := { s.tb with gloved := some copy } } := by
  rw [copyMismatch, h]
  rfl

end

/-! ### The timebase follows its reference -/

/-- Settles O45: a permitted step moves the clock, and what follows it for references and heads leaves the clock alone; the other
commands change what their rules name, and nothing comes to wait. -/
theorem timebaseFollowsItsReference : Obligations.TimebaseFollowsItsReference := by
  unfold Obligations.TimebaseFollowsItsReference
  intro t s calm hsorted w d allow far
  have hticks : ticking w = true := ticking_of_awake calm.served.awake
  have hserved : served w = true := Bool.and_eq_true_iff.2 ⟨calm.served.awake, calm.served.runs⟩
  refine ⟨?pull, ?step, ?refused, ?stage, ?pulse, ?discipline, ?free, ?copy⟩
  case pull =>
    intro hpull hrest
    exact act_calm calm hticks (pullDone_done (s := w) hpull hrest) (spine_settleTb _)
  case step =>
    intro hfar hallow
    exact act_stepTimebase calm.still hserved ⟨of_decide_eq_true hfar, hallow⟩
  case refused =>
    intro h
    refine act_calm calm hserved (stepTimebase_refused (s := w) ?_) rfl
    rcases h with hnear | h0 | h1
    · exact .inl (Nat.not_lt.1 (of_decide_eq_false hnear))
    · exact .inr (.inl h0)
    · exact .inr (.inr h1)
  case stage =>
    intro T hdwell hsel hlast hT
    obtain ⟨hspine, hstage⟩ := stageAdvance_due (s := w) hdwell hsel hlast hT hsorted
    exact ⟨_, act_calm calm hticks rfl hspine, hstage⟩
  case pulse =>
    intro n c T
    exact actNow_still (f := fun s => cadencePulseStep s n.val) calm.still (ticking_of_awake calm.served.awake) (spine_chainSource ..)
  case discipline =>
    intro ticks drift hlocked hsource hdue want e v
    have h : Disciplines w := ⟨hlocked, hsource, hdue⟩
    exact ⟨fun hfar => act_calm calm hserved (disciplineRtc_set h hfar) (spine_rtcState ..),
      fun hnear => act_calm calm hserved (disciplineRtc_trim h hnear) (spine_rtcState ..)⟩
  case free =>
    intro l hl hst
    exact ⟨fun hdue => act_calm calm hticks (freeRtc_due (s := w) hl hst hdue) (spine_postEvent ..),
      fun hearly => act_calm calm hticks (freeRtc_early (s := w) hl hearly) rfl⟩
  case copy =>
    intro copy hnone
    exact act_calm calm hserved (copyMismatch_first (s := w) hnone copy.val) rfl

end Sys2Proof.ReferencesAndTimebase
end

section
/-! PROOFS. The Hinge Link: how a message is checked and taken in its turn (O46), how links come up, go down and carry time
(O47), and how devices join the domain (O48). -/

namespace Sys2Proof.HingeLinks
open Machine
open RouteJobs (WorkPart workPart_signalVector postEvent_props)
open EgressPorts (spine_foldl)
open TriggersAndCaptures (act_calm)
open RasterEvents (spine_updHead)
open ReferencesAndTimebase (getProp_postEvent getProp_setProp_pid selects_refChange act_of_still)

/-! ### What sending on a link leaves as it is (R336, R337) -/

@[simp] theorem hlOf_setHl (s : State) (n : Nat) (h : HlLink) : hlOf (setHl s n h) n = h := mapGetD_mapPut_same ..

@[simp] theorem spine_hlSend (s : State) (n typ : Nat) (payload : List Nat) : spine (hlSend s n typ payload) = spine s := rfl

/-- A sequenced message is sent, or waits for the window, or the link carries nothing: the properties and the spine stand. -/
theorem hlSendSeq_frame (s : State) (n typ : Nat) (payload : List Nat) :
    spine (hlSendSeq s n typ payload) = spine s ∧ (hlSendSeq s n typ payload).props = s.props := by
  unfold hlSendSeq
  simp only
  split
  · exact ⟨rfl, rfl⟩
  · split <;> exact ⟨rfl, rfl⟩

@[simp] theorem spine_hlSendSeq (s : State) (n typ : Nat) (payload : List Nat) : spine (hlSendSeq s n typ payload) = spine s :=
  (hlSendSeq_frame ..).1

/-- Steps that each leave the properties and the spine leave them one after another. -/
theorem foldl_frame {α : Type} {f : State → α → State} (h : ∀ s a, spine (f s a) = spine s ∧ (f s a).props = s.props) (l : List α)
    (s : State) : spine (l.foldl f s) = spine s ∧ (l.foldl f s).props = s.props := by
  induction l generalizing s with
  | nil => exact ⟨rfl, rfl⟩
  | cons a l ih => exact ⟨(ih _).1.trans (h s a).1, (ih _).2.trans (h s a).2⟩

theorem hlFragments_frame (s : State) (n typ : Nat) (pre : List Nat) (per : Nat) (items : List (List Nat)) :
    spine (hlFragments s n typ pre per items) = spine s ∧ (hlFragments s n typ pre per items).props = s.props := by
  unfold hlFragments
  exact foldl_frame (fun u _ => hlSendSeq_frame u n typ _) _ s

theorem sendTopology_frame (s : State) : spine (sendTopology s) = spine s ∧ (sendTopology s).props = s.props := by
  unfold sendTopology
  exact foldl_frame (fun u k => hlFragments_frame u k 0x22 [] 251 _) _ s

@[simp] theorem spine_hlDrain (k : Nat) (s : State) (n : Nat) : spine (hlDrain k s n) = spine s := by
  induction k generalizing s with
  | zero => rfl
  | succ k ih =>
    unfold hlDrain
    simp only
    split
    · rfl
    · split
      · rfl
      · rw [ih, spine_hlSendSeq, spine_setHl]

@[simp] theorem spine_hlAck (s : State) (n ack : Nat) : spine (hlAck s n ack) = spine s :=
  (spine_hlDrain ..).trans (spine_setHl ..)

@[simp] theorem spine_hlResend (s : State) (n : Nat) : spine (hlResend s n) = spine s := by
  unfold hlResend
  simp only
  rw [spine_foldl fun u m => spine_emit u _, spine_bumpProp, spine_setHl]

@[simp] theorem spine_setHlState (s : State) (n st cause : Nat) : spine (setHlState s n st cause) = spine s := by
  unfold setHlState
  split
  · rfl
  · rw [spine_postEvent, spine_setProp]

@[simp] theorem spine_raiseDomain (s : State) (cause : Nat) : spine (raiseDomain s cause) = spine s := spine_postEvent ..

@[simp] theorem spine_setDomain (s : State) (number depth count st : Nat) : spine (setDomain s number depth count st) = spine s :=
  spine_setProps ..

/-- A message that fails is counted, and asks at most for the number expected. -/
@[simp] theorem spine_hlFail (s : State) (n : Nat) : spine (hlFail s n) = spine s := by
  unfold hlFail
  simp only
  split <;> rfl

/-! ### A message is checked (R336) -/

section
variable {s v : State} {n typ : Nat} {sequenced : Bool} {ws p : List Nat}

/-- The length of a message's payload, as its header gives it. -/
def hlLength (ws : List Nat) : Nat := bitsOf (atD ws 0 0) 31 16

/-- The payload of a message. -/
def hlPayload (ws : List Nat) : List Nat := (ws.drop 2).take (hlLength ws)

/-- The state that has noted a valid message: when it came, and what it acknowledges. -/
def hlNoted (s : State) (n : Nat) (ws : List Nat) : State :=
  let seen := setHl s n { hlOf s n with lastValid := s.now }
  if hlState s n = 3 then hlAck seen n (bitsOf (atD ws 1 0) 31 16) else seen

/-- How far a message's number lies ahead of the one expected. -/
def hlAhead (v : State) (n : Nat) (ws : List Nat) : Nat := (bitsOf (atD ws 1 0) 15 0 + 65536 - (hlOf v n).rxSeq) % 65536

/-- The state that has asked for the number expected. -/
def hlAsked (v : State) (n : Nat) : State :=
  hlSend (setHl v n { hlOf v n with nakFor := some (hlOf v n).rxSeq }) n 0x02 [(hlOf v n).rxSeq]

/-- The state that has taken a sequenced message in its turn. -/
def hlCounted (v : State) (n : Nat) : State :=
  setHl v n { hlOf v n with rxSeq := ((hlOf v n).rxSeq + 1) % 65536, nakFor := none }

theorem hlWhole_eq (ws : List Nat) : hlWhole ws =
    decide (hlLength ws ≤ 252 ∧ ws.length = hlLength ws + 3 ∧ atD ws (hlLength ws + 2) 0 = crc32c (wordBytes (ws.take (hlLength ws + 2))) ∧
      bitsOf (atD ws 0 0) 15 8 ∈ hlTypes) := by
  unfold hlWhole hlLength
  rw [Bool.eq_iff_iff]
  simp only [Bool.and_eq_true, decide_eq_true_eq, List.contains_iff_mem, and_assoc]

/-- A link that trains or is up receives a word that begins a message. -/
structure Receives (s : State) (n : Nat) (ws : List Nat) : Prop where
  heard : 2 ≤ hlState s n
  sync : bitsOf (atD ws 0 0) 7 0 = 0xA7

theorem Receives.not_ignored (h : Receives s n ws) : ¬ (hlState s n < 2 ∨ bitsOf (atD ws 0 0) 7 0 ≠ 0xA7) :=
  not_or.2 ⟨Nat.not_lt.2 h.heard, Classical.not_not.2 h.sync⟩

/-- A message that does not hold is counted, whatever type was waited for. -/
theorem hlTake_broken (h : Receives s n ws) (hbad : hlWhole ws = false) : hlTake s n typ sequenced ws = .inl (hlFail s n) := by
  unfold hlTake
  simp only [if_neg h.not_ignored, hbad, Bool.not_false, if_true]

/-- A message that holds and has the type waited for is noted; a sequenced one is then taken by its number. -/
theorem hlTake_whole (h : Receives s n ws) (hgood : hlWhole ws = true) (htyp : bitsOf (atD ws 0 0) 15 8 = typ) :
    hlTake s n typ sequenced ws =
      let v := hlNoted s n ws
      if !sequenced then .inr (hlPayload ws, v)
      else if hlState v n ≠ 3 then .inl v
      else if hlAhead v n ws = 0 then .inr (hlPayload ws, hlCounted v n)
      else if hlAhead v n ws < 32768 then .inl (hlAsked v n)
      else .inl v := by
  unfold hlTake
  simp only [if_neg h.not_ignored, hgood, Bool.not_true, Bool.false_eq_true, if_false, htyp, ne_eq, not_true]
  rfl

theorem hlTake_unsequenced (h : Receives s n ws) (hgood : hlWhole ws = true) (htyp : bitsOf (atD ws 0 0) 15 8 = typ) :
    hlTake s n typ false ws = .inr (hlPayload ws, hlNoted s n ws) := hlTake_whole h hgood htyp

/-- On a link that is up, a sequenced message is taken by its number. -/
theorem hlTake_sequenced (h : Receives s n ws) (hgood : hlWhole ws = true) (htyp : bitsOf (atD ws 0 0) 15 8 = typ)
    (hup : hlState (hlNoted s n ws) n = 3) :
    hlTake s n typ true ws =
      let v := hlNoted s n ws
      if hlAhead v n ws = 0 then .inr (hlPayload ws, hlCounted v n)
      else if hlAhead v n ws < 32768 then .inl (hlAsked v n)
      else .inl v := (hlTake_whole h hgood htyp).trans (if_neg (Classical.not_not.2 hup))

/-- A message that is taken has been noted, and nothing comes to wait. -/
theorem spine_of_hlTake (h : hlTake s n typ sequenced ws = .inr (p, v)) : spine v = spine s := by
  unfold hlTake at h
  simp only at h
  repeat' split at h
  all_goals cases h
  all_goals simp

/-! ### A message that is not taken -/

theorem linkStep_inl {u : State} (h : hlTake s n 0x01 false ws = .inl u) : linkStep s n ws = u := by
  simp only [linkStep, h]

theorem joinStep_inl {u : State} (h : hlTake s n 0x20 true ws = .inl u) : joinStep s n ws = u := by
  simp only [joinStep, h]

theorem groupUpStep_inl {u : State} (h : hlTake s n 0x30 true ws = .inl u) : groupUpStep s n ws = u := by
  simp only [groupUpStep, h]

end

/-- Settles O46: the check of a message decides, then whether it is sequenced, then its number. -/
theorem hingeLinkMessagesAreChecked : Obligations.HingeLinkMessagesAreChecked := by
  unfold Obligations.HingeLinkMessagesAreChecked
  intro t hl m s calm w n ws len whole seen v hheard hsync
  have hrec : Receives w n ws := ⟨hheard, hsync⟩
  have hwhole : hlWhole ws = whole := hlWhole_eq ws
  refine ⟨fun hbad => ?_, fun typ hgood htyp => ⟨?_, fun _ hup => ?_⟩⟩
  case refine_1 =>
    have fails {typ : Nat} {sequenced : Bool} : hlTake w n typ sequenced ws = .inl (hlFail w n) :=
      hlTake_broken hrec (hwhole.trans hbad)
    have hspine : spine (hlFail w n) = spine s := spine_hlFail ..
    exact ⟨act_calm calm calm.served.awake (linkStep_inl fails) hspine, act_calm calm calm.served.awake (joinStep_inl fails) hspine,
      act_calm calm calm.served.awake (groupUpStep_inl fails) hspine⟩
  case refine_2 => exact hlTake_unsequenced hrec (hwhole.trans hgood) htyp
  case refine_3 =>
    intro h ahead
    have taken := hlTake_sequenced hrec (hwhole.trans hgood) htyp hup
    refine ⟨fun hturn => taken.trans (if_pos hturn), fun hpos hfuture => ?_, fun hpast => ?_⟩
    · exact taken.trans ((if_neg (Nat.pos_iff_ne_zero.1 hpos)).trans (if_pos hfuture))
    · have hnow : ahead ≠ 0 := by omega
      exact taken.trans ((if_neg hnow).trans (if_neg (Nat.not_lt.2 hpast)))

/-! ### Links come up (R334, R337) -/

section
variable {s v : State} {n : Nat} {p ws : List Nat}

/-- What a LINK message says of the peer. -/
def linkHeard (v : State) (n : Nat) (p : List Nat) : HlLink :=
  { hlOf v n with
    peerFace := some (atD p 0 0 % 2), peerState := bitsOf (atD p 0 0) 18 16, peerDepth := bitsOf (atD p 0 0) 26 24
    asked := (hlOf v n).asked && (decide (n = 0) && decide (bitsOf (atD p 0 0) 18 16 ≤ 1)) }

/-- A link that comes up, with its sequence numbers at zero and nothing sent. -/
def linkFresh (h : HlLink) : HlLink :=
  { h with txSeq := 0, rxSeq := 0, window := [], stalled := [], nakFor := none, parts := [], delay := none, t1 := none, asked := false }

/-- A training link whose peer faces the same way does not come up. -/
theorem linkStep_sameFace (h : hlTake s n 0x01 false ws = .inr (p, v)) (htrain : hlState v n = 2)
    (hface : atD p 0 0 % 2 = bit01 (n != 0)) : linkStep s n ws = setHlState (setHl v n (linkHeard v n p)) n 4 0 := by
  unfold linkStep
  simp only [h]
  exact (if_pos htrain).trans (if_pos hface)

/-- A training link that faces down comes up where its peer faces up. -/
theorem linkStep_up (h : hlTake s n 0x01 false ws = .inr (p, v)) (htrain : hlState v n = 2)
    (hface : atD p 0 0 % 2 ≠ bit01 (n != 0)) (hdown : n ≠ 0) :
    linkStep s n ws = sendLink (setHlState (setHl (setHl v n (linkHeard v n p)) n (linkFresh (linkHeard v n p))) n 3 4) n := by
  have hnow : hlOf (setHl v n (linkHeard v n p)) n = linkHeard v n p := hlOf_setHl ..
  unfold linkStep
  simp only [h]
  refine (if_pos htrain).trans ((if_neg hface).trans ((if_pos (.inl hdown)).trans ?_))
  exact congrArg (fun x => sendLink (setHlState (setHl (setHl v n (linkHeard v n p)) n (linkFresh x)) n 3 4) n) hnow

/-! ### Messages are sent again, and links keep alive (R337, R338) -/

theorem nakStep_up (h : hlTake s n 0x02 false ws = .inr (p, v)) (hup : hlState v n = 3) :
    nakStep s n ws = hlResend (hlAck v n (atD p 0 0 % 65536)) n := by
  simp only [nakStep, h, if_pos hup]

variable {x : HlSent} {xs : List HlSent}

theorem retransmitStep_due (h : (hlOf s n).window = x :: xs) (hup : hlState s n = 3) (hdue : x.sentAt + 4 * usT ≤ s.now) :
    retransmitStep s n = hlResend s n := by
  simp only [retransmitStep, h, if_pos (And.intro hup hdue)]

theorem retransmitStep_early (h : (hlOf s n).window = x :: xs) (hearly : s.now < x.sentAt + 4 * usT) : retransmitStep s n = s := by
  simp only [retransmitStep, h]
  exact if_neg fun hdue => Nat.not_lt.2 hdue.2 hearly

theorem keepaliveStep_alive (h : hlState s n = 2 ∨ hlState s n = 3) : keepaliveStep s n = sendLink s n :=
  if_pos (h.imp_right Or.inl)

/-- A device that has been WAITING for a second says so. -/
theorem waitingStep_due {T : Ticks} (h : (hlOf s 0).waitSince = some T) (hwait : domainState s = 2) (hdue : T + secT ≤ s.now) :
    waitingStep s = raiseDomain (setHl s 0 { hlOf s 0 with waitSince := none }) 4 := by
  simp only [waitingStep, h, if_pos (And.intro hwait hdue)]

theorem waitingStep_early {T : Ticks} (h : (hlOf s 0).waitSince = some T) (hearly : s.now < T + secT) : waitingStep s = s := by
  simp only [waitingStep, h]
  exact if_neg fun hdue => Nat.not_lt.2 hdue.2 hearly

end

/-! ### Groups are withdrawn, and what they reserved is given back (R66, R74, R343) -/

theorem spine_reserveHead (s w v : State) (h : ObjId) (id : Option Nat) : spine (reserveHead s w v h id) = spine s := by
  unfold reserveHead
  repeat' split
  all_goals rfl

theorem spine_reserveStage (s w v : State) (r : ObjId) (g : StageCfg) (i : Nat) (touched : List ObjId) (id : Option Nat) :
    spine (reserveStage s w v r g i touched id) = spine s := by
  unfold reserveStage
  simp only
  repeat' split
  all_goals rfl

theorem spine_reserveAll (s w v : State) (h : ObjId) (touched : List ObjId) (id : Option Nat) :
    spine (reserveAll s w v h touched id) = spine s := by
  unfold reserveAll
  refine (spine_foldl (fun u r => ?_) _ _).trans (spine_reserveHead ..)
  exact spine_foldl (fun u' (g : StageCfg × Nat) => spine_reserveStage u' w v r g.1 g.2 touched id) _ _

theorem spine_restoreOne (v s : State) (r : SliceRes) : spine (restoreOne v s r) = spine s := by
  unfold restoreOne
  simp only
  repeat' split
  all_goals rfl

theorem spine_restoreIfFreed (s0 s v : State) : spine (restoreIfFreed s0 s v) = spine s := by
  unfold restoreIfFreed
  split
  · exact spine_foldl (spine_restoreOne v) _ _
  · rfl

theorem spine_releaseSlices (s : State) (h : Nat) (c : Commit) : spine (releaseSlices s h c) = spine s := by
  unfold releaseSlices
  simp only
  split
  · rw [spine_restoreIfFreed, spine_reserveAll]
    rfl
  · rfl

theorem spine_recFree (s : State) (o : ObjId) : spine (recFree s o) = spine s := by
  unfold recFree
  simp only
  repeat' split
  all_goals rfl

theorem spine_freeSurface (s : State) (o : ObjId) : spine (freeSurface s o) = spine s := by
  unfold freeSurface
  split
  · rfl
  · exact (spine_recFree { s with surfs := mapDel s.surfs o } o).trans rfl

theorem spine_releaseCommit (s : State) (h : Nat) (c : Commit) : spine (releaseCommit s h c) = spine s := by
  unfold releaseCommit
  simp only
  rw [spine_foldl (fun u m => ?_), spine_releaseSlices]
  rw [spine_freeSurface]
  split <;> rfl

theorem spine_rechargeCommits (s : State) : spine (rechargeCommits s) = spine s := rfl

/-- A commit that is withdrawn leaves its head and what it reserved, and nothing else comes to wait. -/
theorem spine_withdrawCommit (s : State) (h : Nat) (c : Commit) : spine (withdrawCommit s h c) = spine s := by
  unfold withdrawCommit removeCommit
  simp only
  rw [spine_updHead, spine_rechargeCommits, spine_releaseCommit, spine_updHead]

theorem spine_withdrawGroupHere (s : State) (g : GroupRun) : spine (withdrawGroupHere s g) = spine s := by
  unfold withdrawGroupHere
  refine spine_foldl (fun u m => ?_) _ _
  split
  · rfl
  · split
    · exact spine_withdrawCommit ..
    · rfl

theorem spine_orphanGroups (s : State) (down : Bool) : spine (orphanGroups s down) = spine s := by
  unfold orphanGroups
  simp only
  rw [spine_foldl fun u q => spine_postEvent u _ _ _, spine_foldl fun u g => ?_]
  show spine (dropGroup (List.foldl _ _ _) _) = spine u
  refine (spine_foldl (fun u' n => ?_) (downLinks (withdrawGroupHere u g)) (withdrawGroupHere u g)).trans (spine_withdrawGroupHere u g)
  split
  · exact spine_hlSendSeq ..
  · rfl

/-! ### A link goes down (R338, R343) -/

theorem spine_refLossStep (s : State) (n : Nat) : spine (refLossStep s n) = spine s := by
  unfold refLossStep
  simp only
  split
  · rfl
  · rw [(selects_refChange ..).spine, spine_setRefRt, spine_setProps]

theorem spine_mapAlone (s : State) : spine (mapAlone s) = spine s := by
  unfold mapAlone
  exact spine_foldl (fun u d => spine_setProp u sysObj pSystemHlMap d _) _ _

theorem spine_uplinkLost (s : State) : spine (uplinkLost s) = spine s := spine_refLossStep s 16

theorem spine_beginWait (s : State) : spine (beginWait s) = spine s := spine_setHl ..

theorem spine_ite {c : Prop} [Decidable c] {s u v : State} (hu : spine u = spine s) (hv : spine v = spine s) :
    spine (if c then u else v) = spine s := by
  split
  · exact hu
  · exact hv

/-- A device that leaves its domain gives up its groups, its place and its time. -/
theorem spine_leaveDomain (s : State) (st cause : Nat) : spine (leaveDomain s st cause) = spine s := by
  have orphaned : spine (if domainState s = 1 then orphanGroups s (st == 3) else s) = spine s :=
    spine_ite (spine_orphanGroups ..) rfl
  have waits (u : State) : spine (if st = 2 then beginWait u else u) = spine u := spine_ite (spine_beginWait u) rfl
  have told (u : State) : spine (if domainState s = st then u else raiseDomain u cause) = spine u :=
    spine_ite rfl (spine_raiseDomain u cause)
  unfold leaveDomain
  simp only
  rw [spine_uplinkLost, told, waits, spine_mapAlone, spine_setDomain, spine_setProp, orphaned]

/-- Work for the groups and the map of a device: what nothing waits for still has nothing to wait for, and every link keeps its
state. -/
structure KeepsLinks (s u : State) : Prop where
  still : Still s → Still u
  links : ∀ n, n < 5 → hlState u n = hlState s n

namespace KeepsLinks
variable {s u v : State}

theorem refl (s : State) : KeepsLinks s s := ⟨id, fun _ _ => rfl⟩

theorem trans (h : KeepsLinks s u) (k : KeepsLinks u v) : KeepsLinks s v :=
  ⟨k.still ∘ h.still, fun n hn => (k.links n hn).trans (h.links n hn)⟩

theorem of_frame (h : spine u = spine s ∧ u.props = s.props) : KeepsLinks s u :=
  ⟨fun hs => hs.of_spine h.1, fun n _ => congrArg Int.toNat (getProp_congr h.2 sysObj pSystemHlState n)⟩

theorem foldl {α : Type} {f : State → α → State} {l : List α} (h : ∀ u, ∀ a ∈ l, KeepsLinks u (f u a)) (s : State) :
    KeepsLinks s (l.foldl f s) := by
  induction l generalizing s with
  | nil => exact refl s
  | cons a l ih =>
    exact (h s a (List.mem_cons_self ..)).trans (ih (fun u b hb => h u b (List.mem_cons_of_mem _ hb)) _)

end KeepsLinks

section
variable {s : State}

theorem keepsLinks_setProp {pid i : Nat} (hne : pSystemHlState ≠ pid) (s : State) (v : Int) (hp : pid < 0x10000 := by decide)
    (hi : i < 0x1000000 := by decide) : KeepsLinks s (setProp s sysObj pid i v) where
  still hs := hs.of_spine rfl
  links n hn := congrArg Int.toNat
    (getProp_setProp_pid hne s sysObj sysObj v hp (by decide) hi (Nat.lt_trans hn (by decide)))

theorem keepsLinks_postEvent (s : State) (code : Nat) (o : ObjId) (arg : Nat) : KeepsLinks s (postEvent s code o arg) :=
  .of_frame ⟨spine_postEvent .., postEvent_props ..⟩

theorem keepsLinks_sendReports (s : State) (gid : Nat) (ms : List GroupMember) : KeepsLinks s (sendReports s gid ms) := by
  unfold sendReports
  split
  · exact .refl s
  · exact .of_frame (hlFragments_frame ..)

theorem signalVector_props (s : State) (v : Nat) : (signalVector s v).props = s.props :=
  congrArg WorkPart.props (workPart_signalVector s v)

theorem writeCompletion_props (s : State) (r : Request) (c : Cpl) : (writeCompletion s r c).props = s.props := by
  unfold writeCompletion
  simp only
  rw [apply_ite State.props, signalVector_props, ite_self, setMb_props]
  split <;> rfl

/-- A completed request is no longer in flight, so nothing comes to wait. -/
theorem keepsLinks_complete (s : State) (r : Request) (c : Cpl) : KeepsLinks s (complete s r c) := by
  have ended : KeepsLinks s (endFlight s r) := by
    refine ⟨fun h => ⟨h.moves, h.fences, h.delays, ?_, ?_⟩, fun _ _ => rfl⟩
    · exact List.all_eq_true.2 fun f hf => List.all_eq_true.1 h.frees f (List.mem_filter.1 hf).1
    · exact (congrArg (List.filter _) h.reads).trans rfl
  refine ended.trans ?_
  unfold complete postCompletion
  split
  · exact .refl _
  · split
    · exact .of_frame ⟨rfl, rfl⟩
    · exact .of_frame ⟨spine_writeCompletion .., writeCompletion_props ..⟩

theorem keepsLinks_checkGroup (s : State) (gid : Nat) : KeepsLinks s (checkGroup s gid) := by
  have dropped (g : GroupRun) : KeepsLinks s (dropGroup s g.gid) := .of_frame ⟨rfl, rfl⟩
  unfold checkGroup completeGroup
  simp only
  split
  · split
    · split
      · exact dropped _
      · exact (dropped _).trans (keepsLinks_complete ..)
    · exact .refl s
  · exact .refl s

theorem keepsLinks_settleGroup (s : State) (gid : Nat) : KeepsLinks s (settleGroup s gid) := by
  unfold settleGroup
  split
  · split
    · exact .of_frame ⟨rfl, rfl⟩
    · exact .refl s
  · exact .refl s

theorem keepsLinks_recordOutcome (s : State) (gid entry outcome hinge : Nat) (at' : Option Ticks) :
    KeepsLinks s (recordOutcome s gid entry outcome hinge at') := by
  unfold recordOutcome
  split
  · exact keepsLinks_setProp (by decide) ..
  · exact .of_frame ⟨rfl, rfl⟩

/-- The members below a link that goes down are reported MISSING. -/
theorem keepsLinks_missingBelow (s : State) (n : Nat) : KeepsLinks s (missingBelow s n) := by
  unfold missingBelow
  refine .foldl (fun u g _ => ?_) s
  have recorded (l : List GroupMember) : KeepsLinks u (l.foldl (fun s m => recordOutcome s g.gid m.entry 6 0 none) u) :=
    .foldl (fun _ _ _ => keepsLinks_recordOutcome ..) u
  refine (recorded (g.members.filter fun m => m.via == some n && m.outcome.isNone)).trans ?_
  show KeepsLinks _ (if g.origin then _ else _)
  split
  · exact keepsLinks_checkGroup ..
  · exact (keepsLinks_sendReports ..).trans (keepsLinks_settleGroup ..)

theorem keepsLinks_domainChanged (s : State) : KeepsLinks s (domainChanged s) := by
  have changed : KeepsLinks s (raiseDomain (setProp s sysObj pSystemHlDomain 2 (mapCount s)) 6) :=
    (keepsLinks_setProp (by decide) s _).trans (keepsLinks_postEvent ..)
  unfold domainChanged
  simp only
  split
  · exact changed.trans (.of_frame (sendTopology_frame _))
  · exact changed

/-- The subtree of a link that goes down leaves the map. -/
theorem keepsLinks_dropSubtree (s : State) (n : Nat) : KeepsLinks s (dropSubtree s n) := by
  unfold dropSubtree
  simp only
  split
  · exact .refl s
  · refine .trans (.foldl (fun u d hd => ?_) s) (keepsLinks_domainChanged _)
    have hd' : d < 512 := List.mem_range.1 (List.mem_filter.1 hd).1
    exact keepsLinks_setProp (by decide) u 0 (by decide) (Nat.lt_trans hd' (by decide))

/-- The link that has gone down: its state is set and counted. -/
def linkLost (s : State) (n cause : Nat) : State := bumpProp (setHlState s n 1 cause) sysObj pSystemHlCounts (3 * n + 2)

theorem spine_linkLost (s : State) (n cause : Nat) : spine (linkLost s n cause) = spine s :=
  (spine_bumpProp ..).trans (spine_setHlState ..)

/-- What follows for the domain where a link goes down: a device without its UPLINK leaves it, and a subtree is lost to it. -/
def linkLeft (s : State) (n : Nat) : State := if n == 0 then leaveDomain s 3 5 else dropSubtree (missingBelow s n) n

theorem linkLeft_down {n : Nat} (h : n ≠ 0) (s : State) : linkLeft s n = dropSubtree (missingBelow s n) n :=
  if_neg fun e => h (beq_iff_eq.1 e)

theorem hlDown_eq {n : Nat} (h : 2 ≤ hlState s n) (cause : Nat) :
    hlDown s n cause = let u := linkLeft (linkLost s n cause) n; setHl u n { hl0 with locked := (hlOf u n).locked } :=
  if_neg (Nat.not_lt.2 h)

theorem hlDown_isDown {n : Nat} (h : hlState s n < 2) (cause : Nat) : hlDown s n cause = s := if_pos h

theorem keepsLinks_linkLeft {n : Nat} (h : n ≠ 0) (s : State) : KeepsLinks s (linkLeft s n) := by
  rw [linkLeft_down h]
  exact (keepsLinks_missingBelow s n).trans (keepsLinks_dropSubtree ..)

/-- A link that goes down leaves a still device still. -/
theorem still_hlDown (h : Still s) (n cause : Nat) : Still (hlDown s n cause) := by
  have hlost : Still (linkLost s n cause) := h.of_spine (spine_linkLost ..)
  have hleft : Still (linkLeft (linkLost s n cause) n) := by
    by_cases hn : n = 0
    · subst hn
      exact hlost.of_spine (spine_leaveDomain ..)
    · exact (keepsLinks_linkLeft hn _).still hlost
  by_cases hst : hlState s n < 2
  · rw [hlDown_isDown hst]
    exact h
  · rw [hlDown_eq (Nat.not_lt.1 hst)]
    exact hleft.of_spine (spine_setHl ..)

theorem hlState_setHlState (hs : mapSorted s.props = true) (n st cause : Nat) : hlState (setHlState s n st cause) n = st := by
  unfold setHlState
  split
  · assumption
  · rw [hlState, getPropN, getProp_postEvent, getProp_setProp_same _ _ _ _ _ hs]
    rfl

/-- A link that faces down and goes down is DOWN. -/
theorem hlState_hlDown {n : Nat} (hn : n < 5) (hdown : n ≠ 0) (h : 2 ≤ hlState s n) (hs : mapSorted s.props = true) (cause : Nat) :
    hlState (hlDown s n cause) n = 1 := by
  have hcount : KeepsLinks (setHlState s n 1 cause) (linkLost s n cause) :=
    keepsLinks_setProp (by decide) _ _ (by decide) (by omega)
  have hleft := (keepsLinks_linkLeft hdown (linkLost s n cause)).links n hn
  rw [hlDown_eq h]
  exact hleft.trans ((hcount.links n hn).trans (hlState_setHlState hs ..))

end

section
variable {s v : State} {n : Nat} {p ws : List Nat}

/-- Ten microseconds of silence take a link down. -/
theorem silenceStep_due (h : 2 ≤ hlState s n) (hdue : (hlOf s n).lastValid + 10 * usT ≤ s.now) :
    silenceStep s n = hlDown s n 1 := if_pos ⟨h, hdue⟩

/-- A message whose budget is spent takes its link down. -/
theorem budgetStep_spent (h : (hlOf s n).window.any (fun x => match x.firstRetry with
      | some r => decide (r + x.budget ≤ s.now)
      | none => false) = true) : budgetStep s n = hlDown s n 2 := if_pos h

/-- A command that takes a link down: what waits is settled, and the command ends. -/
theorem act_hlDown {t : Ticks} {f : State → State} {n cause : Nat} (calm : Calm s) (hf : f (tickTo t s) = hlDown (tickTo t s) n cause) :
    act t awake f s = .next (finish s (settle (hlDown (tickTo t s) n cause))) := by
  have still : Still (hlDown (tickTo t s) n cause) := still_hlDown (calm.still.of_spine (spine_tickTo ..)) n cause
  rw [settle_still _ still, ← hf]
  exact act_of_still calm.served.awake (hf ▸ still)

/-! ### Links carry time (R339, R340) -/

/-- The root sends its own time and its own state. -/
theorem syncSendStep_root (hdown : n ≠ 0) (hup : hlState s n = 3) (hroot : actsAsRoot s = true) :
    syncSendStep s n = hlSend s n 0x10 (timeWords (stampOf s.now) ++
      [bit01 (getProp s sysObj pSystemTbState == 3 && rtcSource s) + getPropN s sysObj pSystemTbState * 2 +
        twos 16 (getProp s sysObj pSystemUtcOffset) * 65536]) := by
  have hgo : ¬ (n = 0 ∨ hlState s n ≠ 3) := not_or.2 ⟨hdown, Classical.not_not.2 hup⟩
  unfold syncSendStep
  simp only [if_neg hgo, hroot, if_true, Bool.not_true, Bool.false_and, Bool.false_eq_true, if_false]

/-- What a child notes of a TIME_SYNC: when it came, what it says, and the number of the request that answers it. -/
def syncNoted (v : State) (p : List Nat) : HlLink :=
  { hlOf v 0 with
    reqNo := ((hlOf v 0).reqNo + 1) % 2 ^ 32, t1 := some (timeOfWords p), t2 := stampOf v.now, t3 := stampOf v.now
    traceable := bitOf (atD p 4 0) 0, rootState := bitsOf (atD p 4 0) 3 1, rootUtc := signedOf 16 (bitsOf (atD p 4 0) 31 16) }

/-- A child that does not know the path delay notes the time, and asks for it. -/
theorem timeSyncStep_first (huplink : n = 0) (h : hlTake s 0 0x10 false ws = .inr (p, v)) (hup : hlState v 0 = 3) (hdelay : (hlOf v 0).delay = none) :
    timeSyncStep s n ws = hlSend (setHl v 0 (syncNoted v p)) 0 0x11 [((hlOf v 0).reqNo + 1) % 2 ^ 32] := by
  have hgo : ¬ ((0 : Nat) ≠ 0 ∨ hlState v 0 ≠ 3) := not_or.2 ⟨fun e => e rfl, Classical.not_not.2 hup⟩
  have hnoted : (hlOf (setHl v 0 (syncNoted v p)) 0).reqNo = ((hlOf v 0).reqNo + 1) % 2 ^ 32 := congrArg HlLink.reqNo (hlOf_setHl ..)
  subst huplink
  rw [← hnoted]
  unfold timeSyncStep
  simp only [h, if_neg hgo]
  split
  · next d hd => exact absurd (hdelay.symm.trans hd) (Option.some_ne_none d).symm
  · rfl

theorem timeReqStep_up (h : hlTake s n 0x11 false ws = .inr (p, v)) (hdown : n ≠ 0) (hup : hlState v n = 3) :
    timeReqStep s n ws = hlSend v n 0x12 (atD p 0 0 :: timeWords (stampOf v.now)) := by
  have hgo : ¬ (n = 0 ∨ hlState v n ≠ 3) := not_or.2 ⟨hdown, Classical.not_not.2 hup⟩
  simp only [timeReqStep, h, if_neg hgo]

/-- The path delay of an exchange: half of what the two ways take. -/
def pathDelay (h : HlLink) (t1 t4 : Ticks) : Int := (((h.t2 : Int) - (t1 : Int)) + ((t4 : Int) - (h.t3 : Int))) / 2

/-- The answer to the last request gives the path delay. -/
theorem timeRespStep_answered {t1 : Ticks} (huplink : n = 0) (h : hlTake s 0 0x12 false ws = .inr (p, v)) (hup : hlState v 0 = 3)
    (hsent : (hlOf v 0).t1 = some t1) (hreq : atD p 0 0 = (hlOf v 0).reqNo) :
    timeRespStep s n ws =
      setHl v 0 { hlOf v 0 with delay := some (pathDelay (hlOf v 0) t1 (timeOfWords (p.drop 1))).toNat } := by
  have hgo : ¬ ((0 : Nat) ≠ 0 ∨ hlState v 0 ≠ 3 ∨ atD p 0 0 ≠ (hlOf v 0).reqNo) :=
    not_or.2 ⟨fun e => e rfl, not_or.2 ⟨Classical.not_not.2 hup, Classical.not_not.2 hreq⟩⟩
  subst huplink
  unfold timeRespStep
  simp only [h, hsent, if_neg hgo]
  rfl

end

/-- Settles O47: each message and each timer is its step, and a link that goes down leaves nothing that waits. -/
theorem hingeLinksComeUpGoDownAndCarryTime : Obligations.HingeLinksComeUpGoDownAndCarryTime := by
  unfold Obligations.HingeLinksComeUpGoDownAndCarryTime
  refine ⟨?links, ?time⟩
  case links =>
    intro t hl m s calm w n
    refine ⟨?link, ?nak, ?retransmit, ?keepalive, ?silence, ?budget, ?down, ?waiting⟩
    case link =>
      intro p v htake htrain h
      have hspine : spine v = spine s := (spine_of_hlTake htake).trans (spine_tickTo ..)
      refine ⟨fun hface => act_calm calm calm.served.awake (linkStep_sameFace htake htrain hface) ?_,
        fun hface hdown => act_calm calm calm.served.awake (linkStep_up htake htrain hface hdown) ?_⟩
      · rw [spine_setHlState, spine_setHl, hspine]
      · rw [sendLink, spine_hlSend, spine_setHlState, spine_setHl, spine_setHl, hspine]
    case nak =>
      intro p v htake hup
      refine act_calm calm calm.served.awake (nakStep_up htake hup) ?_
      rw [spine_hlResend, spine_hlAck, spine_of_hlTake htake, spine_tickTo]
    case retransmit =>
      intro x xs hwindow hup
      exact ⟨fun hdue => act_calm calm calm.served.awake (retransmitStep_due (s := w) hwindow hup hdue) (spine_hlResend ..),
        fun hearly => act_calm calm calm.served.awake (retransmitStep_early (s := w) hwindow hearly) rfl⟩
    case keepalive =>
      intro halive
      exact act_calm calm calm.served.awake (keepaliveStep_alive (s := w) halive) (spine_hlSend ..)
    case silence =>
      intro hheard hdue
      exact act_hlDown calm (silenceStep_due (s := w) hheard hdue)
    case budget =>
      intro hspent
      exact act_hlDown calm (budgetStep_spent (s := w) hspent)
    case down =>
      intro hdown hheard hsorted
      exact hlState_hlDown (s := w) hl.isLt hdown hheard hsorted 1
    case waiting =>
      intro T hwait hsince
      exact ⟨fun hdue => act_calm calm calm.served.awake (waitingStep_due (s := w) hsince hwait hdue) (spine_raiseDomain ..),
        fun hearly => act_calm calm calm.served.awake (waitingStep_early (s := w) hsince hearly) rfl⟩
  case time =>
    intro t hl m s calm w n
    refine ⟨?send, ?sync, ?req, ?resp⟩
    case send =>
      intro hdown hup hroot
      exact act_calm calm calm.served.awake (syncSendStep_root (s := w) hdown hup hroot) (spine_hlSend ..)
    case sync =>
      intro p v hn htake hup hdelay h x
      refine act_calm calm calm.served.awake (timeSyncStep_first hn htake hup hdelay) ?_
      rw [spine_hlSend, spine_setHl, spine_of_hlTake htake, spine_tickTo]
    case req =>
      intro p v hdown htake hup
      refine act_calm calm calm.served.awake (timeReqStep_up htake hdown hup) ?_
      rw [spine_hlSend, spine_of_hlTake htake, spine_tickTo]
    case resp =>
      intro p v t1 hn htake hup hsent hreq h d
      refine act_calm calm calm.served.awake (timeRespStep_answered hn htake hup hsent hreq) ?_
      rw [spine_setHl, spine_of_hlTake htake, spine_tickTo]

/-! ### A device asks to join (R335) -/

section
variable {s v : State} {n : Nat} {p ws : List Nat}

/-- The serial number that a JOIN or its answer carries. -/
def joinSerial (p : List Nat) : Nat := atD p 0 0 + atD p 1 0 * 2 ^ 32

/-- The state that knows by which link a JOIN came. -/
def joinNoted (v : State) (n : Nat) (p : List Nat) : State := { v with hlJoins := mapPut v.hlJoins (joinSerial p) n }

/-- The root answers a JOIN itself. -/
theorem joinStep_root (h : hlTake s n 0x20 true ws = .inr (p, v)) (hdown : n ≠ 0) (hroot : domainState v = 0) :
    joinStep s n ws = rootJoin (joinNoted v n p) n p := by
  unfold joinStep
  simp only [h, if_neg hdown]
  exact if_pos hroot

/-- A member passes a JOIN up, whose parent has been named before. -/
theorem joinStep_member (h : hlTake s n 0x20 true ws = .inr (p, v)) (hdown : n ≠ 0) (hmember : domainState v = 1)
    (hnamed : bitOf (atD p 2 0) 31 = true) :
    joinStep s n ws = hlSendSeq (joinNoted v n p) 0 0x20 [atD p 0 0, atD p 1 0, atD p 2 0] := by
  have hroot : domainState v ≠ 0 := by omega
  unfold joinStep
  simp only [h, if_neg hdown, hnamed, if_true]
  exact (if_neg hroot).trans (if_pos hmember)

theorem spine_domainChanged (s : State) : spine (domainChanged s) = spine s := by
  unfold domainChanged
  simp only
  split
  · rw [(sendTopology_frame _).1, spine_raiseDomain, spine_setProp]
  · rw [spine_raiseDomain, spine_setProp]

/-- A refusal is sent; a grant is noted, entered into the map, sent and made known. -/
theorem spine_rootJoin (s : State) (n : Nat) (p : List Nat) : spine (rootJoin s n p) = spine s := by
  unfold rootJoin
  simp only
  split
  · exact spine_hlSendSeq ..
  · rw [spine_domainChanged, spine_hlSendSeq, spine_setProp]
    split
    · exact spine_ite (spine_setProp ..) rfl
    · rfl

/-! ### The root grants a number (R335) -/

variable {serial want depth : Nat}

theorem grant_taken (hw : want ≤ 511) (h : numberTaken s serial want = true) : grant s serial want depth = .inr 1 := by
  simp only [grant, hw, decide_true, h, Bool.and_self, if_true]

theorem grant_tooDeep (h : numberTaken s serial want = false) (hdepth : 6 < depth) : grant s serial want depth = .inr 2 := by
  simp only [grant, h, Bool.and_false, Bool.false_eq_true, if_false, if_pos hdepth]

/-- Where one number is free for a serial, fewer than 512 are taken. -/
theorem taken_lt (hw : want ≤ 511) (h : numberTaken s serial want = false) :
    ((List.range 512).filter fun d => numberTaken s serial d).length < 512 := by
  have hmem : want ∈ List.range 512 := List.mem_range.2 (Nat.lt_succ_of_le hw)
  have hlt : ((List.range 512).filter fun d => numberTaken s serial d).length < (List.range 512).length :=
    List.length_filter_lt_length_iff_exists.2 ⟨want, hmem, by rw [h]; exact Bool.false_ne_true⟩
  rwa [List.length_range] at hlt

/-- A free number is granted to a place that is not too deep. -/
theorem grant_free (hw : want ≤ 511) (h : numberTaken s serial want = false) (hdepth : depth ≤ 6) :
    grant s serial want depth = .inl want := by
  simp only [grant, hw, decide_true, h, Bool.and_false, Bool.false_eq_true, if_false, if_neg (Nat.not_lt.2 hdepth),
    if_neg (Nat.not_le.2 (taken_lt hw h)), if_true]

/-! ### The answer to a JOIN (R335) -/

/-- The state of a device that its root has made a member. -/
def joined (v : State) (p : List Nat) : State :=
  setProp (setDomain v (atD p 3 0 % 512) (atD p 4 0 % 8) (getPropN v sysObj pSystemHlDomain 2) 1) sysObj pSystemHlRoot 0
    (atD p 5 0 + atD p 6 0 * 2 ^ 32 : Nat)

/-- The state of a device that its root has refused. -/
def refused (v : State) : State := setHlState (setDomain v (ownNumber v) 0 1 4) 0 4 3

theorem joinAckStep_joined (huplink : n = 0) (h : hlTake s 0 0x21 true ws = .inr (p, v)) (hown : joinSerial p = Config.serial)
    (hwait : domainState v = 2) (hok : atD p 2 0 % 256 = 0) : joinAckStep s n ws = raiseDomain (joined v p) 0 := by
  subst huplink
  unfold joinAckStep
  simp only [h]
  exact (if_neg fun e => e rfl).trans ((if_pos hown).trans ((if_neg fun e => e hwait).trans (if_pos hok)))

theorem joinAckStep_refused (huplink : n = 0) (h : hlTake s 0 0x21 true ws = .inr (p, v)) (hown : joinSerial p = Config.serial)
    (hwait : domainState v = 2) (hno : atD p 2 0 % 256 ≠ 0) :
    joinAckStep s n ws = raiseDomain (refused v) (bitsOf (atD p 2 0) 15 8) := by
  subst huplink
  unfold joinAckStep
  simp only [h]
  exact (if_neg fun e => e rfl).trans ((if_pos hown).trans ((if_neg fun e => e hwait).trans (if_neg hno)))

/-- The answer to another device's JOIN goes down the link by which that came. -/
theorem joinAckStep_passed {k : Nat} (huplink : n = 0) (h : hlTake s 0 0x21 true ws = .inr (p, v))
    (hother : joinSerial p ≠ Config.serial) (hlink : mapGet v.hlJoins (joinSerial p) = some k) :
    joinAckStep s n ws = hlSendSeq { v with hlJoins := mapDel v.hlJoins (joinSerial p) } k 0x21 p := by
  subst huplink
  unfold joinAckStep
  simp only [h]
  refine (if_neg fun e => e rfl).trans ((if_neg hother).trans ?_)
  rw [← joinSerial, hlink]

/-! ### The map of the domain (R342) -/

theorem spine_collect (s : State) (n typ gid : Nat) (head : List Nat) (frag : Nat) (body : List Nat) :
    spine (collect s n typ gid head frag body).2 = spine s := by
  unfold collect
  simp only
  repeat' split
  all_goals rfl

/-- A map entry of a TOPOLOGY. -/
def setMapEntry (s : State) (e : Nat) : State := setProp s sysObj pSystemHlMap (bitsOf e 31 23) ((e % 65536 : Nat) : Int)

/-- The map that a whole TOPOLOGY gives. -/
def mapped (s : State) (es : List Nat) : State :=
  es.foldl setMapEntry ((List.range 512).foldl (fun s d => setProp s sysObj pSystemHlMap d 0) s)

theorem spine_mapped (s : State) (es : List Nat) : spine (mapped s es) = spine s := by
  unfold mapped setMapEntry
  rw [spine_foldl fun u e => spine_setProp u sysObj pSystemHlMap _ _, spine_foldl fun u d => spine_setProp u sysObj pSystemHlMap d 0]

theorem topologyStep_runs (hmember : domainState v = 1) : ¬ ((0 : Nat) ≠ 0 ∨ domainState v ≠ 1) :=
  not_or.2 ⟨fun e => e rfl, fun e => e hmember⟩

variable {x : State}

/-- A member with nothing below it keeps the part of a TOPOLOGY that has come. -/
theorem topologyStep_part (huplink : n = 0) (h : hlTake s 0 0x22 true ws = .inr (p, v)) (hmember : domainState v = 1)
    (hleaf : downLinks v = []) (hpart : collect v 0 0x22 0 [] (atD p 0 0) (p.drop 1) = (none, x)) : topologyStep s n ws = x := by
  subst huplink
  unfold topologyStep
  simp only [h, if_neg (topologyStep_runs hmember), hleaf, List.foldl_nil, hpart]

/-- A whole TOPOLOGY becomes the map of such a member. -/
theorem topologyStep_whole {es : List Nat} (huplink : n = 0) (h : hlTake s 0 0x22 true ws = .inr (p, v)) (hmember : domainState v = 1)
    (hleaf : downLinks v = []) (hall : collect v 0 0x22 0 [] (atD p 0 0) (p.drop 1) = (some es, x)) :
    topologyStep s n ws = raiseDomain (setProp (mapped x es) sysObj pSystemHlDomain 2 (mapCount (mapped x es))) 6 := by
  subst huplink
  unfold topologyStep
  simp only [h, if_neg (topologyStep_runs hmember), hleaf, List.foldl_nil, hall]
  rfl

end

/-- Settles O48: a JOIN, its answer and a TOPOLOGY are each taken as their step says, and a number is granted that is free. -/
theorem devicesJoinTheDomain : Obligations.DevicesJoinTheDomain := by
  unfold Obligations.DevicesJoinTheDomain
  intro t hl m s calm w n
  refine ⟨?join, ?grant, ?answer, ?topology⟩
  case join =>
    intro p v hdown htake u
    have hspine : spine v = spine s := (spine_of_hlTake htake).trans (spine_tickTo ..)
    exact ⟨fun hroot => act_calm calm calm.served.awake (joinStep_root htake hdown hroot) ((spine_rootJoin ..).trans hspine),
      fun hmember hnamed =>
        act_calm calm calm.served.awake (joinStep_member htake hdown hmember hnamed) ((spine_hlSendSeq ..).trans hspine)⟩
  case grant =>
    intro serial want depth hw
    exact ⟨grant_taken hw, grant_tooDeep, grant_free hw⟩
  case answer =>
    intro p v hn htake
    have hspine : spine v = spine s := (spine_of_hlTake htake).trans (spine_tickTo ..)
    refine ⟨fun hown hwait hok => act_calm calm calm.served.awake (joinAckStep_joined hn htake hown hwait hok) ?_,
      fun hown hwait hno => act_calm calm calm.served.awake (joinAckStep_refused hn htake hown hwait hno) ?_,
      fun k hother hlink => act_calm calm calm.served.awake (joinAckStep_passed hn htake hother hlink) ?_⟩
    · rw [spine_raiseDomain, spine_setProp, spine_setDomain, hspine]
    · rw [spine_raiseDomain, spine_setHlState, spine_setDomain, hspine]
    · exact (spine_hlSendSeq ..).trans hspine
  case topology =>
    intro p v x hn htake hmember hleaf
    have hspine (r : Option (List Nat)) (hr : collect v 0 0x22 0 [] (atD p 0 0) (p.drop 1) = (r, x)) : spine x = spine s := by
      have hx := spine_collect v 0 0x22 0 [] (atD p 0 0) (p.drop 1)
      rw [hr] at hx
      exact hx.trans ((spine_of_hlTake htake).trans (spine_tickTo ..))
    exact ⟨fun hpart => act_calm calm calm.served.awake (topologyStep_part hn htake hmember hleaf hpart) (hspine _ hpart),
      fun es hall => act_calm calm calm.served.awake (topologyStep_whole hn htake hmember hleaf hall)
        ((spine_raiseDomain ..).trans ((spine_setProp ..).trans ((spine_mapped x es).trans (hspine _ hall))))⟩

end Sys2Proof.HingeLinks
end
